-- ==== Sys2Proof/Word.lean ====
section
/-! DEFINITION. The word types of the FZ9: a v or s register (R52, R53), a 64-bit instruction word or
register pair (R72, R74), a byte of memory, and a lane mask of a group of at most 128 threads (R43). -/

namespace Sys2Proof

/-- One v or s register, and one integer lane (R52, R78). -/
abbrev Word := BitVec 32

/-- One instruction word, or a register pair (R72, R74). -/
abbrev DWord := BitVec 64

/-- One byte; memory is byte-addressed and little-endian (R5). -/
abbrev Byte := BitVec 8

/-- A set of lanes of a group: bit n is lane n (R43, Table 03-5 LANES). -/
abbrev Mask := BitVec 128

end Sys2Proof
end

