-- ==== Sys2Proof/Syntax.lean ====
section
/-! DEFINITION. The commands of the FZ9: one constructor of Instr for each row of spec/opcode_table.json, with
the operands the row's rule gives it. A Krycha instruction (the rows ADD to AMO_TSET) names the active pane and
group slot that issues it and carries its 64-bit instruction word or words as Tables 04-2 to 04-14 lay them out. An
event or message row names the unit it happens at and carries what arrives with it: the packet, the cell, the
message, the measured value, or the verdict of a detector. -/

namespace Sys2Proof

/-- The verdict of a code on one read (R159, R161): no error, corrected, or beyond correction. -/
inductive Ecc where
  | good | correctable | uncorrectable
  deriving DecidableEq, Repr

/-- What a read of one sector from the stack meets (R160): the symbols that differ from what was stored, 0 to 31 of the data and 32
to 35 of the check bits, each with its difference, and whether the sector was read from or written to a wrong address. -/
structure CodeError where
  symbols : List (Nat × Byte) := []
  address : Bool := false
  deriving DecidableEq, Repr

/-- Where a dual-rail stage stands (Table 16-3). -/
inductive FaultLoc where
  /-- physical row `row` of the pane that holds active number `pane` -/
  | cubeRow (pane row : Nat)
  /-- any other part of that pane, its router's ports included -/
  | paneOther (pane : Nat)
  /-- a mesh through-path of a sash -/
  | meshThrough (sash : Nat)
  | mullion
  /-- the logic of one sill -/
  | sillLogic (stack : Nat)
  | frameDie
  deriving DecidableEq, Repr

/-- A word of a pane's SRAM that SEC-DED covers (Table 16-1): a register or predicate of a group slot, the local-store word or
accumulator slot at a byte offset, a sector of the pane cache by its key, or a sector of the instruction cache. -/
inductive SramPlace where
  | vreg (slot lane n : Nat)
  | sreg (slot n : Nat)
  | pred (slot n : Nat)
  | local (off : Nat)
  | cached (key : Nat)
  | code (sector : Nat)
  | acc (off : Nat)
  deriving DecidableEq, Repr

/-- An upset of a word of SRAM: one bit, or two (R354). -/
structure Strike where
  place  : SramPlace
  double : Bool
  deriving DecidableEq, Repr

/-- What a fault adds to a cube step (R116): K step `kk` and element (i, j) of its matrix instruction, the error of the exact sum
and of the sum with the aligned accumulator in units of their least significant bits, and the error of the rounded encoding. -/
structure CubeError where
  kk    : Nat
  i     : Nat
  j     : Nat
  sum   : Int := 0
  acc   : Int := 0
  round : Int := 0
  deriving DecidableEq, Repr

/-- One fault of a cube step: where it acts and the error that it adds there. -/
structure StepFault where
  kk  : Nat
  i   : Nat
  j   : Nat
  off : Int
  deriving DecidableEq, Repr

/-- A waiter on an arrival counter: the path of a group whose lowest lane is `lane` (R87), or a queue's WAIT
descriptor (R285). -/
inductive Waiter where
  | path (pane slot lane : Nat)
  | queue (part queue : Nat)
  deriving DecidableEq, Repr

/-- A packet of the fabric (Table 13-4), on a door, the mesh or the mullion. `rsv` gathers the reserved bits;
`poison` lists the data slots whose sector is carried as poison, of an ACCPUT the target sectors of eight elements (R70,
R221). `via` is the door it came by, `origin` the
pane of this chip that sent it; `progress` is how many of its sectors have been performed, with their status (R181), and `waits` the
forwarded writes among them (R165). -/
structure Packet where
  type   : Nat
  vc     : Nat := 0
  dst    : Nat := 0
  src    : Nat := 0
  job    : Nat := 0
  tid    : Nat := 0
  dlen   : Nat := 0
  sz     : Nat := 0
  ord    : Nat := 0
  rce    : Bool := false
  sgn    : Bool := false
  aop    : Nat := 0
  status : Nat := 0
  elt    : Nat := 0
  arg    : Nat := 0
  space  : Nat := 0
  taddr  : Nat := 0
  rctr   : Nat := 0
  rsv    : Nat := 0
  data   : List Byte := []
  poison : List Nat := []
  via    : Option Nat := none
  origin : Option Nat := none
  progress : Nat × Nat := (0, 0)
  waits  : List Nat := []
  deriving DecidableEq, Repr

/-- A segment's partial increment on its way to the counter's server (R219). -/
structure Partial where
  src    : Nat
  tid    : Nat
  job    : Nat
  nseg   : Nat
  rctr   : Nat
  status : Nat
  deriving DecidableEq, Repr

/-- A synchronisation cell (Table 13-7); `payload` is bits [767:320]. -/
structure SyncCell where
  skind   : Nat
  domain  : Nat
  origin  : Nat
  hops    : Nat := 0
  job     : Nat := 0
  cause   : Nat := 0
  step    : Nat := 0
  txtime  : Nat := 0
  corr    : Int := 0
  rxtime  : Nat := 0
  payload : Nat := 0
  rsv     : Nat := 0
  deriving DecidableEq, Repr

/-- A block of a door's stream as it arrives (Table 13-3): the fields of its trailer, the 512 bytes of its four cells, the verdict of its
FEC and how many symbols that corrected (R298), and for each packet that ends in it the data slots that are carried as poison, for
which the format has no bits. -/
structure Block where
  bseq    : Nat
  back    : Nat
  nak     : Bool
  kinds   : Nat := 0
  rsv     : Nat := 0
  body    : List Byte := []
  crc     : Nat := 0
  fecOk   : Bool := true
  symbols : Nat := 0
  poison  : List (List Nat) := []
  deriving DecidableEq, Repr

/-- An identity block (R293): role 0 is an FZ9 module and 1 a switch. -/
structure Identity where
  role   : Nat
  chip   : Nat
  door   : Nat
  domain : Nat
  credit0 : Nat
  credit1 : Nat
  deriving DecidableEq, Repr

/-- The interface a Transom message uses (R324). -/
inductive Iface where
  | host | sideband
  deriving DecidableEq, Repr

/-- A Transom message (Tables 15-4 and R343): the header, the verdict on its TAG, and the body's address and value.
`rsv` gathers the header's reserved bits and any STATUS or MORE a request carries; `arsv` the address's. -/
structure TMsg where
  iface   : Iface
  session : Nat
  seq     : Nat
  index   : Nat := 0
  sub     : Nat := 0
  row     : Nat := 0
  nrows   : Nat := 0
  value   : List Byte := []
  ver     : Nat := 1
  lenOk   : Bool := true
  tagOk   : Bool := true
  rsv     : Nat := 0
  arsv    : Nat := 0
  deriving DecidableEq, Repr

/-- How a management command reaches the frame controller (R279): as the next descriptor of a queue, or as a write of
OD 0x6010. -/
inductive CmdPath where
  | queue (part queue : Nat)
  | session (m : TMsg)
  deriving DecidableEq, Repr

/-- What an Ethernet frame that reaches the host port carries (R315, R316, R317, R324, R325, R435): a UDP datagram that is
neither RoCEv2 nor PTP names its port, its bytes and its first byte, and a PAUSE its time in quanta of 512 bit times. -/
inductive FrameKind where
  | roce (qpn : Nat) (congested : Bool)
  | datagram (port bytes first : Nat)
  | ptp
  | neighbour
  | echo
  | pause (priority quanta : Nat)
  | fragment
  | other
  deriving DecidableEq, Repr

/-- An Ethernet frame at the host port's MAC (R315); `buffered` is what the receive buffer holds with it, in bytes. -/
structure Frame where
  length   : Nat
  fcsOk    : Bool
  ipv6     : Bool
  vlan     : Option Nat
  kind     : FrameKind
  buffered : Nat := 0
  deriving DecidableEq, Repr

/-- The transport of a RoCEv2 packet (R317). -/
inductive Transport where
  | rc | uc | ud | xrc
  deriving DecidableEq, Repr

/-- What a RoCEv2 packet asks for (R317). -/
inductive RdmaOp where
  | send | write | read | atomic | window
  deriving DecidableEq, Repr

/-- Where a RoCEv2 packet stands in its message (R317). -/
inductive RdmaPlace where
  | first | middle | last | only
  deriving DecidableEq, Repr

/-- A RoCEv2 request packet (R317): its opcode, spelled as transport, operation, place in the message, and whether it carries immediate data
or an invalidation; its queue pair and PSN; the key, address and length that the first packet of a WRITE or a READ names; and its
payload. -/
structure Rdma where
  qpn   : Nat
  psn   : Nat
  transport : Transport := .rc
  op    : RdmaOp
  place : RdmaPlace := .only
  extra : Bool := false
  rkey  : Nat := 0
  va    : Nat := 0
  len   : Nat := 0
  data  : List Byte := []
  deriving DecidableEq, Repr

/-- A Neighbor Discovery message (R316): a solicitation of an address, or a router's announcement of a prefix with its length. -/
inductive Neighbour where
  | solicit (target : Nat)
  | announce (network length : Nat)
  deriving DecidableEq, Repr

/-- A PTP Sync as the port evaluates it (R325): the domain number, and the offset of the lintel from PTP time in
nanoseconds once an offset is known. -/
structure PtpSync where
  domain      : Nat
  grandmaster : Nat
  offset      : Option Int
  valid       : Bool := true
  deriving DecidableEq, Repr

/-- Round 1 of a host-port OPEN (Table 20-7); keys and nonces are little-endian numbers. -/
structure Open1 where
  part  : Nat
  rsv   : Nat
  nonce : Nat
  ek    : Nat
  key   : List Byte
  deriving DecidableEq, Repr

/-- Round 2 of a host-port OPEN (Table 20-7) with the verdicts on its signature and TAG. -/
structure Open2 where
  session : Nat
  sigOk   : Bool
  tagOk   : Bool
  rsv     : Nat
  deriving DecidableEq, Repr

/-- What the chip SOURCE answers for the copy a restore names (R410): whether it holds a COMPLETE copy, whether the copy
is INVALID, its covered pools with their sizes, the blocks it holds (pool × 2^27 + block), and what the snapshot recorded: its
step, and KLS and RUN for the next (R397). -/
structure RestoreSource where
  complete : Bool
  invalid  : Bool
  pools    : List (Nat × Nat)
  blocks   : List Nat
  step     : Nat
  kls      : Int
  run      : Nat
  deriving DecidableEq, Repr

/-- What a snapshot records beside its blocks (R397, Table 18-6), as its blocks bring it to the buddy: the step, the arming
time, KLS and RUN for the next step, and the size of each covered pool. -/
structure SnapHeader where
  step  : Nat
  tarm  : Nat
  kls   : Int
  run   : Nat
  pools : List (Nat × Nat)
  deriving DecidableEq, Repr

/-- Why the input switches off (Table 21-3): VIN48 in millivolts with the microseconds it stayed past a threshold, or
the input current limit. -/
inductive TurnOff where
  | voltage (millivolts microseconds : Nat)
  | overcurrent (amperes : Nat)
  deriving DecidableEq, Repr

/-- What stage 1 and 2 of a start find (R355, R367, R429, R430, R456, R457). -/
structure StartInputs where
  slot        : Nat
  external    : Bool
  externalOk  : Bool
  pufOk       : Bool
  mramOk      : Bool
  randomOk    : Bool
  committedOk : Bool
  primaryOk   : Bool
  mirrorOk    : Bool
  deriving DecidableEq, Repr

/-- A delivery SEGMENT (Table 20-5). -/
structure Segment where
  source : Nat
  bootid : Nat
  offset : Nat
  rsv    : Nat
  body   : List Byte
  deriving DecidableEq, Repr

/-- The verdicts on a bundle's signatures and digests (Table 20-4, R434, R440) and the fuse floor that the bundle
carries (R441). A test pack's signer is 0 for none, 1 for Lamtathen and 2 for the owner. -/
structure BundleVerdict where
  sigOk     : Bool
  digestsOk : Bool
  signers   : List (Nat × Nat)
  tokenOk   : Bool
  burn      : Nat
  deriving DecidableEq, Repr

/-- One command: a row of spec/opcode_table.json with its operands. -/
inductive Instr where
  /-- ADD (R78). Integer or scalar add, D = A + B modulo 2^32, in register or immediate form. -/
  | add (pane slot : Nat) (w : DWord)
  /-- SUB (R78). Integer or scalar subtract, D = A − B modulo 2^32. -/
  | sub (pane slot : Nat) (w : DWord)
  /-- MUL_LO (R78). Low 32 bits of the product A × B. -/
  | mulLo (pane slot : Nat) (w : DWord)
  /-- MUL_HI (R78). High 32 bits of the signed or unsigned product A × B. -/
  | mulHi (pane slot : Nat) (w : DWord)
  /-- MAD_LO (R78). Low 32 bits of A × B plus C. -/
  | madLo (pane slot : Nat) (w : DWord)
  /-- MIN (R78). Signed or unsigned integer minimum, selected by MOD[3]. -/
  | min (pane slot : Nat) (w : DWord)
  /-- MAX (R78). Signed or unsigned integer maximum, selected by MOD[3]. -/
  | max (pane slot : Nat) (w : DWord)
  /-- ABS (R78). Integer absolute value; abs(−2^31) gives −2^31. -/
  | abs (pane slot : Nat) (w : DWord)
  /-- AND (R78). Bitwise and. -/
  | and (pane slot : Nat) (w : DWord)
  /-- OR (R78). Bitwise or. -/
  | or (pane slot : Nat) (w : DWord)
  /-- XOR (R78). Bitwise exclusive or. -/
  | xor (pane slot : Nat) (w : DWord)
  /-- NOT (R78). Bitwise complement of A. -/
  | not (pane slot : Nat) (w : DWord)
  /-- SHL (R78). Logical left shift by bits [4:0] of the second source. -/
  | shl (pane slot : Nat) (w : DWord)
  /-- SHR (R78). Logical right shift by bits [4:0] of the second source. -/
  | shr (pane slot : Nat) (w : DWord)
  /-- SAR (R78). Arithmetic right shift by bits [4:0] of the second source. -/
  | sar (pane slot : Nat) (w : DWord)
  /-- POPC (R78). Population count of A. -/
  | popc (pane slot : Nat) (w : DWord)
  /-- CLZ (R78). Count of leading zeros of A; 32 for zero. -/
  | clz (pane slot : Nat) (w : DWord)
  /-- BREV (R78). Bit reversal of A. -/
  | brev (pane slot : Nat) (w : DWord)
  /-- SETP (R78). Integer compare of A and B by MOD condition, writing a predicate. -/
  | setp (pane slot : Nat) (w : DWord)
  /-- SEL (R78). Selects A or B by predicate pC. -/
  | sel (pane slot : Nat) (w : DWord)
  /-- MOV (R78). Copies B, a register or an immediate, to D. -/
  | mov (pane slot : Nat) (w : DWord)
  /-- SHFL_IDX (R78). Reads A from the lane (B mod W) as it stands. -/
  | shflIdx (pane slot : Nat) (w : DWord)
  /-- SHFL_XOR (R78). Reads A from the lane (own lane xor B) mod W. -/
  | shflXor (pane slot : Nat) (w : DWord)
  /-- VOTE (R78). Any, all or ballot of predicate pA over the active lanes. -/
  | vote (pane slot : Nat) (w : DWord)
  /-- FP_ADD (R79). FP32, FP64 or packed FP16 add with the rounding selected by MOD[1:0] and the sticky flags updated. -/
  | fpAdd (pane slot : Nat) (w : DWord)
  /-- FP_SUB (R79). Floating-point subtract with the rounding of MOD[1:0]. -/
  | fpSub (pane slot : Nat) (w : DWord)
  /-- FP_MUL (R79). Floating-point multiply. -/
  | fpMul (pane slot : Nat) (w : DWord)
  /-- FP_FMA (R79). Fused multiply-add, A × B + C with one rounding. -/
  | fpFma (pane slot : Nat) (w : DWord)
  /-- FP_MIN (R79). IEEE 754-2019 minimumNumber. -/
  | fpMin (pane slot : Nat) (w : DWord)
  /-- FP_MAX (R79). IEEE 754-2019 maximumNumber. -/
  | fpMax (pane slot : Nat) (w : DWord)
  /-- FP_ABS (R79). Clears the sign bit with no rounding; the NaN payload is kept. -/
  | fpAbs (pane slot : Nat) (w : DWord)
  /-- FP_NEG (R79). Flips the sign bit with no rounding. -/
  | fpNeg (pane slot : Nat) (w : DWord)
  /-- FP_SETP (R79). Floating-point compare, including the unordered condition, writing a predicate. -/
  | fpSetp (pane slot : Nat) (w : DWord)
  /-- CVT (R80). Conversion selected by MOD[3:2] within the FP32, FP64 or FP16 class. -/
  | cvt (pane slot : Nat) (w : DWord)
  /-- RCP (R79). Correctly rounded FP32 reciprocal. -/
  | rcp (pane slot : Nat) (w : DWord)
  /-- SQRT (R79). Correctly rounded FP32 square root. -/
  | sqrt (pane slot : Nat) (w : DWord)
  /-- RSQRT (R79). FP32 reciprocal square root within 2 ulp, a fixed function of its input bits. -/
  | rsqrt (pane slot : Nat) (w : DWord)
  /-- EXP2 (R79). FP32 base-2 exponential within 2 ulp. -/
  | exp2 (pane slot : Nat) (w : DWord)
  /-- LOG2 (R79). FP32 base-2 logarithm within 2 ulp. -/
  | log2 (pane slot : Nat) (w : DWord)
  /-- SIN (R79). FP32 sine within 2 ulp for abs(A) ≤ 2^20. -/
  | sin (pane slot : Nat) (w : DWord)
  /-- COS (R79). FP32 cosine within 2 ulp for abs(A) ≤ 2^20. -/
  | cos (pane slot : Nat) (w : DWord)
  /-- LD (R82). Per-lane load from local store or memory, relaxed or acquire. -/
  | ld (pane slot : Nat) (w : DWord)
  /-- ST (R82). Per-lane store to local store or memory; memory stores write through; relaxed or release. -/
  | st (pane slot : Nat) (w : DWord)
  /-- LD_S (R82). One uniform load for the group into an s register. -/
  | ldS (pane slot : Nat) (w : DWord)
  /-- ATOM_ADD (R83). Local-store atomic add; lanes naming one word are served in ascending lane order. -/
  | atomAdd (pane slot : Nat) (w : DWord)
  /-- ATOM_MIN (R83). Local-store atomic minimum. -/
  | atomMin (pane slot : Nat) (w : DWord)
  /-- ATOM_MAX (R83). Local-store atomic maximum. -/
  | atomMax (pane slot : Nat) (w : DWord)
  /-- ATOM_AND (R83). Local-store atomic and. -/
  | atomAnd (pane slot : Nat) (w : DWord)
  /-- ATOM_OR (R83). Local-store atomic or. -/
  | atomOr (pane slot : Nat) (w : DWord)
  /-- ATOM_XOR (R83). Local-store atomic exclusive or. -/
  | atomXor (pane slot : Nat) (w : DWord)
  /-- ATOM_EXCH (R83). Local-store atomic exchange. -/
  | atomExch (pane slot : Nat) (w : DWord)
  /-- ATOM_CAS (R83). Local-store compare-and-swap; the failing lanes are set aside as a switch point. -/
  | atomCas (pane slot : Nat) (w : DWord)
  /-- ATOM_TSET (R83). Local-store test-and-set; it fails when the old value is non-zero. -/
  | atomTset (pane slot : Nat) (w : DWord)
  /-- NOP (R84). Instruction that does nothing. -/
  | nop (pane slot : Nat) (w : DWord)
  /-- BRA (R85). Relative branch; it may split the path with a reconvergence address. -/
  | bra (pane slot : Nat) (w : DWord)
  /-- CALL (R84). Branch that writes the offset of the next instruction to a v register. -/
  | call (pane slot : Nat) (w : DWord)
  /-- JMP (R85). Indirect branch through a register; it also serves as ret. -/
  | jmp (pane slot : Nat) (w : DWord)
  /-- EXIT (R85). Thread exit; a switch point that lowers every barrier's expected count. -/
  | exit (pane slot : Nat) (w : DWord)
  /-- BAR_PANE (R64). Arrival at one of the cohort's eight pane barriers. -/
  | barPane (pane slot : Nat) (w : DWord)
  /-- RDTIME (R84). Reads the local lintel view into an s pair. -/
  | rdtime (pane slot : Nat) (w : DWord)
  /-- RDSR (R84). Reads the lane index, the active mask, the sticky flags or the numerics profile. -/
  | rdsr (pane slot : Nat) (w : DWord)
  /-- TRAP (R93). Raises the trap exception with the given status. -/
  | trap (pane slot : Nat) (w : DWord)
  /-- FENCE (R189). Full fence at the given scope; at .dev and .sys scope it clears the pane cache. -/
  | fence (pane slot : Nat) (w : DWord)
  /-- FENCE_REL (R189). Release-only fence at the given scope. -/
  | fenceRel (pane slot : Nat) (w : DWord)
  /-- FENCE_ACQ (R189). Acquire-only fence at the given scope. -/
  | fenceAcq (pane slot : Nat) (w : DWord)
  /-- WAIT_CTR (R87). Blocks the path until a counter reaches its target or the timeout passes. -/
  | waitCtr (pane slot : Nat) (w : DWord)
  /-- TEST_CTR (R87). Writes a predicate telling whether a counter has reached its target. -/
  | testCtr (pane slot : Nat) (w : DWord)
  /-- CTR_ADD (R87). Adds to a counter in the issuing pane's local store. -/
  | ctrAdd (pane slot : Nat) (w : DWord)
  /-- CTR_SET (R87). Writes a whole counter word, with its status reset to OK. -/
  | ctrSet (pane slot : Nat) (w : DWord)
  /-- COPY (R68). Reads a copy descriptor and starts an asynchronous rectangular copy. -/
  | copy (pane slot : Nat) (w : DWord)
  /-- MMA (R90). Matrix multiply-accumulate, checked at issue and placed in the matrix queue. -/
  | mma (pane slot : Nat) (w0 w1 : DWord)
  /-- ACC_LD (R108). Loads accumulator tiles and a group record from local store. -/
  | accLd (pane slot : Nat) (w0 w1 : DWord)
  /-- ACC_ST (R108). Stores accumulator tiles and the group record to local store; the group stays open. -/
  | accSt (pane slot : Nat) (w0 w1 : DWord)
  /-- ACC_DRAIN (R112). Converts the group's tiles, applies FUSE, writes them to local store and closes the group. -/
  | accDrain (pane slot : Nat) (w0 w1 : DWord)
  /-- PUT (R214). Remote write, in lane or block form, possibly from accumulator tiles. -/
  | put (pane slot : Nat) (w0 w1 : DWord)
  /-- GET (R214). Remote read, in lane or block form. -/
  | get (pane slot : Nat) (w0 w1 : DWord)
  /-- ACCPUT_ORD (R221). Ordered accumulate-put of a block to memory, carrying a sequence number. -/
  | accputOrd (pane slot : Nat) (w0 w1 : DWord)
  /-- CTR_INC (R214). Adds an s-register value to a remote counter. -/
  | ctrInc (pane slot : Nat) (w0 w1 : DWord)
  /-- AMO_ADD (R215). Remote atomic add. -/
  | amoAdd (pane slot : Nat) (w0 w1 : DWord)
  /-- AMO_MIN (R215). Remote atomic minimum, signed or unsigned. -/
  | amoMin (pane slot : Nat) (w0 w1 : DWord)
  /-- AMO_MAX (R215). Remote atomic maximum, signed or unsigned. -/
  | amoMax (pane slot : Nat) (w0 w1 : DWord)
  /-- AMO_AND (R215). Remote atomic and. -/
  | amoAnd (pane slot : Nat) (w0 w1 : DWord)
  /-- AMO_OR (R215). Remote atomic or. -/
  | amoOr (pane slot : Nat) (w0 w1 : DWord)
  /-- AMO_XOR (R215). Remote atomic exclusive or. -/
  | amoXor (pane slot : Nat) (w0 w1 : DWord)
  /-- AMO_EXCH (R215). Remote atomic exchange. -/
  | amoExch (pane slot : Nat) (w0 w1 : DWord)
  /-- AMO_CAS (R215). Remote compare-and-swap that reports failure. -/
  | amoCas (pane slot : Nat) (w0 w1 : DWord)
  /-- AMO_TSET (R215). Remote test-and-set that reports failure. -/
  | amoTset (pane slot : Nat) (w0 w1 : DWord)
  /-- BARRIER_TIMEOUT (R66). A barrier phase passes the pane barrier timeout and raises the barrier-timeout fault. -/
  | barrierTimeout (cohort bar : Nat)
  /-- MATRIX_QUEUE_HEAD (R104). A matrix instruction at the head of the queue, with its reads permitted, begins its array steps or its tile moves.
  `strikes` are the upsets of the pane's SRAM since the last, `errors` the faults of its cube steps, and `parts` the sectors of a read-out that
  are written now, 0 for all that are left. -/
  | matrixQueueHead (pane : Nat) (strikes : List Strike := []) (errors : List CubeError := []) (parts : Nat := 0)
  /-- CUBE_STEP_VERDICT (R117). A step's residue verdict is ready; on a mismatch the accumulators are restored and the steps repeated.
  The faults of the steps as they are repeated act on exact sums (`sums`), on sums with the accumulator (`accs`) and on results of the rounder
  (`rounds`). -/
  | cubeStepVerdict (pane : Nat) (sums accs rounds : List StepFault)
  /-- VECTOR_CHECK (R353). A vector slice's check ends; a mismatch stops the cohort with CODE 0x32 and re-evaluates the slice. -/
  | vectorCheck (pane slot : Nat) (lanes : Mask) (mismatch again : Bool)
  /-- HANDSHAKE_CODE_FAULT (R26). A stage sees the illegal code 11 on a dual-rail pair. -/
  | handshakeCodeFault (loc : FaultLoc)
  /-- STALL_FAULT (R26). A handshake stays incomplete without a hold past the stall limit.
  The watchdog looks at the handshake at `loc`, incomplete since `since`; `held` is that it stands under a hold token. -/
  | stallFault (loc : FaultLoc) (held : Bool) (since : Nat := 0)
  /-- COPY_COMPLETE (R70). A copy has written its destination and increments its counter with its status.
  `parts` are the parts of its transfer that are made now, 0 for all that are left. -/
  | copyComplete (pane copy : Nat) (parts : Nat := 0)
  /-- REMOTE_TIMEOUT (R229). An operation's timer expires before acknowledgement and it completes with TIMEOUT. -/
  | remoteTimeout (tid : Nat)
  /-- WAIT_TIMEOUT (R36). A wait.ctr or WAIT timer wins against the arrival and the wait completes with TIMEOUT. -/
  | waitTimeout (w : Waiter)
  /-- WAIT_WAKE (R220). A counter reaches a registered waiter's target and the sill wakes the pane. -/
  | waitWake (w : Waiter)
  /-- PUT_PACKET (R212). A PUT segment arrives at its target, is checked in order and written. `parts` are its sectors that are
  written now, 0 for all that are left. -/
  | putPacket (p : Packet) (parts : Nat := 0)
  /-- GET_PACKET (R212). A GET segment arrives at its target and is checked and read. -/
  | getPacket (p : Packet)
  /-- AMO_PACKET (R215). An AMO arrives at its target and performs its read-modify-write. -/
  | amoPacket (p : Packet)
  /-- CTRINC_PACKET (R466). A CTRINC arrives and adds to its counter word. -/
  | ctrincPacket (p : Packet)
  /-- ACCPUT_PACKET (R222). An accumulate piece arrives; it is applied, held, deferred or refused by its sequence number. -/
  | accputPacket (p : Packet)
  /-- ACK_PACKET (R214). An ACK reaches the source and completes a put or ctr.inc, or accepts an accumulate piece. -/
  | ackPacket (p : Packet)
  /-- GETDATA_PACKET (R214). Get data returns to the issuing pane and completes the get. -/
  | getdataPacket (p : Packet)
  /-- AMODATA_PACKET (R215). An amo's old value returns to the pane. -/
  | amodataPacket (p : Packet)
  /-- DEFER_PACKET (R223). An accumulate piece is deferred and kept in the resend buffer. -/
  | deferPacket (p : Packet)
  /-- ACCPUT_RESEND (R223). One microsecond after a DEFER the source resends the piece. -/
  | accputResend (tid piece : Nat)
  /-- CREDIT_PACKET (R301). A CREDIT packet returns freed slots for each VC. -/
  | creditPacket (door vc0 vc1 : Nat)
  /-- PARTIAL_INCREMENT (R219). A segment's partial increment reaches the counter's server, which increments once when all NSEG partials are in. -/
  | partialIncrement (q : Partial)
  /-- PENDING_COUNT_TIMEOUT (R219). A pending counter entry idle for the collective watchdog is discarded without an increment. -/
  | pendingCountTimeout (q : Partial)
  /-- ORDER_STALL (R226). A range's stall timer reaches the watchdog; held pieces are discarded and ORDER_STALL is raised. -/
  | orderStall (part pool range : Nat)
  /-- SILL_ACCESS (R163). A request reaches its sill and is served in order through the cache, ECC and the first-touch check.
  `code` and `other` are the errors of the sector and of the other copy of a mirrored one, and `sram` the verdict of the buffer's SRAM on a hit. -/
  | sillAccess (req : Nat) (code other : CodeError) (sram : Ecc := .good)
  /-- MIRROR_PARTNER_WRITE (R165). A forwarded mirrored write is performed at the partner copy, which completes the write. -/
  | mirrorPartnerWrite (req : Nat)
  /-- SCRUB_READ (R164). Scrub reads sectors once per scrub period and corrects or poisons them: the sector `sector` of
  granule row `row` of a pseudo-channel. -/
  | scrubRead (stack pc row sector : Nat) (code other : CodeError)
  /-- REFRESH_SAMPLE (R170). A 125 µs stack temperature sample sets the refresh multiplier and throttling: the stack's own report
  and the sill's sensor. -/
  | refreshSample (stack report : Nat) (sensor : Nat := 0)
  /-- IMBALANCE_WINDOW (R172). A 10 ms access-count window of `span` nanoseconds ends and is judged for imbalance: the busiest pseudo-channel
  `pc` was busy for `busy` of them, `part` issued most of its accesses, and `ratio` is its count over the mean. -/
  | imbalanceWindow (stack pc part ratio busy span : Nat)
  /-- PC_RETRAIN_DONE (R174). A channel's retrain ends and the held requests resume or the self-test begins: that of the pseudo-channel
  `suspect`, if one is still suspect. -/
  | pcRetrainDone (stack channel : Nat) (suspect : Option Nat)
  /-- PC_SELF_TEST_DONE (R174). A pseudo-channel's targeted test ends; on failure it is retired or marked unrepairable. -/
  | pcSelfTestDone (stack pc : Nat) (pass : Bool)
  /-- PC_MIGRATION_DONE (R175). A retired pseudo-channel's rows are in the reserve and its addresses are redirected. `errors` are those of the
  sectors as they are copied, each by 16 × its granule row + its sector. -/
  | pcMigrationDone (stack pc : Nat) (errors : List (Nat × CodeError) := [])
  /-- POOL_ZEROED (R153). A pool's zeroing ends and the pool becomes READY. -/
  | poolZeroed (part pool : Nat)
  /-- RATE_MONITOR_WINDOW (R29). A rate monitor's 10 µs window ends and updates its entry. -/
  | rateMonitorWindow (monitor khz : Nat)
  /-- LINTEL_VIEW_REFRESH (R37). A frame die refreshes each unit's local lintel view every 8 ns. -/
  | lintelViewRefresh (unit : Nat)
  /-- COHORT_PLACE (R287). The scheduler places the next cohort on a pane that can hold it. -/
  | cohortPlace (part : Nat)
  /-- COHORT_END (R45). A cohort's groups have ended and its copies and remote operations completed, so its resources are freed. -/
  | cohortEnd (cohort : Nat)
  /-- LAUNCH_COMPLETE (R45). All cohorts of a launch have ended and its completion is written. -/
  | launchComplete (part launch : Nat)
  /-- DESC_NOP (R285). NOP descriptor that only completes. -/
  | descNop (part queue : Nat)
  /-- DESC_LAUNCH (R285). LAUNCH descriptor that reads the kernel header and enters the launch table. -/
  | descLaunch (part queue : Nat)
  /-- DESC_WAIT (R285). WAIT descriptor that waits on a counter as wait.ctr does. -/
  | descWait (part queue : Nat)
  /-- DOORBELL_TAIL_WRITE (R282). A TAIL write publishes descriptors to the queue engine. -/
  | doorbellTailWrite (part queue value : Nat)
  /-- DOORBELL_RESUME (R284). A RESUME write takes a HALTED queue back to ACTIVE. -/
  | doorbellResume (part queue : Nat)
  /-- DOORBELL_FHEAD_WRITE (R283). Software records consumed fault records, freeing fault-ring space. -/
  | doorbellFheadWrite (part queue value : Nat)
  /-- PARTITION_CREATE (R271). A partition descriptor written to OD 0x6002 creates a partition. -/
  | partitionCreate (m : TMsg)
  /-- PARTITION_RESIZE (R272). A partition descriptor written to OD 0x6003 resizes a partition. -/
  | partitionResize (m : TMsg)
  /-- RESIZE_DONE (R272). Every removed pane has ended its cohorts and been cleared, so the resize completes. -/
  | resizeDone (part : Nat)
  /-- PARTITION_DESTROY (R273). A write to OD 0x6004 fences, strips and destroys a partition. -/
  | partitionDestroy (m : TMsg)
  /-- POOL_CREATE (R280). Management command that creates and zeroes a pool. -/
  | poolCreate (via : CmdPath)
  /-- POOL_RELEASE (R280). Management command that removes a pool and all its mappings. -/
  | poolRelease (via : CmdPath)
  /-- MAP (R280). Management command that maps memory or doorbell pages. -/
  | map (via : CmdPath)
  /-- UNMAP (R280). Management command that removes mappings. -/
  | unmap (via : CmdPath)
  /-- QUEUE_CREATE (R280). Management command that creates a queue. -/
  | queueCreate (via : CmdPath)
  /-- QUEUE_DESTROY (R280). Management command that stops and removes a queue. -/
  | queueDestroy (via : CmdPath)
  /-- SHARD_REGISTER (R235). Management command that registers an update shard. -/
  | shardRegister (via : CmdPath)
  /-- SHARD_DEREGISTER (R238). Management command that deregisters a shard at the step boundary. -/
  | shardDeregister (via : CmdPath)
  /-- CONTROL_BLOCK_CAPTURE (R242). The FZ9 observes STEP = s in a control block and captures LRM, T and VETO. -/
  | controlBlockCapture (part : Nat)
  /-- CHIP_DONE (R243). All shards are complete and the block is captured, so the chip floods its DONE cell. -/
  | chipDone (part : Nat)
  /-- DONE_CELL (R244). A DONE cell arrives; once all are in, the verdict and close time are formed. -/
  | doneCell (door : Nat) (c : SyncCell)
  /-- STEP_CLOSE (R244). The close time arrives; the step count advances, KLS moves and the sills begin the update. -/
  | stepClose (part : Nat)
  /-- SILL_UPDATE_DONE (R245). A sill finishes applying or skipping the step for its shards and sends statistics puts. -/
  | sillUpdateDone (part sill : Nat)
  /-- STEP_COMMIT (R250). The chip writes the commit record, increments the commit counter and sends a COMMIT token. -/
  | stepCommit (part : Nat)
  /-- UPDATE_STALL (R253). A step lacks a verdict one collective watchdog after its first contribution. -/
  | updateStall (part : Nat)
  /-- COMMIT_CELL (R309). A COMMIT cell arrives and is flooded onward. -/
  | commitCell (door : Nat) (c : SyncCell)
  /-- BLOCK_RECEIVE (R298). A door block arrives and is checked by FEC and CRC, accepted in sequence or NAKed, and its cells are dispatched. -/
  | blockReceive (door : Nat) (b : Block)
  /-- DOOR_ERROR_WINDOW (R300). A one-second replay and symbol-error window ends and may trigger a retrain. -/
  | doorErrorWindow (door replays : Nat) (symbolErrors : Word)
  /-- DOOR_RETRAIN_DONE (R305). A door's retrain ends in UP4 or UP3, retiring a failed lane. -/
  | doorRetrainDone (door : Nat) (good : BitVec 4)
  /-- DOOR_RETRAIN_LIMIT (R305). A door fails to retrain in 1.5 s and goes DOWN, discarding its replay buffer. -/
  | doorRetrainLimit (door : Nat)
  /-- IDENTITY_BLOCK (R293). A peer's identity block arrives in training and is checked against the door plan. -/
  | identityBlock (door : Nat) (peer : Identity)
  /-- TIME_CELL_SEND (R308). The domain master sends a TIME cell every 125 µs. `others` are the other chips of the domain, each with its
  number and master rank. -/
  | timeCellSend (others : List (Nat × Nat) := [])
  /-- TIME_CELL (R308). A TIME cell arrives; the lintel is acquired or slewed and the cell is forwarded. -/
  | timeCell (door : Nat) (c : SyncCell)
  /-- DELAY_REQ_SEND (R307). Every 10 ms each door end sends a DELAY_REQ. -/
  | delayReqSend (door : Nat)
  /-- DELAY_REQ (R307). A DELAY_REQ arrives and is answered with a DELAY_RESP. -/
  | delayReq (door : Nat) (c : SyncCell)
  /-- DELAY_RESP (R307). A DELAY_RESP arrives and the link delay is measured. -/
  | delayResp (door : Nat) (c : SyncCell)
  /-- SYNC_CELL_SILENCE (R40). No synchronisation cell arrives for 10 ms and the lintel enters HOLDOVER. -/
  | syncCellSilence
  /-- ETH_FRAME (R315). A host-port frame arrives and is filtered or dispatched by type. -/
  | ethFrame (f : Frame)
  /-- NEIGHBOR_DISCOVERY (R316). The port answers IPv6 Neighbor Discovery. -/
  | neighborDiscovery (iface : Iface) (m : Neighbour)
  /-- ICMP_ECHO (R316). The port answers ICMPv6 echo. -/
  | icmpEcho (iface : Iface) (target : Nat) (payload : List Byte)
  /-- RDMA_SEND (R319). A RoCEv2 SEND is written to the receive ring and RCTR is incremented. -/
  | rdmaSend (r : Rdma)
  /-- RDMA_WRITE (R321). An RDMA WRITE is checked and performed into partition memory. -/
  | rdmaWrite (r : Rdma)
  /-- RDMA_READ (R321). An RDMA READ request is checked and answered with responses. -/
  | rdmaRead (r : Rdma)
  /-- CNP_RECEIVE (R322). A received CNP halves the queue pair's READ response rate. -/
  | cnpReceive (qpn : Nat)
  /-- RATE_RECOVERY_STEP (R322). After 55 µs without a CNP the READ rate is raised one step. -/
  | rateRecoveryStep (qpn : Nat)
  /-- HOST_LINK_LOSS (R314). The host link goes down and retrains without command. -/
  | hostLinkLoss
  /-- HOST_LINK_TRAINED (R314). The host link comes up. -/
  | hostLinkTrained (only800 : Bool)
  /-- PTP_SYNC (R326). A PTP Sync arrives and the master steps or slews its lintel toward PTP time. -/
  | ptpSync (m : PtpSync)
  /-- PTP_LOST (R326). No valid Sync arrives for 10 s and the PTP state becomes LOST. -/
  | ptpLost
  /-- OPEN_ROUND1 (R443). Host-port OPEN round 1 answers with a nonce, a ciphertext, a signature and a session id. -/
  | openRound1 (m : Open1)
  /-- OPEN_ROUND2 (R443). Host-port OPEN round 2 is verified and the session is bound. -/
  | openRound2 (m : Open2)
  /-- SIDEBAND_OPEN (R444). One-round sideband OPEN under the rack key. -/
  | sidebandOpen (part nonce rsv : Nat)
  /-- READ (R344). A Transom READ of an entry or of table rows. -/
  | read (m : TMsg)
  /-- WRITE (R334). A Transom WRITE of an entry that has no action of its own. -/
  | write (m : TMsg)
  /-- DESCRIBE (R344). Returns an entry's type, access, scope, range and default. -/
  | describe (m : TMsg)
  /-- LIST (R344). Returns the indices within reach. -/
  | list (m : TMsg)
  /-- SUBSCRIBE (R349). Replaces the session's event class mask. -/
  | subscribe (m : TMsg)
  /-- KEEPALIVE (R347). Keeps a session from idling out. -/
  | keepalive (m : TMsg)
  /-- CLOSE (R347). Client CLOSE ends a session. -/
  | close (m : TMsg)
  /-- EVENT_ACK (R349). The client acknowledges events received in order. -/
  | eventAck (m : TMsg)
  /-- EVENT_RESEND (R349). An event unacknowledged for 100 ms is resent. -/
  | eventResend (session : Nat)
  /-- SESSION_IDLE_TIMEOUT (R347). A session idle for OD 0x1121 is closed. -/
  | sessionIdleTimeout (session : Nat)
  /-- COMMIT (R336). A write to OD 0x1100 commits the RWP and WS set to MRAM. -/
  | commit (m : TMsg)
  /-- RESTORE_DEFAULTS (R337). A write to OD 0x1102 restores every RWP entry to its default and commits. -/
  | restoreDefaults (m : TMsg)
  /-- SEAL (R339). A write of 0x5EA1 to OD 0x1103 commits and seals the device. -/
  | seal (m : TMsg)
  /-- CLAIM (R439). A write to OD 0xB021 claims an unclaimed module for an owner key. -/
  | claim (m : TMsg) (sigOk : Bool)
  /-- ATTESTATION_CHALLENGE (R445). A nonce written to OD 0xB001 produces a signed report. -/
  | attestationChallenge (m : TMsg)
  /-- ALERT_CLEAR (R455). A write to OD 0x8051 clears event-raised alerts. -/
  | alertClear (m : TMsg)
  /-- COUNTER_CLEAR (R351). A write to OD 0xC001 zeroes the partition counters. -/
  | counterClear (m : TMsg)
  /-- ORDER_RESET (R227). A write to OD 0x6132 discards held pieces and zeroes a pool's order words. -/
  | orderReset (m : TMsg)
  /-- DOOR_RETRAIN (R292). A write to OD 0x4024 retrains the changed and DOWN doors. -/
  | doorRetrain (m : TMsg)
  /-- QP_CONNECT (R318). A connect descriptor written to OD 0x5110 takes a queue pair to Ready to Send. -/
  | qpConnect (m : TMsg)
  /-- QP_DESTROY (R318). A write to OD 0x5111 destroys a queue pair. -/
  | qpDestroy (m : TMsg)
  /-- KEY_CREATE (R320). A key descriptor written to OD 0x5120 creates a memory key. -/
  | keyCreate (m : TMsg)
  /-- KEY_DESTROY (R320). A write to OD 0x5122 destroys a memory key. -/
  | keyDestroy (m : TMsg)
  /-- RUN_TEST (R378). A write to OD 0x9030 makes a unit's test due at once. -/
  | runTest (m : TMsg)
  /-- IN_FIELD_TEST_DUE (R376). A unit's DUE time arrives and its test runs or is deferred. -/
  | inFieldTestDue (kind number : Nat)
  /-- TEST_DEFERRAL_DEADLINE (R376). At the deadline the busy pane's cohorts migrate to a spare for the test. -/
  | testDeferralDeadline (pane : Nat)
  /-- HARD_TEST_LIMIT (R377). The hard limit passes with no spare free, so the pane is paused, saved, tested and restored. -/
  | hardTestLimit (pane : Nat)
  /-- TARGETED_TEST_DONE (R365). A unit's test ends; the unit is judged transient or permanent and retired if permanent. -/
  | targetedTestDone (kind number : Nat) (pass : Bool)
  /-- PANE_MIGRATED (R371). The copy ends, the active number moves, held operations are delivered and groups resume.
  `detected` is that the replacement raised a detection instead. -/
  | paneMigrated (pane : Nat) (detected : Bool := false)
  /-- CONTEXT_RESET (R385). A write to OD 0xA110 resets a partition's pane context and lifts any fence. -/
  | contextReset (m : TMsg) (hung : List Nat := [])
  /-- FENCE_PARTITION (R388). A write to OD 0xA101 fences a partition and starts its drain. -/
  | fencePartition (m : TMsg)
  /-- FENCE_DRAIN_TIMEOUT (R389). Forty milliseconds into a fence, outstanding operations complete with FENCED. -/
  | fenceDrainTimeout (part : Nat)
  /-- FENCE_COMPLETE (R389). The drain ends and the fence completes with RESET_DONE. -/
  | fenceComplete (part : Nat)
  /-- SASH_RESET (R391). A write of 1 or 2 to OD 0xA100 fences the affected partitions and resets one sash. -/
  | sashReset (m : TMsg)
  /-- SASH_RESET_COMPLETE (R391). Write-back, reset and tests end and the sash returns to READY. -/
  | sashResetComplete (sash : Nat)
  /-- DEVICE_RESET (R392). A write of 3 to OD 0xA100 resets the whole module as boot. -/
  | deviceReset (m : TMsg)
  /-- RESET_WATCHDOG_EXPIRY (R383). A reset stage's watchdog expires; units are retired and the next stage starts. -/
  | resetWatchdogExpiry (stage target : Nat)
  /-- SNAPSHOT_TAKE_SEND (R408). The interval elapses on the leader, which floods a TAKE for step e + 2. -/
  | snapshotTakeSend (part : Nat)
  /-- SNAPSHOT_NOW (R408). A write to OD 0xA010 on the leader sends a TAKE at once. -/
  | snapshotNow (m : TMsg)
  /-- SNAPMARK_TAKE (R400). A TAKE cell arrives and the chip prepares to arm, or fails its part. -/
  | snapmarkTake (door : Nat) (c : SyncCell)
  /-- SNAPSHOT_ARM_TIMEOUT (R400). No commit of the step arrives within the watchdog of the TAKE, and the part fails LATE. -/
  | snapshotArmTimeout (part : Nat)
  /-- SNAPSHOT_DRAIN_BLOCK (R405). A sill's snapshot engine sends its next block with its digest to the buddy. -/
  | snapshotDrainBlock (part : Nat)
  /-- SNAPSHOT_BLOCK_RECEIVE (R406). The buddy stores a snapshot block in its reserve and acknowledges it. -/
  | snapshotBlockReceive (job origin snapid : Nat) (head : SnapHeader) (pool block : Nat) (data : List Byte) (digest : BitVec 512)
  /-- SNAPSHOT_BLOCK_ACK (R405). The buddy's acknowledgement frees the block's first-touch copy. -/
  | snapshotBlockAck (part pool block status : Nat)
  /-- SNAPSHOT_BLOCK_TIMEOUT (R405). A block unacknowledged within OD 0x6111 fails the part with TIMEOUT. -/
  | snapshotBlockTimeout (part pool block : Nat)
  /-- SNAPSHOT_DRAIN_END (R401). Every block is acknowledged; the row becomes TAKEN and a TAKEN cell is flooded. -/
  | snapshotDrainEnd (part : Nat)
  /-- SNAPMARK_TAKEN (R401). A TAKEN cell arrives and may make the snapshot COMPLETE or FAILED. -/
  | snapmarkTaken (door : Nat) (c : SyncCell)
  /-- SNAPMARK_RETRACT (R363). A retract mark arrives; logged sectors are poisoned, writes refused and snapshots invalidated. -/
  | snapmarkRetract (door : Nat) (c : SyncCell)
  /-- SNAPSHOT_RESTORE (R410). A write to OD 0xA030 restores a fenced partition from a snapshot copy. -/
  | snapshotRestore (m : TMsg) (src : RestoreSource)
  /-- SNAPSHOT_HOLD (R414). A write to OD 0xA040 holds a copy and maps its image, or releases it. -/
  | snapshotHold (m : TMsg)
  /-- CAP_CONTROL_PERIOD (R419). Every 250 µs the cap controller adjusts the cap reduction. -/
  | capControlPeriod (meanWatts : Nat)
  /-- VOLTAGE_SLEW_STEP (R417). The regulator completes one 5 mV step toward the applied voltage. -/
  | voltageSlewStep (sash : Nat)
  /-- THERMAL_SAMPLE (R421). A 50 µs hot-spot sample moves the thermal ceiling. Temperatures are in °C; the hottest sensor of the
  frame dies and the mullion is named with its reading. -/
  | thermalSample (sash hotSpot frameSensor frameOrMullion : Nat)
  /-- COOLING_WAIT_DONE (R422). A tripped sash has stayed below 90 °C for 1 s and its reset continues. -/
  | coolingWaitDone (sash : Nat)
  /-- IDLE_DETECT (R423). A sash with no resident cohort for 1 ms becomes idle at 620 mV. -/
  | idleDetect (sash : Nat)
  /-- SHUTTER_RETENTION (R425). Power action 2 enters shuttered with retention. -/
  | shutterRetention (m : TMsg)
  /-- SHUTTER_REFRESH_ONLY (R425). Power action 3 enters shuttered, refresh only. -/
  | shutterRefreshOnly (m : TMsg)
  /-- SHUTTER_EXIT (R426). Power action 0 leaves a shuttered state. -/
  | shutterExit (m : TMsg)
  /-- VIN_TURN_ON (R452). VIN48 crosses the turn-on threshold and PWRGD is released. -/
  | vinTurnOn (millivolts : Nat)
  /-- VIN_TURN_OFF (R453). Undervoltage, overvoltage or overcurrent turns the module off. -/
  | vinTurnOff (cause : TurnOff)
  /-- RESET_N_FALL (R454). A falling edge on RESET_N starts a device reset. -/
  | resetNFall
  /-- POWER_GOOD (R452). PWRGD is released with RESET_N high and the start begins. -/
  | powerGood (p : StartInputs)
  /-- REFCLK_LOSS (R458). The external reference is lost and the module switches to the on-module oscillator. -/
  | refclkLoss
  /-- STACK_TRAINING_DONE (R438). Boot training of all stacks ends, or a stack failure faults the start. `bad` are the
  pseudo-channels that failed again after their retrain, and then their self-test. -/
  | stackTrainingDone (failed : Option Nat) (bad : List Nat)
  /-- DELIVERY_OFFER (R436). An OFFER is sent every second until a delivery binds. -/
  | deliveryOffer
  /-- DELIVERY_SEGMENT (R436). A bundle SEGMENT arrives, binds or extends the delivery, and is acknowledged. -/
  | deliverySegment (g : Segment) (b : BundleVerdict)
  /-- DELIVERY_ABORT (R436). An ABORT from the host ends the binding. -/
  | deliveryAbort (source : Nat)
  /-- DELIVERY_LAPSE (R436). Five seconds with no accepted SEGMENT end the binding with reason 6. -/
  | deliveryLapse
  /-- BOOT_READY (R437). Firmware is loaded, panes are tested and the doors and host port trained, so the device is Ready. -/
  | bootReady (failedPanes : List Nat)
  /-- BLOCK_LOCK_LOSS (R300). A door receiver loses block lock on its stream and the door enters RETRAINING. -/
  | blockLockLoss (door : Nat)
  /-- LINE_FILL (R186). A memory load's data returns from the sill to the pane; it is delivered to its load and installed in the pane cache unless a clearing or a later store intervened. -/
  | lineFill (req : Nat)
  /-- STORE_ACK (R184). A sill's acknowledgement of a memory store reaches the pane, releasing loads held on the sector and the fences waiting for it. -/
  | storeAck (req : Nat)
  /-- RANDOM_SOURCE_FAILURE (R430). A continuous health test of the entropy source fails, so the source makes no further draws until the next start and the reason is recorded. -/
  | randomSourceFailure
  /-- PLCA_BEACON_LOSS (R327). No PLCA beacon is seen on the sideband segment, so the node falls back to CSMA/CD. -/
  | plcaBeaconLoss
  /-- PLCA_BEACON_RECEIVE (R327). A PLCA beacon is seen again on the sideband and the node resumes PLCA with its node ID. -/
  | plcaBeaconReceive
  /-- PTP_DELAY_RESP (R325). A PTP Delay_Resp arrives for the port's Delay_Req and completes the path-delay and offset measurement. -/
  | ptpDelayResp (offset : Int)
  /-- RESTORE_BLOCK_RECEIVE (R411). A snapshot block from SOURCE arrives at a restoring sill, its digest is checked against the stored and replica digests, and the block is written. -/
  | restoreBlockReceive (part pool block : Nat) (data : List Byte) (stored : BitVec 512) (replica : Option (BitVec 512))
  /-- RESTORE_BLOCK_TIMEOUT (R410). A restore block is not delivered within OD 0x6111 and the restore completes with TIMEOUT, leaving covered memory undefined. -/
  | restoreBlockTimeout (part : Nat)
  deriving DecidableEq, Repr

end Sys2Proof
end

