-- ==== Sys2Proof/Decode.lean ====
section
/-! DEFINITION. The command that a word spells by the opcode table's bits. The table gives no row any bits: a command
reaches the FZ9 on one of its interfaces, not as a word. -/

namespace Sys2Proof

/-- The command that an instruction word of the opcode table spells: none, since no row of the table gives bits. Log entry 1 (DESIGN CHOICE). -/
def decodeTableWord (_nbits _w : Nat) : Option Instr := none

end Sys2Proof
end

