-- ==== Sys2Proof/Config.lean ====
section
/-! DEFINITION. What the spec leaves open and what an implementation fixes: opaque constants, of which nothing can be
proved beyond their type. A statement that holds of this model holds for every value of them. -/

namespace Sys2Proof.Config

/-- A fresh free value: the n-th draw, n being the counter `State.free` (an undefined content, the device's random
source of R430, a placement or XTS key of R156 and R169, a nonce). -/
opaque draw : Nat → Nat

/-- The keyed mixing function of R155, of the placement key, the pool number and the round. -/
opaque keyedHash : Nat → Nat → Nat → BitVec 64

/-- FP32 reciprocal square root, base-2 exponential and logarithm, sine and cosine (R79): fixed functions of their
input bits, which the manual does not define further. -/
opaque rsqrt : Word → Word
opaque exp2  : Word → Word
opaque log2  : Word → Word
opaque sin   : Word → Word
opaque cos   : Word → Word

/-- Points of IEEE 754 that the manual leaves to the part (R79): whether underflow goes by the value before rounding,
whether infinity × 0 + a quiet NaN sets invalid, and whether the ordered compares set invalid on a quiet NaN. -/
opaque tinyBeforeRounding : Bool
opaque fmaNanInvalid : Bool
opaque orderedCompareSignals : Bool

/-- The sticky flags that a special function sets, by opcode and operand (R79). -/
opaque specialFlags : Nat → Word → BitVec 5

/-- The fused functions 2, 3, 5 and 6 of the drain (R113) of the numerics profile, the accumulator value and the auxiliary value in
binary32: fixed functions that the manual does not define beyond 2 ulp. -/
opaque fuse : Nat → Nat → Word → Word → Word

/-- SHA3-512 of FIPS 202 (R405, R429). Log entry 6 (DESIGN CHOICE). -/
opaque sha3 : List Byte → BitVec 512

/-- KMAC256 of SP 800-185 of a key and a message (R429, R443). -/
opaque kmac : Nat → List Byte → BitVec 256

/-- ML-KEM-1024 encapsulation under a client's key with a drawn seed: the ciphertext and the shared secret (R443). -/
opaque encapsulate : Nat → Nat → Nat × Nat

/-- ML-DSA-87 signature of a message under a key (R429). -/
opaque sign : Nat → List Byte → Nat

/-- The public key of a seed (R429). -/
opaque publicKey : Nat → List Byte

/-- The alias certificate: of the alias key's seed, signed by the device key (R429, R433). -/
opaque certificate : Nat → Nat → Nat

/-- Factory data of the module: serial number, silicon revision, ROM version, MAC addresses, certificate bytes, PUF
secret (Table 15-10, Table 14-7, R429), by a number of the model. -/
opaque factory : Nat → Nat

/-- The 32 check bits of a sector's ciphertext at a stack-linear address, and the pattern that marks poison (R160). -/
opaque sectorCode : Nat → List Byte → BitVec 32
opaque poisonPattern : BitVec 32

/-- The pages of translation table that the system area has room for beyond 65,536 (R275). -/
opaque tablePages : Nat

/-- What the test pack of an id and a version holds (R375): the in-field interval in seconds that it gives a kind of unit, 0 for none, and
the units of this module that it lists, by kind and number. -/
opaque packInterval : Nat → Nat → Nat → Nat
opaque packLists : Nat → Nat → List (Nat × Nat)

/-- The set of a sill buffer that a 128-byte line falls in, of some sets (R158). -/
opaque bufferSet : Nat → Nat → Nat

/-- The constant lag of unit u's lintel view in nanoseconds (R37); the model reduces it to the 24 ns the rule allows. -/
opaque viewLag : Nat → Nat

/-- What the plaintext of a poisoned sector reads as where its bytes are copied (R162, R397), by byte. -/
opaque poisonByte : Nat → Byte

/-- Undefined memory (R410): the byte at a key, and whether a sector is poison, for each draw. -/
opaque undefinedByte : Nat → Nat → Byte
opaque undefinedPoison : Nat → Nat → Bool

/-- Analogue and environment readings that no command carries (OD 0x2030, 0x2031, 0x2032), by entry and row. -/
opaque reading : Nat → Nat → Nat

/-- The busy fraction of a sash, stack or door (OD 0xC010), by row and draw. -/
opaque utilisation : Nat → Nat → Nat

end Sys2Proof.Config
end

