-- ==== Sys2Proof/Machine/State.lean ====
section
/-! DEFINITION. The state of the FZ9 as plain data: everything the spec gives the module, and the queue of commands
that wait. Sparse contents are lists of key and value pairs with rising keys; a key that is not listed holds the default
named at the field. Every field's default value is its value at reset. -/

namespace Sys2Proof.Machine

/-- A sparse map: keys strictly rising. -/
abbrev SMap (α : Type) := List (Nat × α)

/-! ## Groups, paths and cohorts of a pane -/

/-- Why a path does not run (R61): it may run, it waits at a barrier (R64), it waits for its merge (R60), or it waits on
an arrival counter (R87): in memory or local store, at an address, for a count, its status going to an s register, until
a lintel time. -/
inductive PathSt where
  | ready
  | barrier (n : Nat)
  | merge
  | counter (memory : Bool) (addr target sd deadline : Nat)
  deriving DecidableEq, Repr

/-- A path (R60): the live threads that share their next instruction, and its partition virtual address. -/
structure Path where
  mask : Mask
  pc   : Nat
  st   : PathSt := .ready
  deriving DecidableEq, Repr

/-- An open split (R60, R470): the threads that left at the branch, its reconvergence address once it is fixed, and the
two sides of a split made by a failed atomic. -/
structure Split where
  threads : Mask
  rcv     : Option Nat
  sideA   : Mask := 0
  sideB   : Mask := 0
  deriving DecidableEq, Repr

/-- An outstanding memory load, lane-form get or lane-form amo of a group (R50, R92, R184): its destination, whether it is
an amo, which R50's limit does not count, the requests or operations still out, the data returned for each lane, the lanes that
met poison or a bad status, and the lanes whose atomic failed. -/
structure Load where
  id      : Nat
  scalar  : Bool
  dst     : Nat
  size    : Nat
  sx      : Bool := false
  acquire : Bool := false
  remote  : Bool := false
  amo     : Bool := false
  pc      : Nat
  lanes   : Mask
  waiting : List Nat
  got     : SMap Nat := []
  bad     : Mask := 0
  status  : Nat := 0
  failed  : Mask := 0
  deriving DecidableEq, Repr

/-- A register of a group, or a predicate. -/
inductive RegPlace where
  | v (lane n : Nat)
  | s (n : Nat)
  | p (n : Nat)
  deriving DecidableEq, Repr

/-- A release fence that later writes of its group still wait for (R189): its scope, and the first request and remote-operation
numbers that are later than it. -/
structure Release where
  scope : Nat
  req   : Nat
  op    : Nat
  deriving DecidableEq, Repr

/-- A resident group (R43, R52, R53, R60, R79). v registers are keyed lane × 256 + n; s registers by n; a predicate is
the mask of the lanes in which it is true. Unlisted registers are zero. `struck` lists the
registers that hold a double-bit error (R354), `stores` its memory stores that are not acknowledged, `releases` its release fences that
later writes still wait for (R189). `cur` is the lowest lane of the running path. -/
structure Group where
  cohort  : Nat
  gic     : Nat
  width   : Nat
  vcount  : Nat
  vregs   : SMap Word := []
  sregs   : SMap Word := []
  preds   : SMap Mask := []
  flags   : BitVec 5 := 0
  struck  : List RegPlace := []
  paths   : List Path := []
  splits  : List Split := []
  cur     : Nat := 0
  loads   : List Load := []
  stores  : List Nat := []
  releases : List Release := []
  drains  : Nat := 0
  stopped : Bool := false
  unchecked : Nat := 0
  deriving DecidableEq, Repr

/-- A fault record of Table 03-5. -/
structure FaultRec where
  code   : Nat
  bar    : Nat
  pane   : Nat
  slot   : Nat
  width  : Nat
  gic    : Nat
  pc     : Nat
  cohort : Nat
  tag    : Nat
  time   : Nat
  lanes  : Mask
  deriving DecidableEq, Repr

/-- A resident cohort (R43–R45, R64–R67, R129): its partition, launch, index, pane, local-store pages, the start time of
each open barrier phase, the eight running estimates, the groups that have ended with loads still out, by slot and without
their registers, and the fault that stops it with its records. -/
structure Cohort where
  part     : Nat
  launch   : Nat
  index    : Nat
  pane     : Nat
  lsBase   : Nat
  lsPages  : Nat
  barStart : SMap Nat := []
  est      : SMap Int := []
  est0     : Int := 8
  left     : List (Nat × Group) := []
  fault    : Option Nat := none
  records  : List FaultRec := []
  deriving DecidableEq, Repr

/-! ## The matrix side of a pane -/

/-- An open accumulation group (R106, Table 05-5). -/
structure AccGroup where
  acc   : Nat
  m     : Nat
  n     : Nat
  am    : Nat
  scale : Int := 0
  sat   : Bool := false
  pois  : Bool := false
  kdone : Nat := 0
  deriving DecidableEq, Repr

/-- An instruction in the matrix queue (R104) with the s-register operands read at issue (R76) and what its execution takes
from its launch and group: profile, seed, initial estimate, tag, cohort index, group index, and the ordinal of a drain
(R142, R145). `stamp` is the first request number that is not earlier than it, and `moved` how many sectors of its read-out are written (R181). -/
structure MqEntry where
  slot    : Nat
  cohort  : Nat
  part    : Nat
  w0      : Nat
  w1      : Nat
  sa      : Nat
  sb      : Nat
  ss      : Nat
  sld     : Nat
  profile : Nat
  seed    : Nat
  est0    : Int
  tag     : Nat
  cindex  : Nat
  gic     : Nat
  ordinal : Nat := 0
  stamp   : Nat := 0
  moved   : Nat := 0
  deriving DecidableEq, Repr

/-- The operands of one array step as the operand buffers keep them (R97): for each row of A and each column of B in the tile, its
elements at the step's K with their poison, and its block scale. -/
structure Feed where
  a  : List (List (Nat × Bool))
  b  : List (List (Nat × Bool))
  sa : List (Nat × Bool) := []
  sb : List (Nat × Bool) := []
  deriving DecidableEq, Repr

/-- A group that read a tile out to local store (R118). -/
structure Reader where
  tile   : Nat
  cohort : Nat
  slot   : Nat
  gic    : Nat
  deriving DecidableEq, Repr

/-- Array steps whose verdicts are not all in (R117): one step of an A32 or INT32 mma, or the steps of one K step of an A16 mma,
which replay together (R130). `mma` numbers the instruction, `tiles` are the tiles stepped and `feeds` their operands; `acc`,
`bad`, `scale`, `sat`, `left` and `full` are what they found: the tiles' bytes and poison, SCALE and SAT of the group, and the
replays left to the instruction and whether it saturates (R131). `out` are the tiles whose verdict is to come, each with the
physical rows that its checkers name; `replays` those the steps performed; `live` that the tiles have not been opened or loaded
anew since; `again` the rows that the steps repeat for (R365). `phys` is the pane that performs them, `visible` the pane's view of
the lintel then, and `retract` that the launch is checked under release-then-retract (R362). -/
structure CubeStep where
  id      : Nat
  mma     : Nat
  e       : MqEntry
  kk      : Nat
  tiles   : List Nat
  feeds   : List Feed
  acc     : SMap Byte := []
  bad     : SMap Bool := []
  scale   : Int := 0
  sat     : Bool := false
  left    : Nat := 4
  full    : Bool := false
  replays : Nat := 0
  out     : List (Nat × List Nat) := []
  readers : List Reader := []
  live    : Bool := true
  again   : List Nat := []
  phys    : Nat := 0
  visible : Nat := 0
  retract : Bool := false
  deriving DecidableEq, Repr

/-- A copy in the async-copy unit (R71): its descriptor of Table 03-7, the first request number that is not earlier
than it (R198), and how many of its parts have moved, with their status (R181) and the forwarded writes among them (R165). -/
structure Copy where
  id     : Nat
  cohort : Nat
  slot   : Nat
  desc   : Nat
  stamp  : Nat
  moved  : Nat := 0
  status : Nat := 0
  waits  : List Nat := []
  deriving DecidableEq, Repr

/-- A pending counter entry (R219), at the partition whose memory holds its counter. -/
structure PendCount where
  part   : Nat
  src    : Nat
  tid    : Nat
  rctr   : Nat
  nseg   : Nat
  seen   : Nat
  status : Nat
  last   : Nat
  deriving DecidableEq, Repr

/-- One entry of a write log (R363): the partition, the source chip, the arrival time, the sill (none in a pane's own log)
and the sectors written. -/
structure WLog where
  part    : Nat
  chip    : Nat
  time    : Nat
  sill    : Nat := 0
  sectors : List Nat
  deriving DecidableEq, Repr

/-- The counters of a row of OD 0xC000 (Table 15-10). -/
structure Perf where
  mma      : Nat := 0
  steps    : Nat := 0
  slices   : Nat := 0
  remote   : Nat := 0
  bytesIn  : Nat := 0
  bytesOut : Nat := 0
  deriving DecidableEq, Repr

/-- The pane that holds an active number (R3, R43–R71, R106). `part` is the partition whose work it last held, `split`
the local store in units of 256 KiB (R54), `tmode` the AM and SCALE that each tile was last written under. Local store, its poison marks, the pane cache, the accumulator tiles and their
poison are sparse, zero where unlisted; `icache` lists the sectors that the instruction cache holds (R58), `steps` the array steps whose
verdicts are to come, and `redo` those that a failed row left to repeat (R99, R117). -/
structure Pane where
  part      : Option Nat := none
  split     : Nat := 12
  groups    : SMap Group := []
  ls        : SMap Byte := []
  lsPoison  : SMap Bool := []
  cache     : SMap (List Byte) := []
  clears    : Nat := 0
  icache    : List Nat := []
  acc       : SMap Byte := []
  accPoison : SMap Bool := []
  accGroups : SMap AccGroup := []
  tmode     : SMap (Nat × Int) := []
  mq        : List MqEntry := []
  steps     : List CubeStep := []
  redo      : List CubeStep := []
  copies    : List Copy := []
  pend      : List PendCount := []
  log       : List WLog := []
  heldOps   : List Packet := []
  reserved  : Option (Nat × Nat) := none
  perf      : Perf := {}
  paused    : Bool := false
  deriving DecidableEq, Repr

/-! ## Partitions, pools, queues and launches -/

/-- The life of a partition (Table 15-12). -/
inductive PartState where
  | absent | active | resizing | destroying
  deriving DecidableEq, Repr

/-- The life of a pool (Table 15-11). -/
inductive PoolState where
  | zeroing | ready | releasing
  deriving DecidableEq, Repr

/-- A pool (R153, R275): stacks as a mask, size in bytes, slab row on each stack of the set. -/
structure Pool where
  set     : Nat
  size    : Nat
  mirror  : Bool
  shared  : Bool
  readers : Nat
  state   : PoolState
  slab    : SMap Nat := []
  via     : Option CmdPath := none
  deriving DecidableEq, Repr

/-- A mapping (R154): a run of pages of one size onto a pool range, a doorbell page (R280), or a held snapshot image
(R414). -/
structure Mapping where
  va      : Nat
  psz     : Nat
  count   : Nat
  write   : Bool
  view    : Nat
  kind    : Nat
  owner   : Nat := 0
  pool    : Nat := 0
  poff    : Nat := 0
  queue   : Nat := 0
  deriving DecidableEq, Repr

/-- The state of a queue (Table 12-5). -/
inductive QState where
  | active | halted | error
  deriving DecidableEq, Repr

/-- A descriptor that has started and not completed (R286): its index, its header word fields, and what runs it. -/
structure Running where
  n      : Nat
  opc    : Nat
  tag    : Nat
  ctr    : Nat
  halt   : Bool
  launch : Option Nat := none
  wctr   : Nat := 0
  value  : Nat := 0
  deadline : Nat := 0
  deriving DecidableEq, Repr

/-- A queue (R281–R286, Table 12-5). `started` is the index of the next descriptor to start; `done` the indices at or
above HEAD whose completion is written; `dying` that QUEUE_DESTROY waits on it. -/
structure Queue where
  prio    : Nat
  admin   : Bool
  logsz   : Nat
  flogsz  : Nat
  weight  : Nat
  ring    : Nat
  cq      : Nat
  fring   : Nat
  tail    : Nat := 0
  head    : Nat := 0
  started : Nat := 0
  ftail   : Nat := 0
  fhead   : Nat := 0
  state   : QState := .active
  ignored : Nat := 0
  flost   : Nat := 0
  running : List Running := []
  done    : List Nat := []
  total   : Nat := 0
  turns   : Nat := 0
  dying   : Option CmdPath := none
  deriving DecidableEq, Repr

/-- A launch in the launch table (R45, R57, R145, R285, R286, R358). -/
structure Launch where
  queue    : Nat
  n        : Nat
  tag      : Nat
  entry    : Nat
  codelen  : Nat
  vreg     : Nat
  width    : Nat
  gpc      : Nat
  lsc      : Nat
  split    : Nat
  args     : List Word
  cohorts  : Nat
  next     : Nat := 0
  ended    : Nat := 0
  psel     : Nat
  last     : Option Nat := none
  status   : Nat := 0
  faults   : Nat := 0
  profile  : Nat
  est0     : Int
  seed     : Nat
  checked  : Bool
  policy   : Nat
  deriving DecidableEq, Repr

/-- A message of several packets under way at a queue pair (R317): a SEND, or a WRITE with the key, address and length of its first packet, and the
bytes of it that have come. -/
structure RdmaMsg where
  send : Bool
  rkey : Nat := 0
  va   : Nat := 0
  len  : Nat := 0
  done : Nat := 0
  deriving DecidableEq, Repr

/-- A queue pair (R317–R319, R322, Table 15-16). `rate` is that of its READ responses in MB/s, and `free` when the last of them has left. -/
structure Qp where
  desc    : Nat
  msg     : Option RdmaMsg := none
  state   : Nat := 1
  epsn    : Nat
  lstatus : Nat := 0
  sends   : Nat := 0
  rate    : Nat := 200000
  free    : Nat := 0
  cnp     : Option Nat := none
  cnpSent : Option Nat := none
  deriving DecidableEq, Repr

/-- A memory key (R320, Table 15-17). -/
structure MKey where
  write : Bool
  read  : Bool
  va    : Nat
  len   : Nat
  gen   : Nat
  deriving DecidableEq, Repr

/-- A registered update shard (R234, R241): its descriptor, its sill, the two cause bits of each parity's plane, and
whether it deregisters at the commit or skip of a step, and of which (`leaveAt`, R238). -/
structure Shard where
  desc    : Nat
  sill    : Nat
  causeE  : Nat := 0
  causeO  : Nat := 0
  leaving : Option CmdPath := none
  leaveAt : Nat := 0
  deriving DecidableEq, Repr

/-- The step in progress of a partition on this chip (R242–R253). `first` and `nextFirst` are the times of the first
contribution applied for it and for the step after it; `done` the cause and send time of each DONE cell, by step × 4,096 +
chip; `verdict` the verdict and the close time; `finished` the sills whose work is done; `puts` the statistics puts under
way; `stalled` and `nextStalled` that UPDATE_STALL has been raised for it and for the step after it (R253). -/
structure StepSt where
  first    : Option Nat := none
  nextFirst : Option Nat := none
  captured : Bool := false
  lrm      : Word := 0
  t        : Nat := 0
  veto     : Bool := false
  doneSent : Bool := false
  done     : SMap (Nat × Nat) := []
  verdict  : Option (Nat × Nat) := none
  closed   : Bool := false
  kls      : Int := 0
  seed     : Nat := 0
  pelem    : Nat := 0
  nfelem   : Nat := 0
  finished : List Nat := []
  puts     : List Nat := []
  stalled  : Bool := false
  nextStalled : Bool := false
  deriving DecidableEq, Repr

/-- A row of OD 0xA020 (Table 18-9). State 0 ARMED, 1 TAKEN, 2 COMPLETE, 3 FAILED, 4 INVALID. -/
structure SnapRow where
  id    : Nat
  state : Nat
  held  : Bool := false
  buddy : Nat
  step  : Nat
  tarm  : Nat
  cost  : Nat := 0
  kls   : Int := 0
  run   : Nat := 0
  deriving DecidableEq, Repr

/-- A copy kept as a buddy (R406, OD 0xA021): blocks keyed pool × 2^27 + block. -/
structure BuddyCopy where
  origin : Nat
  id     : Nat
  state  : Nat
  held   : Nat := 0
  head   : SnapHeader
  blocks : SMap (List Byte) := []
  digest : SMap (BitVec 512) := []
  deriving DecidableEq, Repr

/-- The snapshot side of a partition (R399–R412): the pending TAKEs (id, step, time), what the ARMED snapshot records, its
blocks still to send, the first-touch copies, the blocks sent and unacknowledged with their times, the TAKEN cells received
(origin, id, TARM, cost, status), the copies kept as a buddy, the time of the leader's next TAKE, a restore that runs with
its source and the blocks and the time it waits for, and the first epochs already retracted. `mtbf` is OD 0xA000.03 as the last arming found
it, until a write with no snapshot ARMED (Table 18-7). -/
structure SnapSt where
  rows     : List SnapRow := []
  takes    : List (Nat × Nat × Nat) := []
  armed    : Option SnapHeader := none
  todo     : List Nat := []
  copied   : SMap (List Byte) := []
  sent     : SMap Nat := []
  taken    : List (Nat × Nat × Nat × Nat × Nat) := []
  copies   : List BuddyCopy := []
  nextTake : Option Nat := none
  restore  : Option TMsg := none
  restSrc  : Option RestoreSource := none
  restTodo : List Nat := []
  restTime : Nat := 0
  retracts : List Nat := []
  mtbf     : Option Nat := none
  deriving DecidableEq, Repr

/-- The fence of a partition's reset domain (R388–R390): none, draining since a time with the message that asked for it,
or complete. -/
inductive FenceSt where
  | none
  | draining (since : Nat)
  | done
  deriving DecidableEq, Repr

/-- A partition (R270–R288). `desc` is the image of Table 12-1; `resizeTo` is the image that a resize puts in force when it completes, and `removing` the panes that leave the set
with it (R272); `margin` is OD 0x7110.07 as the last close captured it (R254). -/
structure Partition where
  state     : PartState := .absent
  desc      : Nat := 0
  qbase     : Nat := 0
  qpbase    : Nat := 0
  placeKey  : Nat := 0
  xtsKey    : Nat := 0
  pools     : SMap Pool := []
  maps      : List Mapping := []
  queues    : SMap Queue := []
  launches  : SMap Launch := []
  nextId    : Nat := 0
  fence     : FenceSt := .none
  fenceMsgs : List TMsg := []
  resizeMsg : Option TMsg := none
  resizeTo  : Option Nat := none
  removing  : List Nat := []
  destroyMsg : Option TMsg := none
  shards    : SMap Shard := []
  step      : StepSt := {}
  margin    : Option Nat := none
  snap      : SnapSt := {}
  qps       : SMap Qp := []
  keys      : SMap MKey := []
  refused   : List Nat := []
  lost      : List Nat := []
  events    : List Nat := []
  late      : List Nat := []
  lastStatus : SMap Nat := []
  deriving DecidableEq, Repr

/-! ## Memory side -/

/-- A memory request of a pane for one sector (R163, R184). A load names its outstanding load and the lanes it serves,
each with its byte in the sector and its size; a store carries the bytes it writes with their places in the sector. `off`
is the sector's pool offset; `gen` counts the cache clearings of the pane before it left, and `pc` is the instruction's address.
`served` is set at the sill, with the status of a store, and `since` is when it left. -/
structure MemReq where
  id      : Nat
  since   : Nat := 0
  pane    : Nat
  slot    : Nat
  load    : Option Nat
  part    : Nat
  owner   : Nat
  pool    : Nat
  off     : Nat
  view    : Nat
  gen     : Nat
  stale   : Bool := false
  writes  : List (Nat × Byte) := []
  lanes   : List (Nat × Nat × Nat) := []
  pc      : Nat := 0
  served  : Bool := false
  status  : Nat := 0
  result  : Option (List Byte) := none
  deriving DecidableEq, Repr

/-- A sector of the sill buffer (R158, R159): whether the stack is still to take it, and whether it is poisoned there. -/
structure BufSector where
  dirty : Bool := false
  bad   : Bool := false
  deriving DecidableEq, Repr

/-- A write of a mirrored sector that the home copy's sill has performed and forwarded to the partner (R165): the bytes by their
place in the sector, or none for poison. -/
structure Forward where
  id     : Nat
  part   : Nat
  owner  : Nat
  pool   : Nat
  off    : Nat
  writes : Option (List (Nat × Byte))
  view   : Nat
  deriving DecidableEq, Repr

/-- What a RoCEv2 packet of the FZ9 carries beside its payload (R318): the host's queue pair number and address, its DSCP, a PSN, and the RNR
timer code of an RNR NAK. -/
structure RoceHead where
  dqpn : Nat
  dgid : Nat
  dscp : Nat
  psn  : Nat
  rnr  : Nat := 0
  deriving DecidableEq, Repr

/-- What follows a write once every copy is written (R165): the answer to a packet and its arrival increment, for one segment or alone; an
increment of a counter by a copy of a pane that wrote sectors; an increment of an RCTR; the ACK of a message of a queue pair. -/
inductive Ending where
  | answer (part : Nat) (p : Packet) (type status : Nat) (data : List Byte) (segment increment : Bool)
  | counter (part : Nat) (memory : Bool) (pane addr value status : Nat) (keys : List Nat)
  | arrival (part rctr status : Nat)
  | roce (qpn : Nat) (h : RoceHead)
  deriving DecidableEq, Repr

/-- A held accumulate piece in a staging region (R222): `part` owns its pool, and `user` is the partition that sent it. -/
structure Piece where
  part  : Nat
  pool  : Nat
  range : Nat
  seq   : Nat
  off   : Nat
  elt   : Nat
  data  : List Byte
  bad   : List Nat
  rctr  : Nat
  src   : Nat
  user  : Nat := 0
  view  : Nat := 0
  deriving DecidableEq, Repr

/-- The memory of all stacks (R148–R167). Bytes are keyed by partition, pool, copy and pool offset (see memKey); sectors
by that key / 32; order words and stall timers by 32 KiB range. `segs` are the segments of accumulate pieces that have not
arrived whole. `buffer` are the sectors in the sill buffers, `idle` the poison of sectors in no pool, by stack-linear address / 32;
`forwards` the writes that partner copies still lack, and `after` what waits for some of them; `traffic` the sector accesses of the
window, by (64 × stack + pseudo-channel) × 32 + partition (R172). -/
structure MemSt where
  bytes   : SMap Byte := []
  poison  : SMap Bool := []
  buffer  : SMap BufSector := []
  idle    : SMap Bool := []
  forwards : List Forward := []
  after   : List (List Nat × Ending) := []
  traffic : SMap Nat := []
  order   : SMap Nat := []
  stall   : SMap Nat := []
  held    : List Piece := []
  segs    : List Packet := []
  reqs    : List MemReq := []
  nextReq : Nat := 0
  pend    : List PendCount := []
  regs    : List Waiter := []
  log     : List WLog := []
  deriving DecidableEq, Repr

/-- One stack with its sill (Tables 07-6, 07-8, R170–R176). `level` is the row of Table 07-6 in force, `below` since when the
temperature has been 2 °C or more below a row's threshold; `retrain` the channel that retrains, `suspect` the pseudo-channel
under judgement, `moving` the one whose rows move to the reserve with its retirement's cause, `spent` the one that the reserve
holds. -/
structure Stack where
  temp     : Nat := 0
  level    : Nat := 0
  below    : SMap Nat := []
  retrain  : Option Nat := none
  suspect  : Option Nat := none
  moving   : Option (Nat × Nat) := none
  spent    : Option Nat := none
  unrep    : List Nat := []
  imbRun   : Nat := 0
  imbQuiet : Nat := 0
  imbOn    : Bool := false
  deriving DecidableEq, Repr

/-! ## Remote operations and doors -/

/-- A remote operation at its source (R207, R229). `kind` is the opcode of Table 04-14, `faddr` its fabric address, `len`
the bytes it covers at the target, `first` the TID of the first operation of its instruction. `held` are the verdicts it
waits for and `pkts` its packets while it waits (R119); `todo` the first addresses of pieces or segments not yet
acknowledged; `resend` the pieces of the resend buffer and `deferred` the times of their last DEFER, by first address
(R223), and `later` those that the buffer has no room for yet. `cmp` is the value at which an amo.cas or amo.tset succeeds. `wrote` are the
sectors of this chip's memory that it has written (R185); `order` numbers the operations as they enter their unit, and `sent` is that the unit has sent it (R207). `stats` marks a statistics put of a sill (R249), which has
no pane. -/
structure RemOp where
  tid      : Nat
  part     : Nat
  pane     : Nat
  slot     : Nat
  cohort   : Nat
  kind     : Nat
  faddr    : Nat
  lane     : Nat
  block    : Bool
  acquire  : Bool
  lsOff    : Nat
  len      : Nat
  lctr     : Option Nat
  deadline : Nat
  first    : Nat
  held     : List Nat := []
  pkts     : List Packet := []
  todo     : List Nat := []
  resend   : SMap (List Packet) := []
  later    : SMap (List Packet) := []
  deferred : SMap Nat := []
  status   : Nat := 0
  cmp      : Nat := 0
  order    : Nat := 0
  sent     : Bool := false
  wrote    : List Nat := []
  stats    : Bool := false
  deriving DecidableEq, Repr

/-- A block that a door's transmitter has sent (R295, R298): its number, the kinds and the 512 bytes of its cells, and the packets and
synchronisation cells that end in it. -/
structure TxBlock where
  bseq    : Nat
  kinds   : Nat := 0
  body    : List Byte := []
  packets : List Packet := []
  cells   : List SyncCell := []
  deriving DecidableEq, Repr

/-- A door's state (Table 13-1). -/
inductive DoorState where
  | unused | training | up4 | up3 | retraining | down
  deriving DecidableEq, Repr

/-- A door (R290–R307). `plan` is the row of the door plan that it was last trained under, `since` when its training began, `rxSlots` the
slots received of a packet that has not ended, `owe0` and `owe1` the freed slots of each VC that no CREDIT packet has returned yet,
`waiting` the cells that a full replay buffer keeps back, and `reqNext` when its next DELAY_REQ is due. -/
structure Door where
  state   : DoorState := .training
  plan    : Nat := 0x2000001
  since   : Nat := 0
  changed : Bool := false
  peer    : Option Identity := none
  bad     : BitVec 4 := 0
  rxNext  : Nat := 0
  nakOut  : Bool := false
  rxSlots : List (List Byte) := []
  owe0    : Nat := 0
  owe1    : Nat := 0
  txNext  : Nat := 0
  replay  : List TxBlock := []
  credit0 : Nat := 0
  credit1 : Nat := 0
  waiting : List SyncCell := []
  delay   : Int := 0
  reqSent : Nat := 0
  reqNext : Nat := 0
  symbols : Nat := 0
  discards : Nat := 0
  replays : Nat := 0
  retrains : Nat := 0
  drops   : Nat := 0
  deriving DecidableEq, Repr

/-- The fabric side (R207–R231, R303, R309): operations by TID, those that completed before their replies, packets that have reached this chip or travel on its mesh,
packets no door can take yet with the time since when they wait, the door rotation and route rows by chip, the synchronisation cells that blocks have brought
with their doors, the cells already forwarded, the chip number that the doors were last trained under (R292), whether the
unassigned number has been reported (R293), the write of OD 0x4024 that waits for its doors to train (R292), and, by door × 32 +
partition, with 24 for the host port, the bytes that have left in the window of 10 µs that `window` numbers (R276). -/
structure FabricSt where
  ops     : SMap RemOp := []
  expired : SMap RemOp := []
  nextTid : Nat := 0
  nextOp  : Nat := 0
  arrived : List Packet := []
  partials : List Partial := []
  waiting : List (Nat × Packet) := []
  rot     : SMap Nat := []
  route   : SMap Nat := []
  doors   : SMap Door := []
  cells   : List (Nat × SyncCell) := []
  seen    : List (Nat × Nat × Nat × Nat) := []
  chip    : Nat := 0xFFF
  unassigned : Bool := false
  retrain : Option (Nat × TMsg) := none
  window  : Nat := 0
  shared  : SMap Nat := []
  deriving DecidableEq, Repr

/-- Something the module puts on one of its interfaces. -/
inductive Emission where
  /-- a block on a door with its trailer's BACK, NAK and CRC (R295, R298) -/
  | door (door : Nat) (block : TxBlock) (back : Nat) (nak : Bool) (crc : Nat)
  /-- BACK and NAK of the trailers of the idle blocks that follow (R298) -/
  | back (door back : Nat) (nak : Bool)
  /-- this end's identity block (R293) -/
  | identity (door : Nat) (self : Identity)
  /-- a Transom response: session, type, SEQ, status, MORE and body (R344) -/
  | response (iface : Iface) (session type seq status more : Nat) (body : List Byte)
  /-- a Transom EVENT: session, SEQ and body (R349) -/
  | event (session seq body : Nat)
  /-- a CLOSE of the FZ9 (R347) -/
  | close (iface : Iface) (session status : Nat)
  /-- a RoCEv2 answer of a queue pair with its header: 0 ACK, 1 READ response, 2 RNR NAK, 3 Invalid Request, 4 Remote Access Error, 5
  Remote Operational Error, 6 PSN sequence error, 7 CNP (R317) -/
  | roce (qpn answer : Nat) (h : RoceHead) (data : List Byte)
  /-- PAUSE for a priority (R315) -/
  | pause (priority : Nat)
  /-- a Neighbor Advertisement or an echo reply (R316) -/
  | nd (iface : Iface) (target : Nat)
  | echo (iface : Iface) (payload : List Byte)
  /-- a delivery datagram: kind, offset, reason and body (Table 20-5) -/
  | delivery (kind offset reason : Nat) (body : List Byte)
  /-- a snapshot block to the buddy with its digest (R405), and its acknowledgement (R406) -/
  | snapBlock (chip job id : Nat) (head : Option SnapHeader) (pool block : Nat) (data : List Byte) (digest : BitVec 512)
  | snapAck (chip job pool block status : Nat)
  /-- a request for the blocks of a copy (R410) -/
  | fetchCopy (chip job origin id : Nat)
  deriving DecidableEq, Repr

/-! ## Time, host port, Transom -/

/-- The lintel (R37–R40, R308). State 0 FREE, 1 ACQUIRING, 2 LOCKED, 3 HOLDOVER. Views are keyed by unit; `domain` is the sync
domain that the doors were last trained under, `frameOff` the secondary frame die's counter less the primary's in ps, `master` that this
chip sends the domain's TIME cells, and `timeNext` when its next one is due. -/
structure LintelSt where
  now      : Nat := 0
  state    : Nat := 0
  stepped  : Bool := false
  domainOff : Int := 0
  frameOff : Int := 0
  slew     : Int := 0
  lastCell : Nat := 0
  upstream : Option Nat := none
  bestHops : Nat := 16
  domain   : Nat := 0
  master   : Bool := false
  timeNext : Nat := 0
  views    : SMap Nat := []
  deriving DecidableEq, Repr

/-- A frame that the host port holds back (R315, R322): since when, until when at least, how many frames it is. -/
structure HeldFrame where
  since  : Nat
  due    : Nat
  frames : Nat
  frame  : Emission
  deriving DecidableEq, Repr

/-- The host port and the sideband node (R313–R328). Link 0 down, 1 training, 2 up at 200 GB/s, 3 up at 100 GB/s; `mode`,
`address`, `prefixLen`, `vlan`, `pfc` and `port` are those of the last training, `autoAddress` the global address that autoconfiguration has formed
(R316), `lost` that a link that was up has gone down, `pausedUntil` the end of a PAUSE received, and `held` the RoCEv2 frames that wait
(R315, R322). `plca` is that beacons are seen. `keyGen` is the last generation of each device
index of a memory key (R320). -/
structure HostSt where
  link      : Nat := 0
  lost      : Bool := false
  mode      : Nat := 1
  address   : Nat := 0
  prefixLen : Nat := 64
  vlan      : Nat := 0
  pfc       : Nat := 255
  port      : Nat := 39140
  autoAddress : Option Nat := none
  pausedUntil : Nat := 0
  held      : List HeldFrame := []
  framesIn  : Nat := 0
  framesOut : Nat := 0
  discarded : Nat := 0
  pauseOut  : Nat := 0
  pauseIn   : Nat := 0
  cnpOut    : Nat := 0
  cnpIn     : Nat := 0
  ptpState  : Nat := 0
  ptpOffset : Int := 0
  grandmaster : Nat := 0
  ptpLast   : Nat := 0
  sideband  : Nat := 0
  plca      : Bool := false
  keyGen    : SMap Nat := []
  deriving DecidableEq, Repr

/-- A Transom session (R345–R349). A round-1 session that awaits round 2 has `open` false. -/
structure Session where
  part    : Nat
  iface   : Iface
  opened  : Bool
  readOnly : Bool := false
  key     : Nat := 0
  digest  : BitVec 512 := 0
  asked   : Nat := 0
  lastSeq : Nat := 0
  kept    : Option (Nat × Nat × List Byte) := none
  busy    : Option Nat := none
  mask    : Nat := 0
  evNext  : Nat := 1
  unacked : List (Nat × Nat × Nat) := []
  waiting : List Nat := []
  dropped : Nat := 0
  lastMsg : Nat := 0
  deriving DecidableEq, Repr

/-- The Transom side: sessions by id, and the logs of DEV events (Table 15-6 rows as numbers). `acting` is the action that
runs in each sequence, a partition's by its number and the device's at 32, with its partition; `queued` those that wait
(R335). -/
structure TransomSt where
  sessions : SMap Session := []
  acting   : SMap (Nat × TMsg) := []
  queued   : List (Nat × TMsg) := []
  log      : List Nat := []
  alerts   : Bool := false
  devStatus : SMap Nat := []
  deriving DecidableEq, Repr

/-- What the frame MRAM and the fuses keep over power (R336–R342, R367, R374, R439, R441). `committed` is the committed set
by dictionary key; `owner` the owner's public key, empty while unclaimed; `packs` the id, version, signer and size of each
stored test pack. -/
structure MramSt where
  committed : Option (SMap Nat) := none
  sealed    : Bool := false
  owner     : List Byte := []
  rackKey   : Nat := 0
  fuseFloor : Nat := 0
  packs     : List (Nat × Nat × Nat × Nat) := []
  deriving DecidableEq, Repr

/-! ## Units, power, boot -/

/-- The state of a retirable unit (Table 16-7). -/
inductive UnitState where
  | good | spare | testing | retired | unrepairable
  deriving DecidableEq, Repr

/-- The history of a retirable unit (Table 16-7). `times` are the operating seconds of its transients, `dueAt` the lintel
time at which a test that still waits fell due (R376), and `judged` that the test under way decides a detection (R365). -/
structure UnitRow where
  state    : UnitState := .good
  times    : List Nat := []
  tests    : Nat := 0
  corr     : Nat := 0
  lasttest : Nat := 0
  due      : Nat := 0
  dueAt    : Option Nat := none
  judged   : Bool := false
  deriving DecidableEq, Repr

/-- A retirement (Table 16-8). -/
structure Retirement where
  kind   : Nat
  cause  : Nat
  number : Nat
  opsec  : Nat
  time   : Nat
  deriving DecidableEq, Repr

/-- A row of OD 0x1020 (R19). -/
inductive PaneState where
  | active | migrating | vacant
  deriving DecidableEq, Repr

/-- What happens to an active pane number (R371, R372, R377, R387): its cohorts migrate to a physical pane, after which the
old pane is tested, or retired with a cause; it is held at its pane until the pane's test decides it; or its groups are
paused for a test. -/
inductive MoveKind where
  | migrate (target : Nat) (retire : Option Nat)
  | held
  | pause
  deriving DecidableEq, Repr

/-- The panes and cube rows as built and as retired (R15–R21, R98–R100, R365–R378). The map and row masks list only what
differs from shipment. `offline` is the row of a physical pane whose place the spare row takes while it is tested, and `remap`
the retired rows and the offline row that a pane takes on once its steps in flight have their verdicts (R99); `holds` when each
place was last seen under a hold token (R26);
`history` is keyed as OD 0x8020 numbers its rows; `pending` are the RUN_TEST messages that wait for a unit. -/
structure UnitsSt where
  phys     : SMap Nat := []
  pstate   : SMap PaneState := []
  rmask    : SMap Nat := []
  offline  : SMap Nat := []
  remap    : SMap (Nat × Option Nat) := []
  holds    : List (FaultLoc × Nat) := []
  history  : SMap UnitRow := []
  retired  : List Retirement := []
  moves    : SMap MoveKind := []
  pending  : SMap TMsg := []
  opsec    : Nat := 0
  deriving DecidableEq, Repr

/-- One sash's power and thermal state (R417–R423). Voltages in mV, temperatures in °C; `forced` is that the hot spot is in an
excursion to 103 °C or more. -/
structure SashSt where
  applied   : Nat := 720
  ceiling   : Nat := 800
  hot       : Nat := 0
  hotSeen   : Bool := false
  idle      : Bool := false
  emptySince : Option Nat := none
  off       : Bool := false
  tripped   : Bool := false
  coolSince : Option Nat := none
  forced    : Bool := false
  lastFall  : Nat := 0
  lastRise  : Nat := 0
  deriving DecidableEq, Repr

/-- Power and standby (R417–R427). State 0 ACTIVE, 1 IDLE, 2 and 3 SHUTTERED. `cut` is the cap reduction r, `quarters` the periods of
250 µs above the cap at FLOOR that do not yet make a millisecond, and `retained` the panes whose SRAM the shuttered state keeps. `rates` are
the last reports of the rate monitors in kHz (R29), `rateSince` the window of 10 µs in which their minimum fell below the threshold of
RATE_LOW, `rateRun` the consecutive windows since, and `rateLow` is its excursion (R30). -/
structure PowerSt where
  sash0    : SashSt := {}
  sash1    : SashSt := {}
  cut      : Nat := 0
  lastRise : Option Nat := none
  limited  : Bool := false
  quarters : Nat := 0
  state    : Nat := 0
  retained : Nat := 0
  thermalShutter : Bool := false
  frameCoolSince : Option Nat := none
  rates     : SMap Nat := []
  rateSince : Option Nat := none
  rateRun   : Nat := 0
  rateLow   : Bool := false
  deriving DecidableEq, Repr

/-- A reset stage that runs (R380–R391): its stage and target (a partition, a physical pane or a sash), when it started, its
watchdog's length in nanoseconds, the message that asked for it, the partition that it acts on, whether a sash reset has
its fences behind it, and the time since when its watchdog stands still. `panes` are the physical panes that have not finished their part of
a context reset, and `fence` the messages of a fence that waits for its end (Table 17-7). -/
structure StageSt where
  stage  : Nat
  target : Nat
  start  : Nat
  limit  : Nat
  msg    : Option TMsg := none
  part   : Option Nat := none
  begun  : Bool := false
  paused : Option Nat := none
  panes  : List Nat := []
  fence  : Option (List TMsg) := none
  deriving DecidableEq, Repr

/-- The start, delivery and reset side (R380–R396, R429–R446, R451–R458). `bytes` are the bytes of the delivery accepted so far, and
`acked` the count of the last ACK. Device state 0 BOOTING, 1 READY, 2 SHUTTERED,
3 RESETTING, 4 FAULT. `escalated` lists the places without a spare whose dual-rail fault has already led to a reset: a
sash's mesh 0 and 1, the mullion 2, sill logic 3 + stack, frame-die logic 23 (R357). -/
structure BootSt where
  state    : Nat := 0
  stage    : Nat := 1
  reason   : Nat := 0
  rejects  : Nat := 0
  staget   : Nat := 0
  version  : Nat := 0
  bootid   : Nat := 0
  bound    : Option Nat := none
  bytes    : List Byte := []
  lastSeg  : Nat := 0
  lastAck  : Option Nat := none
  acked    : Nat := 0
  header   : List Byte := []
  rows     : List (Nat × Nat × Nat × BitVec 512) := []
  aliasCert : Nat := 0
  report   : Nat := 0
  nonce    : Nat := 0
  trained  : Bool := false
  random   : Bool := true
  persistLost : Bool := false
  fallback : Bool := false
  clock    : Nat := 0
  slot     : Nat := 255
  vin      : Nat := 48000
  pwrgd    : Bool := true
  resetLow : Bool := false
  reset5   : Bool := false
  stages   : List StageSt := []
  escalated : List Nat := []
  deriving DecidableEq, Repr

/-- The module: the counter of free values, the parts above, the object dictionary's stored values by key (see odKey; an
unlisted value is the entry's default), what each partition has been served of memory, doors and host port and has waited for it, by
(3 × partition + row) × 2 + column of OD 0x6150 (R289), and what the module has sent. -/
structure Device where
  free    : Nat := 0
  boot    : BootSt := {}
  mram    : MramSt := {}
  lintel  : LintelSt := {}
  units   : UnitsSt := {}
  power   : PowerSt := {}
  panes   : SMap Pane := []
  cohorts : SMap Cohort := []
  nextCohort : Nat := 0
  parts   : SMap Partition := []
  mem     : MemSt := {}
  stackAt : SMap Stack := []
  fabric  : FabricSt := {}
  host    : HostSt := {}
  transom : TransomSt := {}
  od      : SMap Nat := []
  use     : SMap Nat := []
  sent    : List Emission := []
  deriving DecidableEq, Repr

/-- The state: the module, and the queue of commands that wait, first in first out. -/
structure State extends Device where
  pending : List Instr := []
  deriving DecidableEq, Repr

/-- The reasons a step can stop with a fault. -/
inductive Fault where
  /-- raised by VIN_TURN_OFF when the input passes what the module survives; the manual gives no behaviour there (R451,
  Table 21-3); safe: the model stops where the hardware's behaviour is not given -/
  | damaged
  deriving DecidableEq, Repr

/-- The reasons a command has no meaning. -/
inductive Refusal where
  /-- raised by an arm of exec whose command has no meaning yet; safe: the model stops -/
  | notModelled (mnemonic : String)
  /-- raised by a Krycha command whose word is the word of another row of the opcode table, and by WRITE and the rows that
  write one X entry where the message writes another row's entry or value: the operands contradict the row, and the row
  that they name is the command that runs them; safe: the model stops -/
  | wordOfAnotherRow
  deriving DecidableEq, Repr

/-- The module right after reset: power in range, power-good, stage 1 of a start (R437, R452). Log entry 3 (DESIGN CHOICE). -/
def State.reset : State := {}

end Sys2Proof.Machine
end

