-- ==== Sys2Proof/Machine/Bits.lean ====
section
/-! DEFINITION. Helpers that every meaning shares: bit fields, little-endian bytes (R5), lane masks (R43), and the sparse
maps of the state. -/

namespace Sys2Proof.Machine

/-! ## Bit fields and bytes -/

/-- Field [lo + len − 1 : lo] of a number (R4). -/
def fld (n lo len : Nat) : Nat := n / 2 ^ lo % 2 ^ len

/-- The same field read as a two's-complement number. -/
def sfld (n lo len : Nat) : Int :=
  if fld n lo len < 2 ^ (len - 1) then (fld n lo len : Int) else (fld n lo len : Int) - 2 ^ len

/-- Whether bit i of a number is set. -/
def bit (n i : Nat) : Bool := n / 2 ^ i % 2 == 1

/-- A number with bit i written. -/
def setBit (n i : Nat) (v : Bool) : Nat :=
  if bit n i == v then n else if v then n + 2 ^ i else n - 2 ^ i

/-- The low `len` bytes of a number, the lowest first (R5). -/
def bytesOf (n : Nat) : Nat → List Byte
  | 0 => []
  | len + 1 => BitVec.ofNat 8 (n % 256) :: bytesOf (n / 256) len

/-- The number that little-endian bytes spell (R5). -/
def ofBytes : List Byte → Nat
  | [] => 0
  | b :: rest => b.toNat + 256 * ofBytes rest

/-- Bits packed from the lowest: pairs of a value and its width. Log entry 70 (DEDUCED). -/
def pack : List (Nat × Nat) → Nat
  | [] => 0
  | (v, w) :: rest => v % 2 ^ w + 2 ^ w * pack rest

/-- A two's-complement number of `len` bits as bits. -/
def ofInt (len : Nat) (i : Int) : Nat := (i % (2 ^ len : Nat)).toNat

/-- n / d rounded up. -/
def ceilDiv (n d : Nat) : Nat := (n + d - 1) / d

/-! ## Lane masks -/

/-- The set lanes of a mask, in ascending order. -/
def lanesOf (m : Mask) : List Nat := (List.range 128).filter (fun i => m.getLsbD i)

/-- The lowest set lane; 128 when there is none. -/
def lowLane (m : Mask) : Nat := ((List.range 128).find? (fun i => m.getLsbD i)).getD 128

/-- The mask of one lane. -/
def laneBit (i : Nat) : Mask := BitVec.ofNat 128 (2 ^ i)

/-- The mask of a list of lanes. -/
def maskOf (ls : List Nat) : Mask := ls.foldl (fun m i => m ||| laneBit i) 0

/-- The lanes 0 to w − 1. -/
def widthMask (w : Nat) : Mask := BitVec.ofNat 128 (2 ^ w - 1)

/-- The number of set lanes. -/
def laneCount (m : Mask) : Nat := (lanesOf m).length

/-! ## Sparse maps -/

/-- The entry of a key. -/
def SMap.find {α : Type} : SMap α → Nat → Option α
  | [], _ => none
  | (k, v) :: rest, j => if j = k then some v else SMap.find rest j

/-- The entry of a key, or the default. Log entry 4 (DESIGN CHOICE). -/
def SMap.get {α : Type} (m : SMap α) (j : Nat) (d : α) : α := (SMap.find m j).getD d

/-- The map with one entry written, its keys kept rising. -/
def SMap.put {α : Type} : SMap α → Nat → α → SMap α
  | [], j, w => [(j, w)]
  | (k, v) :: rest, j, w =>
    if j < k then (j, w) :: (k, v) :: rest
    else if j = k then (j, w) :: rest
    else (k, v) :: SMap.put rest j w

/-- The map without a key. -/
def SMap.del {α : Type} (m : SMap α) (j : Nat) : SMap α := m.filter (fun kv => kv.1 != j)

/-- The map with one entry written, no entry kept that equals the default. -/
def SMap.keep {α : Type} [DecidableEq α] (m : SMap α) (j : Nat) (w d : α) : SMap α :=
  if w = d then SMap.del m j else SMap.put m j w

/-- The map with one entry changed. -/
def SMap.update {α : Type} (m : SMap α) (j : Nat) (d : α) (f : α → α) : SMap α := SMap.put m j (f (SMap.get m j d))

/-- The keys of a sparse map are strictly rising. -/
def SMap.rising {α : Type} : SMap α → Bool
  | [] => true
  | (k, _) :: rest => rest.all (fun kv => decide (k < kv.1)) && SMap.rising rest

/-- A sparse map is in canonical form: keys strictly rising, no entry equal to the default. -/
def SMap.wf {α : Type} [DecidableEq α] (m : SMap α) (d : α) : Bool := m.rising && m.all (fun kv => decide (kv.2 ≠ d))

/-- The lowest number below n that is no key of the map. Log entry 134 (DESIGN CHOICE). -/
def SMap.fresh {α : Type} (m : SMap α) (n : Nat) : Option Nat :=
  (List.range n).find? (fun i => (SMap.find m i).isNone)

/-! ## Lists -/

/-- A list with the first element that satisfies p changed. -/
def modifyFirst {α : Type} (p : α → Bool) (f : α → α) : List α → List α
  | [] => []
  | a :: rest => if p a then f a :: rest else a :: modifyFirst p f rest

/-- The sum of a list of numbers. -/
def total (l : List Nat) : Nat := l.foldl (· + ·) 0

/-- The greatest of a list of numbers; 0 for none. -/
def greatest (l : List Nat) : Nat := l.foldl Nat.max 0

/-- The numbers lo to hi − 1. -/
def span (lo hi : Nat) : List Nat := (List.range (hi - lo)).map (· + lo)

/-- A list cut into pieces of n, the last one shorter; at most `fuel` of them. -/
def pieces {α : Type} (n : Nat) : Nat → List α → List (List α)
  | 0, _ => []
  | fuel + 1, l => if l.isEmpty then [] else l.take n :: pieces n fuel (l.drop n)

/-- A list filled up to n entries. -/
def padTo {α : Type} (n : Nat) (a : α) (l : List α) : List α := l ++ List.replicate (n - l.length) a

/-- A list without repeats. -/
def distinct (l : List Nat) : List Nat := l.foldl (fun acc a => if acc.contains a then acc else acc ++ [a]) []

end Sys2Proof.Machine
end

