-- ==== Sys2Proof/Machine/OdTable.lean ====
section
/-! DEFINITION. The object dictionary's catalogue (R331, R332, R351): every entry of Tables 02-1, 02-4, 05-2, 06-6, 07-7,
09-6, 10-8, 12-10, 13-9, 14-7, 15-10, 18-8, 19-6, 20-11, 21-9 and of R19, R26, R30, R66, with its type, access code,
scope, range and default. -/

namespace Sys2Proof.Machine

/-- The value types of Table 15-2. -/
inductive OdType where
  | bool | u8 | u16 | u32 | u64 | i64 | f32 | ltime | enum8 | bits32 | str | blob | table
  deriving DecidableEq, Repr

/-- The access codes of Table 00-5. -/
inductive Access where
  | ro | rw | rwp | ws | wo | x
  deriving DecidableEq, Repr

/-- The scopes of R9. -/
inductive Scope where
  | dev | part
  deriving DecidableEq, Repr

/-- One entry or record sub-entry: its width in bytes (a table's row width), its number of rows (0 when it is not a table;
the greatest number for a table with a current row count), its range in its own type, and its default as bits. -/
structure Entry where
  index : Nat
  sub   : Nat
  type  : OdType
  width : Nat
  acc   : Access
  scope : Scope
  rows  : Nat := 0
  lo    : Int := 0
  hi    : Int := 0
  dflt  : Nat := 0
  deriving DecidableEq, Repr

/-- The code of a type in a DESCRIBE response (Table 15-2). -/
def OdType.code : OdType → Nat
  | .bool => 0x01 | .u8 => 0x02 | .u16 => 0x03 | .u32 => 0x04 | .u64 => 0x05 | .i64 => 0x06 | .f32 => 0x07
  | .ltime => 0x08 | .enum8 => 0x09 | .bits32 => 0x0A | .str => 0x0B | .blob => 0x0C | .table => 0x0D

/-- The access code in a DESCRIBE response (R344). -/
def Access.code : Access → Nat
  | .ro => 0 | .rw => 1 | .rwp => 2 | .ws => 3 | .wo => 4 | .x => 5

def eBool (acc : Access) (sc : Scope) (ix : Nat) (sub dflt : Nat := 0) : Entry :=
  { index := ix, sub, type := .bool, width := 1, acc, scope := sc, lo := 0, hi := 1, dflt }

def eU8 (acc : Access) (sc : Scope) (ix : Nat) (sub dflt : Nat := 0) (lo : Int := 0) (hi : Int := 255) : Entry :=
  { index := ix, sub, type := .u8, width := 1, acc, scope := sc, lo, hi, dflt }

def eEnum (acc : Access) (sc : Scope) (ix : Nat) (sub dflt : Nat := 0) (lo : Int := 0) (hi : Int := 255) : Entry :=
  { index := ix, sub, type := .enum8, width := 1, acc, scope := sc, lo, hi, dflt }

def eU16 (acc : Access) (sc : Scope) (ix : Nat) (sub dflt : Nat := 0) (lo : Int := 0) (hi : Int := 65535) : Entry :=
  { index := ix, sub, type := .u16, width := 2, acc, scope := sc, lo, hi, dflt }

def eU32 (acc : Access) (sc : Scope) (ix : Nat) (sub dflt : Nat := 0) (lo : Int := 0) (hi : Int := 4294967295) : Entry :=
  { index := ix, sub, type := .u32, width := 4, acc, scope := sc, lo, hi, dflt }

def eU64 (acc : Access) (sc : Scope) (ix : Nat) (sub dflt : Nat := 0) (lo : Int := 0)
    (hi : Int := 18446744073709551615) : Entry :=
  { index := ix, sub, type := .u64, width := 8, acc, scope := sc, lo, hi, dflt }

def eI64 (acc : Access) (sc : Scope) (ix : Nat) (sub dflt : Nat := 0) (lo : Int := -9223372036854775808)
    (hi : Int := 9223372036854775807) : Entry :=
  { index := ix, sub, type := .i64, width := 8, acc, scope := sc, lo, hi, dflt }

def eTime (ix sub : Nat) : Entry :=
  { index := ix, sub, type := .ltime, width := 8, acc := .ro, scope := .dev, hi := 18446744073709551615 }

def eStr (acc : Access) (ix sub width : Nat) (dflt : Nat := 0) : Entry :=
  { index := ix, sub, type := .str, width, acc, scope := .dev, dflt }

def eBlob (acc : Access) (sc : Scope) (ix sub width : Nat) (dflt : Nat := 0) : Entry :=
  { index := ix, sub, type := .blob, width, acc, scope := sc, dflt }

def eTable (acc : Access) (sc : Scope) (ix width rows : Nat) (dflt : Nat := 0) : Entry :=
  { index := ix, sub := 0, type := .table, width, acc, scope := sc, rows, dflt }

/-- 0x1000, identity and device. The part number is FZ9-2560-LA. -/
def od1000 : List Entry :=
  [ eU8 .ro .dev 0x1000 0 5,
    eStr .ro 0x1000 1 16 78939911705154958508251718,
    eStr .ro 0x1000 2 16,
    eU16 .ro .dev 0x1000 3,
    eU32 .ro .dev 0x1000 4,
    eU32 .ro .dev 0x1000 5,
    eEnum .ro .dev 0x1010 0 0 0 4,
    eBlob .ro .dev 0x1011 0 32 1,
    eTable .ro .dev 0x1020 3 320,
    eTable .ro .dev 0x1021 1 2 9,
    eTable .ro .dev 0x1022 8 320,
    eStr .ws 0x1030 0 32,
    eStr .rwp 0x1031 0 32,
    eU8 .ro .dev 0x1040,
    eEnum .ro .dev 0x1041 0 0 0 2,
    eBool .x .dev 0x1100,
    eBool .ro .dev 0x1101,
    eBool .x .dev 0x1102,
    eU16 .x .dev 0x1103,
    eBool .ro .dev 0x1104,
    eTable .rw .dev 0x1110 8 256,
    eTable .ro .dev 0x1120 28 64,
    eU32 .rw .dev 0x1121 0 30000 1000 3600000,
    eU64 .ro .dev 0x1122 ]

/-- 0x2000, power and thermal. -/
def od2000 : List Entry :=
  [ eEnum .ro .dev 0x2000 0 0 0 3,
    eEnum .x .dev 0x2001 0 0 0 3,
    eU32 .rwp .dev 0x2010 0 4200 1500 4200,
    eU32 .ws .dev 0x2011 0 4200 1500 4200,
    eTable .rw .dev 0x2020 2 2 720,
    eTable .ro .dev 0x2021 4 2 720,
    eTable .ro .dev 0x2030 4 7,
    eTable .ro .dev 0x2031 4 26,
    eTable .ro .dev 0x2032 4 2,
    eU8 .ro .dev 0x2040 0 0x13 ]
  ++ (List.range 19).map (fun i => eU32 .ro .dev 0x2040 (i + 1))
  ++ [ eU32 .rw .dev 0x2041 0 1500000 100000 3000000,
    eBlob .rw .dev 0x2050 0 40,
    eU8 .rwp .dev 0x2060 0 95 80 100,
    eTable .ro .dev 0x2061 1 2,
    eU8 .ro .dev 0x2070 0 3,
    eU64 .ro .dev 0x2070 1,
    eU64 .ro .dev 0x2070 2,
    eU64 .ro .dev 0x2070 3 ]

/-- 0x3000, memory. -/
def od3000 : List Entry :=
  [ eU8 .ro .dev 0x3000 0 3,
    eU64 .ro .dev 0x3000 1 2748779069440,
    eU64 .ro .dev 0x3000 2 2641404887040,
    eU64 .ro .dev 0x3000 3 2641404887040,
    eTable .ro .dev 0x3010 8 20,
    eTable .ro .dev 0x3020 32 20,
    eU32 .rw .dev 0x3030 0 8 0 24,
    eU8 .ro .dev 0x3040 0 3,
    eU8 .rw .dev 0x3040 1 4 2 64,
    eU16 .rw .dev 0x3040 2 100 10 6000,
    eU8 .rw .dev 0x3040 3 25 1 100,
    eU32 .rwp .dev 0x3060 0 86400 3600 604800,
    eTable .ro .part 0x3100 8 8 ]

/-- 0x4000, doors and lintel. The symbol error limit's range is 10^-8 to 10^-3 in binary32. -/
def od4000 : List Entry :=
  [ eTable .rwp .dev 0x4000 4 24 0x2000001,
    eTable .ro .dev 0x4010 14 24,
    eU16 .rwp .dev 0x4020 0 0xFFF 0 0xFFF,
    eU16 .rwp .dev 0x4021,
    eU8 .rwp .dev 0x4022 0 128,
    eBool .x .dev 0x4024,
    eTable .rw .dev 0x4030 3 4096,
    eTable .ro .dev 0x4040 40 24,
    eU8 .ro .dev 0x4050 0 2,
    eU32 .rw .dev 0x4050 1 1000 10 1000000,
    { index := 0x4050, sub := 2, type := .f32, width := 4, acc := .rw, scope := .dev, lo := 0x322BCC77,
      hi := 0x3A83126F, dflt := 0x3727C5AC },
    eBlob .rw .part 0x4070 0 512,
    eU8 .ro .dev 0x4080 0 5,
    eTime 0x4080 1,
    eEnum .ro .dev 0x4080 2 0 0 3,
    eI64 .ro .dev 0x4080 3,
    eI64 .ro .dev 0x4080 4,
    eI64 .ro .dev 0x4080 5,
    eU64 .ro .part 0x4081 ]

/-- 0x5000, host port and sideband. -/
def od5000 : List Entry :=
  [ eEnum .rwp .dev 0x5000 0 1 1 6,
    eEnum .ro .dev 0x5001 0 0 0 3,
    eBlob .ro .dev 0x5002 0 12,
    eBlob .rwp .dev 0x5003 0 16,
    eU8 .rwp .dev 0x5004 0 64 1 128,
    eU16 .rwp .dev 0x5005 0 0 0 4094,
    eU8 .rwp .dev 0x5006 0 0xFF,
    eU16 .rwp .dev 0x5008 0 39140 1024 65535,
    eU8 .ro .dev 0x5010 0 5,
    eBool .rwp .dev 0x5010 1,
    eU8 .rwp .dev 0x5010 2 0 0 127,
    eEnum .ro .dev 0x5010 3 0 0 3,
    eI64 .ro .dev 0x5010 4,
    eBlob .ro .dev 0x5010 5 8,
    eTable .ro .dev 0x5020 56 1,
    eU32 .rw .dev 0x5030 0 5000 100 100000,
    eTable .ro .part 0x5100 16 4096,
    eU16 .ro .part 0x5101,
    eBlob .x .part 0x5110 0 64,
    eU16 .x .part 0x5111,
    eBlob .x .part 0x5120 0 32,
    eTable .ro .part 0x5121 24 2048,
    eU16 .x .part 0x5122,
    eU8 .ro .dev 0x5200 0 6,
    eBool .rwp .dev 0x5200 1 1,
    eU8 .rwp .dev 0x5200 2 0xFF 1 255,
    eU8 .rwp .dev 0x5200 3 32 1 255,
    eU8 .rwp .dev 0x5200 4 0,
    eU8 .rwp .dev 0x5200 5 128 1 255,
    eEnum .ro .dev 0x5200 6 0 0 2 ]

/-- 0x6000, partitions and queues. -/
def od6000 : List Entry :=
  [ eTable .ro .dev 0x6000 80 32,
    eBlob .x .dev 0x6002 0 64,
    eBlob .x .dev 0x6003 0 64,
    eU8 .x .dev 0x6004 0 0 1 31,
    eBlob .ro .part 0x6005 0 64,
    eBlob .ro .dev 0x6006 0 40 (2 ^ 320 - 1),
    eU16 .ro .part 0x6007,
    eBlob .x .part 0x6010 0 64,
    eTable .ro .part 0x6100 24 16384,
    eU32 .rw .part 0x6110 0 100000 100 10000000,
    eU32 .rw .part 0x6111 0 2000 10 1000000,
    eU32 .rw .part 0x6112 0 400000 1000 60000000,
    eU16 .ro .part 0x6120,
    eU8 .ro .part 0x6130 0 8 ]
  ++ (List.range 8).map (fun i => eU64 .ro .part 0x6130 (i + 1))
  ++ [ eTable .ro .part 0x6131 24 64,
    eU8 .x .part 0x6132 0 0 0 7,
    eTable .rw .part 0x6140 40 16,
    eTable .ro .part 0x6150 16 3 ]

/-- 0x7000, numerics and update. -/
def od7000 : List Entry :=
  [ eU8 .ro .part 0x7000 0 3,
    eU8 .rw .part 0x7000 1 0x84,
    eI64 .rw .part 0x7000 2 8 (-115) 127,
    eU64 .rw .part 0x7000 3,
    eU8 .ro .part 0x7020 0 4,
    eU64 .ro .part 0x7020 1,
    eU64 .ro .part 0x7020 2,
    eU64 .ro .part 0x7020 3,
    eU64 .ro .part 0x7020 4,
    eU8 .ro .part 0x7110 0 8,
    eU64 .rw .part 0x7110 1,
    eU64 .rw .part 0x7110 2,
    eU64 .rw .part 0x7110 3,
    eU64 .rw .part 0x7110 4,
    eI64 .rw .part 0x7110 5 16 (-64) 64,
    eU32 .rw .part 0x7110 6 2000 0 1000000,
    eU32 .rw .part 0x7110 7 12 10 1000,
    eU32 .rw .part 0x7110 8,
    eTable .ro .part 0x7120 16 4096,
    eU8 .ro .part 0x7130 0 9 ]
  ++ (List.range 9).map (fun i => eU64 .ro .part 0x7130 (i + 1))

/-- 0x8000 and 0x9000, faults, history and tests. -/
def od8000 : List Entry :=
  [ eTable .ro .dev 0x8000 48 1024,
    eTable .ro .part 0x8001 48 256,
    eU64 .ro .dev 0x8002,
    eU32 .rw .dev 0x8010 0 20 2 1000,
    eTable .ro .dev 0x8020 16 3404,
    eTable .ro .dev 0x8021 16 3404,
    eU8 .ro .part 0x8030 0 2,
    eBool .rw .part 0x8030 1 1,
    eEnum .rw .part 0x8030 2 0 0 1,
    eU8 .ro .dev 0x8040 0 2,
    eU8 .rwp .dev 0x8040 1 3 1 255,
    eU32 .rwp .dev 0x8040 2 86400 60 2592000,
    eU8 .rwp .dev 0x8050 0 2 0 3,
    eBool .x .dev 0x8051,
    { index := 0x8052, sub := 0, type := .bits32, width := 4, acc := .ro, scope := .dev },
    eU32 .rw .dev 0x9000 0 30000 0 600000,
    eU32 .rw .dev 0x9001 0 600000 0 3600000,
    eTable .ro .dev 0x9010 11 17,
    eTable .ro .dev 0x9020 12 3404,
    eU32 .x .dev 0x9030 ]

/-- 0xA000, fencing, reset and snapshots. -/
def odA000 : List Entry :=
  [ eU8 .ro .part 0xA000 0 5,
    eBool .rw .part 0xA000 1,
    eU16 .rw .part 0xA000 2 0xFFF 0 0xFFF,
    eU64 .rw .part 0xA000 3 86400,
    eU32 .ro .part 0xA000 4,
    eU32 .ro .part 0xA000 5,
    eU8 .rw .part 0xA001 0 0xFF,
    eU16 .rw .part 0xA002 0 0xFFF 0 0xFFF,
    eU32 .rw .part 0xA003 0 50 1 4800,
    eBool .x .part 0xA010,
    eTable .ro .part 0xA020 32 16,
    eTable .ro .part 0xA021 16 64,
    eBlob .x .part 0xA030 0 16,
    eBlob .x .part 0xA040 0 16,
    eU8 .ro .part 0xA050 0 4,
    eU64 .ro .part 0xA050 1,
    eU64 .ro .part 0xA050 2,
    eU64 .ro .part 0xA050 3,
    eU64 .ro .part 0xA050 4,
    eEnum .x .dev 0xA100 0 0 1 3,
    eU8 .x .dev 0xA101 0 0 1 31,
    eBool .x .part 0xA110,
    eTable .rw .dev 0xA120 4 5 ]

/-- 0xB000 and 0xC000, security and performance. -/
def odB000 : List Entry :=
  [ eTable .ro .dev 0xB000 1024 16,
    eBlob .x .dev 0xB001 0 64,
    eTable .ro .dev 0xB002 1024 8,
    eTable .ro .dev 0xB003 1024 8,
    eBlob .ro .dev 0xB004 0 64,
    eU32 .ws .dev 0xB010,
    eU32 .ro .dev 0xB011,
    eBlob .ro .dev 0xB020 0 64,
    eBlob .x .dev 0xB021 0 7232,
    eTable .ro .dev 0xB030 71 23,
    eTable .rw .dev 0xB040 64 32,
    eBlob .wo .dev 0xB041 0 32,
    eBool .ws .dev 0xB050,
    eTable .ro .part 0xC000 48 320,
    eBool .x .part 0xC001,
    eTable .ro .dev 0xC010 4 46 ]

/-- The catalogue, in ascending order of index and sub-index. -/
def odTable : List Entry :=
  od1000 ++ od2000 ++ od3000 ++ od4000 ++ od5000 ++ od6000 ++ od7000 ++ od8000 ++ odA000 ++ odB000

/-- The entry at an index and sub-index. -/
def odEntry (index sub : Nat) : Option Entry := odTable.find? (fun e => e.index == index && e.sub == sub)

/-- The watchdog lengths of the reset stages in ms (Table 17-3). -/
def stageDefault (row : Nat) : Nat :=
  match row with
  | 0 => 1
  | 1 => 50
  | 2 => 500
  | 3 => 5000
  | _ => 60000

/-- An entry's default: a table's row-dependent default where it has one (R20 of OD 0xA120, Table 17-3). -/
def odDefault (index sub row : Nat) : Nat :=
  if index = 0xA120 then stageDefault row
  else match odEntry index sub with
    | some e => e.dflt
    | none => 0

/-- The key of a stored value: the partition of a PART copy (0 for a DEV entry), index, sub-index and row. -/
def odKey (part index sub row : Nat) : Nat := ((part * 65536 + index) * 256 + sub) * 65536 + row

end Sys2Proof.Machine
end

