-- ==== Sys2Proof/Machine/Ops.lean ====
section
/-! DEFINITION. The named operations over the parts of the state: units, registers, local store, object dictionary,
events and what the module sends. -/

namespace Sys2Proof.Machine

/-- The parts of a range that a command performs: all that are left, or some more (R181). -/
def partsNow {α : Type} (parts : List α) (made n : Nat) : List α := if n = 0 then parts.drop made else (parts.drop made).take n

/-! ## A command and the module -/

/-- What a command does to the module, with the queue as it stands. -/
def onDevice (s : State) (f : Device → Host.Outcome Device Fault Refusal) : Host.Outcome State Fault Refusal :=
  match f s.toDevice with
  | .next d => .next { s with toDevice := d }
  | .fault r => .fault r
  | .refused r => .refused r

/-! ## Status codes (Table 00-6) -/

def stOk : Nat := 0x00
def stTimeout : Nat := 0x01
def stFenced : Nat := 0x02
def stPoison : Nat := 0x03
def stAccess : Nat := 0x04
def stTranslation : Nat := 0x05
def stRetracted : Nat := 0x06
def stLate : Nat := 0x07
def stVetoed : Nat := 0x08
def stRetired : Nat := 0x09
def stResource : Nat := 0x0A
def stMalformed : Nat := 0x0B

/-! ## Panes, groups, cohorts, partitions -/

def Device.pane (s : Device) (a : Nat) : Pane := SMap.get s.panes a {}

def Device.setPane (s : Device) (a : Nat) (p : Pane) : Device := { s with panes := SMap.put s.panes a p }

def Device.modPane (s : Device) (a : Nat) (f : Pane → Pane) : Device := s.setPane a (f (s.pane a))

def Device.group? (s : Device) (a slot : Nat) : Option Group := SMap.find (s.pane a).groups slot

def Pane.setGroup (p : Pane) (slot : Nat) (g : Group) : Pane := { p with groups := SMap.put p.groups slot g }

def Device.setGroup (s : Device) (a slot : Nat) (g : Group) : Device := s.modPane a (·.setGroup slot g)

def Device.modGroup (s : Device) (a slot : Nat) (f : Group → Group) : Device :=
  match s.group? a slot with
  | none => s
  | some g => s.setGroup a slot (f g)

def Device.cohort? (s : Device) (c : Nat) : Option Cohort := SMap.find s.cohorts c

def Device.modCohort (s : Device) (c : Nat) (f : Cohort → Cohort) : Device :=
  match s.cohort? c with
  | none => s
  | some k => { s with cohorts := SMap.put s.cohorts c (f k) }

def Device.part (s : Device) (p : Nat) : Partition := SMap.get s.parts p {}

def Device.setPart (s : Device) (p : Nat) (x : Partition) : Device := { s with parts := SMap.put s.parts p x }

def Device.modPart (s : Device) (p : Nat) (f : Partition → Partition) : Device := s.setPart p (f (s.part p))

/-- The fabric job number and the pane set of a partition's descriptor (Table 12-1). -/
def Partition.job (x : Partition) : Nat := fld x.desc 16 16
def Partition.hasPane (x : Partition) (pane : Nat) : Bool := decide (pane < 320) && bit x.desc (192 + pane)

def Device.launch? (s : Device) (p l : Nat) : Option Launch := SMap.find (s.part p).launches l

def Device.modLaunch (s : Device) (p l : Nat) (f : Launch → Launch) : Device :=
  match s.launch? p l with
  | none => s
  | some x => s.modPart p (fun q => { q with launches := SMap.put q.launches l (f x) })

def Device.stack (s : Device) (k : Nat) : Stack := SMap.get s.stackAt k {}

def Device.modStack (s : Device) (k : Nat) (f : Stack → Stack) : Device :=
  { s with stackAt := SMap.put s.stackAt k (f (s.stack k)) }

def Device.door (s : Device) (d : Nat) : Door := SMap.get s.fabric.doors d {}

def Device.modDoor (s : Device) (d : Nat) (f : Door → Door) : Device :=
  { s with fabric := { s.fabric with doors := SMap.put s.fabric.doors d (f (s.door d)) } }

/-- The sash of an active pane number (R19). -/
def sashOf (pane : Nat) : Nat := if pane < 160 then 0 else 1

/-- The sash of a stack (R3). -/
def sashOfStack (stack : Nat) : Nat := if stack < 10 then 0 else 1

/-- The physical pane of an active number as shipped without factory substitution (R19). Log entry 136 (DEDUCED). -/
def shippedPhys (pane : Nat) : Nat := sashOf pane * 169 + pane % 160

/-- The physical pane that stands for an active number (R19). -/
def Device.phys (s : Device) (pane : Nat) : Nat := SMap.get s.units.phys pane (shippedPhys pane)

/-- The state of OD 0x1020 of an active number (R19). -/
def Device.paneState (s : Device) (pane : Nat) : PaneState := SMap.get s.units.pstate pane .active

/-! ## Registers (R52, R53, Table 04-3) -/

/-- v register n of a lane; v255 reads as zero (R52). -/
def Group.v (g : Group) (lane n : Nat) : Word := if n = 255 then 0 else SMap.get g.vregs (lane * 256 + n) 0

/-- s register n. -/
def Group.s (g : Group) (n : Nat) : Word := SMap.get g.sregs n 0

/-- The lanes in which predicate n is true; p0 is true in every lane (Table 04-3). -/
def Group.p (g : Group) (n : Nat) : Mask := if n = 0 then BitVec.allOnes 128 else SMap.get g.preds n 0

/-- v register n of a lane written; v255 ignores writes (R52). -/
def Group.setV (g : Group) (lane n : Nat) (x : Word) : Group :=
  if n = 255 then g else { g with vregs := SMap.keep g.vregs (lane * 256 + n) x 0 }

/-- v register n written in each of the lanes. -/
def Group.setVs (g : Group) (lanes : List Nat) (n : Nat) (f : Nat → Word) : Group :=
  lanes.foldl (fun h l => h.setV l n (f l)) g

/-- s register n written. -/
def Group.setS (g : Group) (n : Nat) (x : Word) : Group := { g with sregs := SMap.keep g.sregs n x 0 }

/-- Predicate n written in the lanes of a mask; p0 ignores writes (Table 04-3). -/
def Group.setP (g : Group) (n : Nat) (lanes value : Mask) : Group :=
  if n = 0 then g else { g with preds := SMap.keep g.preds n ((g.p n &&& ~~~lanes) ||| (value &&& lanes)) 0 }

/-- k v registers from n of a lane as one number, the lowest register first (R52, Table 04-3). -/
def Group.vWide (g : Group) (lane n : Nat) : Nat → Nat
  | 0 => 0
  | k + 1 => (g.v lane n).toNat + 2 ^ 32 * g.vWide lane (if n = 255 then 255 else n + 1) k

/-- k s registers from n as one number. -/
def Group.sWide (g : Group) (n : Nat) : Nat → Nat
  | 0 => 0
  | k + 1 => (g.s n).toNat + 2 ^ 32 * g.sWide (n + 1) k

/-- k v registers from n of a lane written from a number. -/
def Group.setVWide (g : Group) (lane n x : Nat) : Nat → Group
  | 0 => g
  | k + 1 => (g.setV lane n (BitVec.ofNat 32 x)).setVWide lane (if n = 255 then 255 else n + 1) (x / 2 ^ 32) k

/-- k s registers from n written from a number. -/
def Group.setSWide (g : Group) (n x : Nat) : Nat → Group
  | 0 => g
  | k + 1 => (g.setS n (BitVec.ofNat 32 x)).setSWide (n + 1) (x / 2 ^ 32) k

/-- The lanes of a group that are live: on some path (R60). -/
def Group.live (g : Group) : Mask := g.paths.foldl (fun m p => m ||| p.mask) 0

/-! ## Local store (R54, R56, R469) -/

/-- The populated bytes of a pane's local store (R54). -/
def Pane.lsBytes (p : Pane) : Nat := p.split * 262144

/-- Whether a range lies in populated local store. -/
def Pane.populated (p : Pane) (off len : Nat) : Bool := decide (off + len ≤ p.lsBytes)

def Pane.readLs (p : Pane) (off len : Nat) : List Byte := (List.range len).map (fun i => SMap.get p.ls (off + i) 0)

/-- Bytes written, whatever poison they meet. -/
def Pane.putLs (p : Pane) (off : Nat) (data : List Byte) : Pane :=
  { p with ls := (data.zipIdx).foldl (fun m bi => SMap.keep m (off + bi.2) bi.1 0) p.ls }

/-- The 32-byte sectors that a byte range meets. -/
def sectorsOf (off len : Nat) : List Nat := if len = 0 then [] else span (off / 32) ((off + len - 1) / 32 + 1)

def Pane.lsPoisoned (p : Pane) (sector : Nat) : Bool := SMap.get p.lsPoison sector false

/-- Whether a range meets a poisoned sector. -/
def Pane.lsBad (p : Pane) (off len : Nat) : Bool := (sectorsOf off len).any p.lsPoisoned

/-- The sectors that a range covers whole. -/
def wholeSectors (off len : Nat) : List Nat :=
  (sectorsOf off len).filter (fun k => decide (off ≤ k * 32 ∧ k * 32 + 32 ≤ off + len))

def Pane.setLsPoison (p : Pane) (sector : Nat) (b : Bool) : Pane :=
  { p with lsPoison := SMap.keep p.lsPoison sector b false }

/-- A transfer's write of a range under R469: a sector that is covered whole takes its data and loses its poison; a
poisoned sector that is covered in part keeps its bytes and its poison. -/
def Pane.writeLs (p : Pane) (off : Nat) (data : List Byte) : Pane :=
  let whole := wholeSectors off data.length
  let kept := (data.zipIdx).filter (fun bi =>
    let k := (off + bi.2) / 32
    whole.contains k || !p.lsPoisoned k)
  let q := { p with ls := kept.foldl (fun m bi => SMap.keep m (off + bi.2) bi.1 0) p.ls }
  whole.foldl (fun r k => r.setLsPoison k false) q

/-- Whether a transfer's write of a range meets a poisoned sector in part (R469). -/
def Pane.partlyBad (p : Pane) (off len : Nat) : Bool :=
  let whole := wholeSectors off len
  (sectorsOf off len).any (fun k => p.lsPoisoned k && !whole.contains k)

/-! ## Time, free values, emissions -/

/-- The primary lintel value (R38). -/
def Device.now (s : Device) : Nat := s.lintel.now

/-- A unit's local view of the lintel (R37). Units 0–319 are active panes, 320–339 sills, 340 the secondary frame die. Log entry 78 (DEDUCED). -/
def Device.view (s : Device) (unit : Nat) : Nat := SMap.get s.lintel.views unit 0

/-- The next free value, and the state with it drawn. Log entry 5 (DESIGN CHOICE). -/
def Device.draw (s : Device) : Nat × Device := (Config.draw s.free, { s with free := s.free + 1 })

/-- Log entry 13 (DESIGN CHOICE). -/
def Device.emit (s : Device) (e : Emission) : Device := { s with sent := s.sent ++ [e] }

/-- A partition is served by memory, a door or the host port, rows 0 to 2 of OD 0x6150 (R289). -/
def Device.serve (s : Device) (part row bytes waited : Nat) : Device :=
  let k := (3 * part + row) * 2
  let add (m : SMap Nat) (k n : Nat) : SMap Nat := SMap.keep m k (min (SMap.get m k 0 + n) (2 ^ 64 - 1)) 0
  { s with use := add (add s.use k bytes) (k + 1) waited }

/-- A RoCEv2 frame. -/
def Emission.isRoce : Emission → Bool
  | .roce _ _ _ _ => true
  | _ => false

/-- Frames of the host port leave and are counted. -/
def Device.frameOut (s : Device) (n : Nat) (e : Emission) : Device :=
  let t := s.emit e
  { t with host := { t.host with framesOut := min (t.host.framesOut + n) (2 ^ 64 - 1) } }

/-- The partition and index of a queue pair number (R318). -/
def Device.qpOf (s : Device) (qpn : Nat) : Option (Nat × Nat) :=
  let x := qpn - 0x1000
  if qpn < 0x1000 then none
  else
    (s.parts.find? (fun kv => kv.2.state != .absent && decide (kv.2.qpbase ≤ x ∧ x < kv.2.qpbase + fld kv.2.desc 144 13))).map
      (fun kv => (kv.1, x - kv.2.qpbase))

/-- The queue pair of a RoCEv2 frame. -/
def Emission.pair : Emission → Option Nat
  | .roce qpn _ _ _ => some qpn
  | _ => none

/-- A frame waits in the port until a time. -/
def Device.holdFrame (s : Device) (due n : Nat) (e : Emission) : Device :=
  { s with host := { s.host with held := s.host.held ++ [{ since := s.now, due, frames := n, frame := e }] } }

/-- A RoCEv2 frame waits for the end of a PAUSE, and behind the frames of its queue pair that wait (R315). -/
def Device.frameWaits (s : Device) (e : Emission) : Bool :=
  e.isRoce && (decide (s.now < s.host.pausedUntil) || s.host.held.any (fun h => h.frame.pair == e.pair))

/-- Frames leave an interface; the host port may keep its own. -/
def Device.sendFrame (s : Device) (i : Iface) (n : Nat) (e : Emission) : Device :=
  match i with
  | .host => if s.frameWaits e then s.holdFrame s.now n e else s.frameOut n e
  | .sideband => s.emit e

/-! ### Shares (R276, R289) -/

/-- What a partition has sent on a door, or at 24 on the host port, in the present window of 10 µs. -/
def Device.sharedAt (s : Device) (door part : Nat) : Nat :=
  if s.fabric.window = s.now / 10000 then SMap.get s.fabric.shared (door * 32 + part) 0 else 0

/-- Bytes sent count in the window. -/
def Device.charge (s : Device) (door part bytes : Nat) : Device :=
  let shared := SMap.put (if s.fabric.window = s.now / 10000 then s.fabric.shared else []) (door * 32 + part) (s.sharedAt door part + bytes)
  { s with fabric := { s.fabric with window := s.now / 10000, shared } }

/-- The weight of a partition on a door or on the host port: DOORSHARE or HOSTSHARE (Table 12-1). -/
def Device.weightAt (s : Device) (door part : Nat) : Nat := fld (SMap.get s.parts part {}).desc (if door = 24 then 128 else 112) 10

/-- Whether the turn of one partition at its door comes before another's: a weight of 0 comes last, and otherwise the partition that has
had less for its weight (R276). Log entry 57 (DEDUCED). -/
def Device.ahead (s : Device) (a b : Nat × Nat) : Bool :=
  let wa := s.weightAt a.1 a.2
  let wb := s.weightAt b.1 b.2
  if wa = 0 then false else if wb = 0 then true else decide (s.sharedAt a.1 a.2 * wb < s.sharedAt b.1 b.2 * wa)

/-- The bytes that a frame carries, and the partition that it counts against (Table 12-2). -/
def Device.roceUse (s : Device) (e : Emission) : Nat × Nat :=
  match e with
  | .roce qpn _ _ data => (((s.qpOf qpn).map Prod.fst).getD 0, data.length)
  | _ => (0, 0)

/-- The held frames that may leave now, each the first of its queue pair. -/
def Device.dueFrames (s : Device) : List HeldFrame :=
  if s.now < s.host.pausedUntil then []
  else
    s.host.held.filter (fun h =>
      decide (h.due ≤ s.now) && !(s.host.held.takeWhile (· != h)).any (fun k => k.frame.pair == h.frame.pair))

/-- Held frames leave, those of the partition whose turn it is first (R276, R323). -/
def Device.releaseFrames (s : Device) : Nat → Device
  | 0 => s
  | fuel + 1 =>
    match s.dueFrames with
    | [] => s
    | h :: rest =>
      let turn (k : HeldFrame) : Nat × Nat := (24, (s.roceUse k.frame).1)
      let best := rest.foldl (fun best k => if s.ahead (turn k) (turn best) then k else best) h
      let (part, bytes) := s.roceUse best.frame
      let t := { s with host := { s.host with held := s.host.held.erase best } }
      (((t.charge 24 part bytes).serve part 2 bytes (s.now - best.since)).frameOut best.frames best.frame).releaseFrames fuel

/-- What the host port holds back leaves as soon as it may. -/
def Device.unpause (s : Device) : Device := s.releaseFrames s.host.held.length

/-! ## Object dictionary values -/

/-- The stored value of an entry, its default when none is stored. -/
def Device.odGet (s : Device) (part index sub : Nat) (row : Nat := 0) : Nat :=
  SMap.get s.od (odKey part index sub row) (odDefault index sub row)

def Device.odSet (s : Device) (part index sub row value : Nat) : Device :=
  { s with od := SMap.keep s.od (odKey part index sub row) value (odDefault index sub row) }

/-- A counter of the dictionary raised by n, up to its width. -/
def Device.odCount (s : Device) (part index sub row n : Nat) : Device :=
  s.odSet part index sub row (min (s.odGet part index sub row + n) (2 ^ 64 - 1))

/-- A signed entry. -/
def Device.odInt (s : Device) (part index sub : Nat) : Int := sfld (s.odGet part index sub) 0 64

/-- The row of OD 0x6150. -/
def Device.useRow (s : Device) (part row : Nat) : Nat :=
  SMap.get s.use ((3 * part + row) * 2) 0 + 2 ^ 64 * SMap.get s.use ((3 * part + row) * 2 + 1) 0

/-- This chip's number, as its doors were last trained (R292, R294). -/
def Device.chip (s : Device) : Nat := s.fabric.chip

/-! ## Events (R348, R349) -/

/-- The sideband reads ranges 0x1000, 0x2000, 0x4000, 0x5000 and 0x8000 (Table 14-5). -/
def sidebandReads (range : Nat) : Bool := [1, 2, 4, 5, 8].contains range

/-- Whether a session takes an event of a class and partition (R349). 0xFF is the scope DEV. -/
def Session.takes (x : Session) (cls part : Nat) : Bool :=
  x.opened && bit x.mask cls &&
    (if part = 0xFF then x.part == 0 && (x.iface == .host || sidebandReads cls)
     else x.part == part && x.iface == .host)

def Device.setSession (s : Device) (id : Nat) (x : Session) : Device :=
  { s with transom := { s.transom with sessions := SMap.put s.transom.sessions id x } }

/-- An event queued for one session: sent at once while fewer than 16 are unacknowledged, else waiting, the oldest of 256
dropped (R349). -/
def deliverEvent (s : Device) (id : Nat) (body : Nat) : Device :=
  match SMap.find s.transom.sessions id with
  | none => s
  | some x =>
    if x.unacked.length < 16 && x.waiting.isEmpty then
      (s.setSession id { x with evNext := x.evNext + 1, unacked := x.unacked ++ [(x.evNext, body, s.now)] }).emit
        (.event id x.evNext body)
    else if x.waiting.length < 256 then s.setSession id { x with waiting := x.waiting ++ [body] }
    else
      (s.setSession id { x with waiting := x.waiting.drop 1 ++ [body], dropped := x.dropped + 1 }).odCount 0 0x8002 0 0 1

/-! ## Reset stages that run (R380–R391) -/

def StageSt.isFor (x : StageSt) (stage target : Nat) : Bool := x.stage == stage && x.target == target

def Device.stage? (s : Device) (stage target : Nat) : Option StageSt := s.boot.stages.find? (·.isFor stage target)

/-- A context reset of a partition runs. -/
def Device.resetting (s : Device) (part : Nat) : Bool := (s.stage? 1 part).isSome

/-- A sash is down for its reset. -/
def Device.sashBusy (s : Device) (sash : Nat) : Bool := (s.stage? 4 sash).any (·.begun)

/-- The body of Table 15-6. Parameters are pairs of a value and its bytes. Log entry 77 (DEDUCED). -/
def eventBody (code sev part time : Nat) (params : List (Nat × Nat)) : Nat :=
  code + 2 ^ 16 * sev + 2 ^ 24 * part + 2 ^ 64 * time
    + 2 ^ 128 * ofBytes (params.flatMap (fun vb => bytesOf vb.1 vb.2))

/-- A DEV event in OD 0x8000 and at ALERT_N. -/
def Device.logDev (s : Device) (sev body : Nat) : Device :=
  let log := (s.transom.log ++ [body]).drop (s.transom.log.length + 1 - 1024)
  let alerts := s.transom.alerts || decide (s.odGet 0 0x8050 0 ≤ sev)
  { s with transom := { s.transom with log, alerts } }

/-- A PART event in the partition's OD 0x8001. -/
def Device.logPart (s : Device) (part body : Nat) : Device :=
  s.modPart part (fun p => { p with events := (p.events ++ [body]).drop (p.events.length + 1 - 256) })

/-- A DEV event: logged in OD 0x8000 (the last 1,024), given to the sessions that take it, and asserting ALERT_N from the
threshold of OD 0x8050 on (R348, R455). -/
def Device.raiseDev (s : Device) (code sev : Nat) (params : List (Nat × Nat) := []) : Device :=
  let body := eventBody code sev 0xFF s.now params
  let s1 := s.logDev sev body
  (s1.transom.sessions.filter (fun kv => kv.2.takes (code / 4096) 0xFF)).foldl (fun t kv => deliverEvent t kv.1 body) s1

/-- A PART event: logged in the partition's OD 0x8001 (the last 256) and given to its sessions (R348). -/
def Device.raisePart (s : Device) (part code sev : Nat) (params : List (Nat × Nat) := []) : Device :=
  let body := eventBody code sev part s.now params
  let s1 := s.logPart part body
  (s1.transom.sessions.filter (fun kv => kv.2.takes (code / 4096) part)).foldl (fun t kv => deliverEvent t kv.1 body) s1

end Sys2Proof.Machine
end

