-- ==== Sys2Proof/Machine/Memory.lean ====
section
/-! DEFINITION. Memory: translation (R154, R209), placement (R155, R165), sectors and poison (R161, R162, R166), update
planes (R236, R237), first touch (R402), and the reads and writes that a sill performs. -/

namespace Sys2Proof.Machine

/-! ## Addresses -/

/-- The key of a byte of a pool's copy: 0 the home copy, 1 the partner copy of a mirrored pool. Log entry 14 (DESIGN CHOICE). -/
def memKey (part pool copy off : Nat) : Nat := ((part * 8 + pool) * 2 + copy) * 2 ^ 43 + off

/-- The key of the sector that holds a byte. -/
def sectorKey (part pool copy off : Nat) : Nat := memKey part pool copy off / 32

/-- The key of the 32 KiB range or block that holds a byte. -/
def rangeKey (part pool off : Nat) : Nat := memKey part pool 0 off / 32768

def Device.pool? (s : Device) (part pool : Nat) : Option Pool := SMap.find (s.part part).pools pool

/-- The stacks of a set in ascending order. -/
def stacksOf (set : Nat) : List Nat := (List.range 20).filter (bit set)

/-- The rows R of a pool's home part on each stack (R155). -/
def Pool.rows (p : Pool) : Nat := p.size / ((stacksOf p.set).length * 32768)

/-- A place of a pool address: stack, pseudo-channel in the stack, granule row. -/
structure Place where
  stack : Nat
  pc    : Nat
  row   : Nat
  deriving DecidableEq, Repr

/-- The placement of R155; of the partner copy, R165. -/
def Partition.place (x : Partition) (pool : Nat) (p : Pool) (copy off : Nat) : Place :=
  let set := stacksOf p.set
  let n := set.length
  let g := off / 512
  let blk := g / 64
  let round := blk / n
  let pos := blk % n
  let h := (Config.keyedHash x.placeKey pool round).toNat
  let home := set.getD ((pos + h % n) % n) 0
  let pc := (g % 64) ^^^ (h / 256 % 64)
  let row := SMap.get p.slab home 0 + round
  if copy = 0 then { stack := home, pc, row }
  else
    let q := if home < 10 then home + 10 else home - 10
    { stack := q, pc, row := SMap.get p.slab q 0 + p.rows + round }

def Device.place (s : Device) (part pool copy off : Nat) : Place :=
  match s.pool? part pool with
  | none => { stack := 0, pc := 0, row := 0 }
  | some p => (s.part part).place pool p copy off

/-- The stack-linear address with its stack (R151, R155), as view 0 numbers it. -/
def Place.address (q : Place) (off : Nat) : Nat := q.stack * 2 ^ 37 + q.row * 2 ^ 15 + q.pc * 2 ^ 9 + off % 512

/-- The place of a stack-linear address with its stack. -/
def placeOfAddress (a : Nat) : Place := { stack := a / 2 ^ 37, row := a % 2 ^ 37 / 2 ^ 15, pc := a / 2 ^ 9 % 64 }

/-- The byte of a pool's copy at a granule row of a stack, if the copy has one there: the offset whose placement it is (R155, R165). -/
def Partition.offsetAt (x : Partition) (pool : Nat) (p : Pool) (copy : Nat) (q : Place) : Option Nat :=
  let set := stacksOf p.set
  let n := set.length
  let first := SMap.get p.slab q.stack 0 + (if copy = 0 then 0 else p.rows)
  let home := if copy = 0 then q.stack else if q.stack < 10 then q.stack + 10 else q.stack - 10
  match set.findIdx? (· == home) with
  | none => none
  | some i =>
    if q.row < first || first + p.rows ≤ q.row || (copy = 1 && !p.mirror) then none
    else
      let round := q.row - first
      let h := (Config.keyedHash x.placeKey pool round).toNat
      let pos := (i + n - h % n) % n
      some ((((round * n + pos) * 64) + (q.pc ^^^ (h / 256 % 64))) * 512)

/-- The partition, pool, copy and offset of a granule row of a stack, if it belongs to a pool. -/
def Device.ownerOf (s : Device) (q : Place) : Option (Nat × Nat × Nat × Nat) :=
  s.parts.findSome? (fun kx => kx.2.pools.findSome? (fun kp => [0, 1].findSome? (fun copy =>
    (kx.2.offsetAt kp.1 kp.2 copy q).map (fun off => (kx.1, kp.1, copy, off)))))

/-- What a device-local physical address names (Table 07-2). -/
inductive Phys where
  | memory (view stack off : Nat)
  | localStore (pane off : Nat)
  | staging (sill off : Nat)
  | queues (queue off : Nat)
  deriving DecidableEq, Repr

/-- The part of a range of units of a size from a base that an address lies in: the unit and the offset. -/
def windowAt (base units size a : Nat) : Option (Nat × Nat) :=
  if base ≤ a ∧ a < base + units * size then some ((a - base) / size, (a - base) % size) else none

/-- The device-local physical map (R150): none where nothing is populated. -/
def Device.physical (s : Device) (a : Nat) : Option Phys :=
  match windowAt 0 40 (2 ^ 37) a with
  | some (k, off) => some (.memory (k / 20) (k % 20) off)
  | none =>
    match windowAt 0x400000000000 320 (2 ^ 24) a, windowAt 0x500000000000 20 (2 ^ 26) a, windowAt 0x600000000000 16384 (2 ^ 16) a with
    | some (pane, off), _, _ => if (s.pane pane).populated off 1 then some (.localStore pane off) else none
    | _, some (sill, off), _ => if off < s.odGet 0 0x3030 0 * 1048576 then some (.staging sill off) else none
    | _, _, some (queue, off) => if off < 64 then some (.queues queue off) else none
    | _, _, _ => none

/-- The first granule row of the system area, and the first of the retirement reserve (Table 07-4). -/
def systemRow : Nat := 4030464
def reserveRow : Nat := 4063232

/-- Whether a pool's slab lies in allocatable rows on every stack of its set, so that every address of it is populated (R150, R152). -/
def Pool.placed (p : Pool) : Bool :=
  (stacksOf p.set).all (fun k => decide (SMap.get p.slab k 0 + p.rows * (if p.mirror then 2 else 1) ≤ systemRow))

/-- The copies that a pool keeps. -/
def Device.copies (s : Device) (part pool : Nat) : List Nat :=
  match s.pool? part pool with
  | some p => if p.mirror then [0, 1] else [0]
  | none => [0]

/-- The copy that serves a reader on a sash: the copy on its own sash (R165). -/
def Device.copyFor (s : Device) (part pool off sash : Nat) : Nat :=
  if (s.copies part pool).length = 1 then 0
  else if sashOfStack (s.place part pool 0 off).stack = sash then 0 else 1

/-- The pseudo-channel and granule row that hold a place: a retired one's rows lie in the reserve of the 63 others (R175). -/
def Stack.redirect (k : Stack) (pc row : Nat) : Nat × Nat :=
  if k.spent = some pc then
    let i := row % 63
    (if i < pc then i else i + 1, reserveRow + row / 63)
  else (pc, row)

/-- The stack of a byte's copy, and the pseudo-channel that holds it now. -/
def Device.channelOf (s : Device) (part pool copy off : Nat) : Nat × Nat :=
  let q := s.place part pool copy off
  (q.stack, ((s.stack q.stack).redirect q.pc q.row).1)

/-- Whether a byte lies in an unrepairable pseudo-channel (R176). -/
def Device.deadAt (s : Device) (part pool copy off : Nat) : Bool :=
  !(s.stackAt.all (fun kv => kv.2.unrep.isEmpty))
    && ((s.stack (s.channelOf part pool copy off).1).unrep.contains (s.channelOf part pool copy off).2)

/-! ## Translation -/

/-- What an address translates to. -/
structure Target where
  owner : Nat
  pool  : Nat
  off   : Nat
  map   : Mapping
  deriving DecidableEq, Repr

/-- The mapping of a page. -/
def Partition.mapping? (x : Partition) (va : Nat) : Option Mapping :=
  x.maps.find? (fun m => decide (m.va ≤ va ∧ va < m.va + m.psz * m.count))

/-- The plane of Table 10-2 that a byte of a shard of N elements lies in: 0 H, 1 L, 2 M1, 3 M2, 4 G0, 5 G1. -/
def planeOf (n rel : Nat) : Nat := if rel < 8 * n then rel / (2 * n) else if rel < 12 * n then 4 else 5

def shardBase (desc : Nat) : Nat := fld desc 0 57
def shardN (desc : Nat) : Nat := fld desc 64 19 * 8192

/-- The registered shard and plane that a virtual address of the partition lies in. -/
def Partition.shardAtVa (x : Partition) (va : Nat) : Option (Nat × Nat) :=
  (x.shards.find? (fun kv => decide (shardBase kv.2.desc ≤ va ∧ va < shardBase kv.2.desc + 16 * shardN kv.2.desc))).map
    (fun kv => (kv.1, planeOf (shardN kv.2.desc) (va - shardBase kv.2.desc)))

/-- The registered shard and plane that a pool address lies in, by any mapping of the partition onto it. -/
def Partition.shardAt (x : Partition) (owner pool off : Nat) : Option (Nat × Nat) :=
  if x.shards.isEmpty then none
  else
    x.maps.findSome? (fun m =>
      if m.kind == 0 && m.owner == owner && m.pool == pool && decide (m.poff ≤ off ∧ off < m.poff + m.psz * m.count) then
        x.shardAtVa (m.va + (off - m.poff))
      else none)

/-- What an access does: read, write, or accumulate (accput.ord). -/
inductive AccessKind where
  | read | write | accumulate
  deriving DecidableEq, Repr

/-- Whether R237 admits an access to a plane. -/
def planeAdmits (plane : Nat) (k : AccessKind) : Bool :=
  match k with
  | .read => plane == 0 || plane == 4 || plane == 5
  | .write => false
  | .accumulate => plane == 4 || plane == 5

/-- The translation of a partition virtual address for an access, or the status that refuses it (R82, R154, R237), in the order of Table 09-2. A
doorbell page (KIND 1) translates to itself. Log entry 36 (DEDUCED). -/
def Device.translate (s : Device) (part va : Nat) (k : AccessKind) : Except Nat Target :=
  if 2 ^ 57 ≤ va then .error stTranslation
  else
    match (s.part part).mapping? va with
    | none => .error stTranslation
    | some m =>
      let off := m.poff + (va - m.va)
      let right := k == .read || m.write
      if m.kind = 0 then
        match s.pool? m.owner m.pool with
        | none => .error stTranslation
        | some p =>
          if p.size ≤ off || !p.placed then .error stTranslation
          else if p.state != .ready then .error stResource
          else if !right then .error stAccess
          else
            match (s.part m.owner).shardAt m.owner m.pool off with
            | some (_, plane) =>
              if planeAdmits plane k then .ok { owner := m.owner, pool := m.pool, off, map := m } else .error stAccess
            | none => .ok { owner := m.owner, pool := m.pool, off, map := m }
      else if !right then .error stAccess
      else .ok { owner := m.owner, pool := m.pool, off, map := m }

/-! ## Reads -/

def Device.byteAt (s : Device) (part pool copy off : Nat) : Byte := SMap.get s.mem.bytes (memKey part pool copy off) 0

def Device.bytesAt (s : Device) (part pool copy off len : Nat) : List Byte :=
  (List.range len).map (fun i => s.byteAt part pool copy (off + i))

/-- Whether the sector of a key is marked as poison: in its sill's buffer where that holds it, and in its stack otherwise (R159, R162). -/
def MemSt.marked (m : MemSt) (key : Nat) : Bool :=
  match SMap.find m.buffer key with
  | some b => b.bad
  | none => SMap.get m.poison key false

/-- Whether the sector of a copy holds poison, or lies in an unrepairable pseudo-channel (R162, R176). -/
def Device.poisonAt (s : Device) (part pool copy off : Nat) : Bool :=
  s.mem.marked (sectorKey part pool copy off) || s.deadAt part pool copy off

/-- The copy that a read takes its data from, if any is good: the serving copy, or the other when that one is poisoned
(R166). -/
def Device.goodCopy (s : Device) (part pool off sash : Nat) : Option Nat :=
  let c := s.copyFor part pool off sash
  if !s.poisonAt part pool c off then some c
  else ((s.copies part pool).find? (fun k => k != c && !s.poisonAt part pool k off))

/-- A read of bytes in one sector: its bytes, or none where it is poison. -/
def Device.readSector (s : Device) (part pool off len sash : Nat) : Option (List Byte) :=
  (s.goodCopy part pool off sash).map (fun c => s.bytesAt part pool c off len)

/-- The parts of a byte range by aligned unit: offset and length of each. -/
def cutBy (unit off : Nat) : Nat → Nat → List (Nat × Nat)
  | 0, _ => []
  | fuel + 1, len =>
    if len = 0 then []
    else
      let n := min len (unit - off % unit)
      (off, n) :: cutBy unit (off + n) fuel (len - n)

/-- The parts of a range that lie in one 32-byte sector each. -/
def sectorParts (off len : Nat) : List (Nat × Nat) := cutBy 32 off (len / 32 + 2) len

/-- A read of a range: its bytes with poisoned parts as zeros, and whether any part is poison. -/
def Device.readPool (s : Device) (part pool off len sash : Nat) : List Byte × Bool :=
  (sectorParts off len).foldl (fun acc on =>
    match s.readSector part pool on.1 on.2 sash with
    | some b => (acc.1 ++ b, acc.2)
    | none => (acc.1 ++ List.replicate on.2 0, true)) ([], false)

/-! ## First touch (R402, R403) -/

/-- The key of a snapshot block within its partition. -/
def blockKey (pool off : Nat) : Nat := pool * 2 ^ 27 + off / 32768

/-- The bytes of a 32 KiB block as they stand; what a poisoned sector holds is not defined. Log entry 109 (DEDUCED). -/
def Device.blockBytes (s : Device) (part pool block : Nat) : List Byte :=
  (List.range 1024).flatMap (fun i =>
    let off := block * 32768 + 32 * i
    (s.readSector part pool off 32 0).getD ((List.range 32).map (fun j => Config.poisonByte (memKey part pool 0 (off + j)))))

/-- The bytes of a stack's share of the partition's reserve (R404). -/
def Device.reserveShare (s : Device) (part : Nat) : Nat := fld (s.part part).desc 80 16 * 2 ^ 30 / 20

/-- The bytes that the copies of other chips and their digests take of each stack's share (R404). -/
def Partition.buddyShare (x : Partition) : Nat := ceilDiv (total (x.snap.copies.map (fun c => c.blocks.length * 32832))) 20

/-- The block check of a write: a covered block that is neither copied nor drained since the arming is first copied; with
the reserve full, it is drained at once (R402, R403). -/
def Device.firstTouch (s : Device) (part pool off : Nat) : Device :=
  let x := s.part part
  let key := blockKey pool off
  if x.snap.todo.contains key && (SMap.find x.snap.copied key).isNone then
    let data := s.blockBytes part pool (off / 32768)
    let stk := (s.place part pool 0 off).stack
    let used := (x.snap.copied.filter (fun kv => (s.place part (kv.1 / 2 ^ 27) 0 (kv.1 % 2 ^ 27 * 32768)).stack == stk)).length
    if (used + 1) * 32768 + x.buddyShare ≤ s.reserveShare part then
      (s.setPart part { x with snap := { x.snap with copied := SMap.put x.snap.copied key data } }).odCount part 0xA050 1 0 1 |>.serve part 0 32768 0
    else
      let row := x.snap.rows.find? (fun r => r.state == 0)
      let todo := x.snap.todo.filter (· != key)
      let snap : SnapSt := { x.snap with todo, sent := SMap.put x.snap.sent key s.now }
      let t := s.setPart part { x with snap }
      (((t.odCount part 0xA050 2 0 1).serve part 0 32768 0).serve part 1 32768 0).emit
        (.snapBlock ((row.map (·.buddy)).getD 0) x.job ((row.map (·.id)).getD 0) x.snap.armed pool (off / 32768) data
          (Config.sha3 data))
  else s

/-! ## Writes -/

def Device.putBytes (s : Device) (part pool copy off : Nat) (data : List Byte) : Device :=
  let bytes := (data.zipIdx).foldl (fun m bi => SMap.keep m (memKey part pool copy (off + bi.2)) bi.1 0) s.mem.bytes
  { s with mem := { s.mem with bytes } }

/-- The poison mark of a key, where its sector is held. -/
def MemSt.mark (m : MemSt) (key : Nat) (b : Bool) : MemSt :=
  if (SMap.find m.buffer key).isSome then { m with buffer := SMap.put m.buffer key { dirty := true, bad := b } }
  else { m with poison := SMap.keep m.poison key b false }

def Device.setPoison (s : Device) (part pool copy off : Nat) (b : Bool) : Device :=
  { s with mem := s.mem.mark (sectorKey part pool copy off) b }

/-! ## The sill buffer (R157–R159, R172) -/

/-- The copy and sector of a key: partition, pool, copy and offset. -/
def unkey (key : Nat) : Nat × Nat × Nat × Nat :=
  let a := key * 32
  (a / 2 ^ 47, a / 2 ^ 44 % 8, a / 2 ^ 43 % 2, a % 2 ^ 43)

/-- A sector access of a pseudo-channel is counted for the partition that issued it (R172, R289, Table 12-2). -/
def Device.countTraffic (s : Device) (user key : Nat) : Device :=
  let (part, pool, copy, off) := unkey key
  let ch := s.channelOf part pool copy off
  ({ s with mem := { s.mem with traffic := SMap.update s.mem.traffic ((64 * ch.1 + ch.2) * 32 + user) 0 (· + 1) } }).serve user 0 32 0

/-- The sets of a sill's cache region: 16 lines of 128 bytes each (R157, R158). -/
def Device.bufferSets (s : Device) : Nat := (32 - s.odGet 0 0x3030 0) * 512

/-- The sill and set that a line falls in. -/
def Device.setOfLine (s : Device) (line : Nat) : Nat × Nat :=
  let (part, pool, copy, off) := unkey (4 * line)
  let q := s.place part pool copy off
  (q.stack, Config.bufferSet (q.address off / 128) s.bufferSets % s.bufferSets)

/-- The buffered lines of a line's set. -/
def Device.mates (s : Device) (line : Nat) : List Nat :=
  (distinct (s.mem.buffer.map (fun kv => kv.1 / 4))).filter (fun l => s.setOfLine l == s.setOfLine line)

/-- A line leaves the buffer: a dirty sector is written to its stack, as poison where it is poisoned (R158, R159). -/
def Device.evict (s : Device) (line : Nat) : Device :=
  let out := s.mem.buffer.filter (fun kv => kv.1 / 4 == line)
  let poison := out.foldl (fun m kv => if kv.2.dirty then SMap.keep m kv.1 kv.2.bad false else m) s.mem.poison
  let t := { s with mem := { s.mem with poison, buffer := s.mem.buffer.filter (fun kv => kv.1 / 4 != line) } }
  (out.filter (·.2.dirty)).foldl (fun t kv => t.countTraffic (unkey kv.1).1 kv.1) t

/-- Room for a line in its set: of 16 others, one that is freely chosen leaves. -/
def Device.makeRoom (s : Device) (line : Nat) : Device :=
  if s.mem.buffer.length < 16 then s
  else
    let l := s.mates line
    if l.contains line || decide (l.length < 16) then s
    else
      let (n, t) := s.draw
      t.evict (l.getD (n % l.length) 0)

/-- An access of a sector that its sill performs: a hit is served from the line; a miss reaches the stack, and with view 0 leaves the
sector in the buffer (R158). Log entry 39 (DEDUCED). -/
def Device.touch (s : Device) (user view key : Nat) (dirty : Bool) : Device :=
  match SMap.find s.mem.buffer key with
  | some b =>
    if dirty && !b.dirty then { s with mem := { s.mem with buffer := SMap.put s.mem.buffer key { b with dirty := true } } } else s
  | none =>
    let t := s.countTraffic user key
    if view = 1 then t
    else
      let t := t.makeRoom (key / 4)
      let b : BufSector := { dirty, bad := SMap.get t.mem.poison key false }
      { t with mem := { t.mem with buffer := SMap.put t.mem.buffer key b } }

/-- The buffer after a change of the staging size: no set keeps more than 16 lines (R157). -/
def Device.fitBuffer (s : Device) : Device :=
  (distinct (s.mem.buffer.map (fun kv => kv.1 / 4))).foldl (fun t line =>
    let l := t.mates line
    if l.length ≤ 16 then t
    else
      let (n, t) := t.draw
      t.evict (l.getD (n % l.length) 0)) s

/-- Sectors leave the buffer without being written back: what they held is gone (R169). -/
def Device.dropBuffer (s : Device) (gone : Nat → Bool) : Device :=
  { s with mem := { s.mem with buffer := s.mem.buffer.filter (fun kv => !gone kv.1) } }

/-- The mark of a lost increment at an address that does not translate, and at a word of a pane's local store (R466). -/
def lostVa (va : Nat) : Nat := 2 ^ 60 + va
def lostLs (pane off : Nat) : Nat := 2 ^ 70 + pane * 2 ^ 24 + off

/-- A word's COUNTER_LOST mark ends when software next writes the word (R466). -/
def Device.clearLost (s : Device) (part pool off len : Nat) : Device :=
  let x := s.part part
  if x.lost.isEmpty then s
  else
    let k := memKey part pool 0 off
    let gone (w : Nat) : Bool :=
      if w < 2 ^ 60 then decide (w < k + len ∧ k < w + 8)
      else if w < 2 ^ 70 then
        match x.mapping? (w - 2 ^ 60) with
        | some m =>
          let o := m.poff + (w - 2 ^ 60 - m.va)
          m.kind == 0 && m.owner == part && m.pool == pool && decide (o < off + len ∧ off < o + 8)
        | none => false
      else false
    s.setPart part { x with lost := x.lost.filter (fun w => !gone w) }

/-- The same for a write to a pane's local store. -/
def Device.clearLostLs (s : Device) (pane off len : Nat) : Device :=
  match (s.pane pane).part with
  | none => s
  | some part =>
    let k := lostLs pane off
    if (s.part part).lost.isEmpty then s
    else s.modPart part (fun x => { x with lost := x.lost.filter (fun w => !decide (w < k + len ∧ k < w + 8)) })

/-- A write to one copy of bytes that lie in one sector (R162): a whole sector takes its data and loses its poison; a part
of a good sector is merged; a part of a poisoned one writes nothing. -/
def Device.writeCopy (s : Device) (part pool copy off : Nat) (data : List Byte) : Device × Nat :=
  if s.deadAt part pool copy off then (s, stRetired)
  else if data.length = 32 then ((s.putBytes part pool copy off data).setPoison part pool copy off false, stOk)
  else if s.poisonAt part pool copy off then (s, stPoison)
  else (s.putBytes part pool copy off data, stOk)

/-- A store's bytes written to one copy of its sector (R149, R162), with the status. -/
def Device.storeCopy (s : Device) (part pool copy base : Nat) (writes : List (Nat × Byte)) : Device × Nat :=
  if s.deadAt part pool copy base then (s, stRetired)
  else if (distinct (writes.map Prod.fst)).length != 32 && s.poisonAt part pool copy base then (s, stPoison)
  else
    let t := writes.foldl (fun t w => t.putBytes part pool copy (base + w.1) [w.2]) s
    (if (distinct (writes.map Prod.fst)).length = 32 then t.setPoison part pool copy base false else t, stOk)

/-- One copy of a mirrored sector rewritten from the other (R166). -/
def Device.repairCopy (s : Device) (part pool from' onto base : Nat) : Device :=
  (s.putBytes part pool onto base (s.bytesAt part pool from' base 32)).setPoison part pool onto base false

/-- A copy of a mirrored sector that is poisoned is repaired from the other when that one is good (R166). -/
def Device.healMirror (s : Device) (part pool base : Nat) : Device :=
  match s.copies part pool with
  | [_, _] =>
    let bad0 := s.poisonAt part pool 0 base && !s.deadAt part pool 0 base
    let bad1 := s.poisonAt part pool 1 base && !s.deadAt part pool 1 base
    if bad0 && !s.poisonAt part pool 1 base then s.repairCopy part pool 1 0 base
    else if bad1 && !s.poisonAt part pool 0 base then s.repairCopy part pool 0 1 base
    else s
  | _ => s

/-! ### Partner copies (R163, R165, R188) -/

/-- A forwarded write of a sector. -/
def Forward.isOf (f : Forward) (part pool base : Nat) : Bool := f.owner == part && f.pool == pool && f.off == base

/-- A forwarded write is performed at the partner copy: bytes, or poison. A copy that is poisoned is first repaired from the home copy's where the
write is partial (R165, R166). -/
def Device.performForward (s : Device) (f : Forward) : Device :=
  let key := sectorKey f.owner f.pool 1 f.off
  match f.writes with
  | none => (s.setPoison f.owner f.pool 1 f.off true).touch f.part f.view key true
  | some writes => ((s.healMirror f.owner f.pool f.off).storeCopy f.owner f.pool 1 f.off writes).1.touch f.part f.view key true

/-- Forwarded writes of a sector reach its partner copy before a later access there (R163, R165). -/
def Device.flushPartners (s : Device) (part pool base : Nat) : Device :=
  let mine := s.mem.forwards.filter (·.isOf part pool base)
  if mine.isEmpty then s
  else
    let t := mine.foldl Device.performForward s
    { t with mem := { t.mem with forwards := t.mem.forwards.filter (fun f => !f.isOf part pool base) } }

/-- A write that the home copy's sill has performed is forwarded, under a number, where the pool is mirrored (R165). -/
def Device.forwardAs (s : Device) (f : Forward) : Device :=
  if (s.copies f.owner f.pool).length = 1 then s else { s with mem := { s.mem with forwards := s.mem.forwards ++ [f] } }

def Device.forward (s : Device) (user view part pool base : Nat) (writes : Option (List (Nat × Byte))) : Device :=
  let id := s.mem.nextReq
  ({ s with mem := { s.mem with nextReq := id + 1 } }).forwardAs { id, part := user, owner := part, pool, off := base, writes, view }

/-- Whether the partner copy still lacks a write. -/
def Device.forwarding (s : Device) (id : Nat) : Bool := s.mem.forwards.any (fun f => f.id == id)

/-- What follows some writes waits for those that partner copies lack since (R165). -/
def Device.newForwards (s before : Device) : List Nat :=
  (s.mem.forwards.filter (fun f => !before.forwarding f.id)).map (·.id)

/-- The first status that is not OK of two. -/
def firstBad (a b : Nat) : Nat := if a = stOk then b else a

/-- The status of a forwarded write at the partner copy. -/
def Device.partnerStatus (s : Device) (part pool base : Nat) : Nat :=
  if (s.copies part pool).length = 2 && s.deadAt part pool 1 base then stRetired else stOk

/-- A write of bytes in one sector at the home copy, behind the block check, and forwarded to the partner copy. A partial write to a mirrored
sector of which one copy is poisoned first repairs it from the other (R165, R166). -/
def Device.writeSector (s : Device) (part pool off : Nat) (data : List Byte) (view : Nat := 0) (user : Nat := part) : Device × Nat :=
  let base := off / 32 * 32
  let t := ((s.firstTouch part pool off).clearLost part pool off data.length)
  let t := if t.poisonAt part pool 0 base then (t.flushPartners part pool base).healMirror part pool base else t
  let r := t.writeCopy part pool 0 off data
  if r.2 = stPoison then r
  else
    let t := r.1.touch user view (sectorKey part pool 0 off) true
    (t.forward user view part pool base (some ((data.zipIdx).map (fun bi => (off % 32 + bi.2, bi.1)))), firstBad r.2 (t.partnerStatus part pool base))

/-- The bytes that a read-modify-write at the home copy's sill finds, in its order (R163, R165): those of the partner copy, forwarded writes included,
where the home copy is poisoned and the partner's is not. -/
def Device.readHome (s : Device) (part pool off len : Nat) : Option (List Byte) :=
  if !s.poisonAt part pool 0 off then some (s.bytesAt part pool 0 off len)
  else
    let t := s.flushPartners part pool (off / 32 * 32)
    if (s.copies part pool).length = 2 && !t.poisonAt part pool 1 off then some (t.bytesAt part pool 1 off len) else none

/-- A write of an engine of the FZ9, which goes on when both copies are written. Log entry 150 (DESIGN CHOICE). -/
def Device.writeBoth (s : Device) (part pool off : Nat) (data : List Byte) : Device × Nat :=
  let r := s.writeSector part pool off data
  (r.1.flushPartners part pool (off / 32 * 32), r.2)

/-- A write of a range by an engine, sector by sector; the status is the first that is not OK. -/
def Device.writePool (s : Device) (part pool off : Nat) (data : List Byte) : Device × Nat :=
  (sectorParts off data.length).foldl (fun acc on =>
    let r := acc.1.writeBoth part pool on.1 ((data.drop (on.1 - off)).take on.2)
    (r.1, firstBad acc.2 r.2)) (s, stOk)

/-- A sector of a SHARED pool that a read could still use has become poison at every copy: the publisher hears of it once (R167). -/
def Device.noteShared (s : Device) (part pool base : Nat) (before : Device) : Device :=
  let bad (d : Device) : Bool := (d.goodCopy part pool base 0).isNone
  match s.pool? part pool with
  | some p => if p.shared && bad s && !bad before then s.raisePart part 0x3005 2 [(pool, 1), (base, 8)] else s
  | none => s

/-- A sector written as poison at every copy. -/
def Device.poisonSector (s : Device) (part pool off : Nat) : Device :=
  let base := off / 32 * 32
  ((s.copies part pool).foldl (fun u c => u.setPoison part pool c base true)
    ((s.firstTouch part pool base).flushPartners part pool base)).noteShared part pool base s

/-- Poison that a write carries to a sector (R70): at the home copy, and forwarded to the partner. -/
def Device.carryPoison (s : Device) (part pool off : Nat) (view : Nat := 0) (user : Nat := part) : Device :=
  let base := off / 32 * 32
  let t := ((s.firstTouch part pool base).setPoison part pool 0 base true).touch user view (sectorKey part pool 0 base) true
  (t.forward user view part pool base none).noteShared part pool base s

/-- A read of a range leaves its sectors in the buffers of the sills that serve it (R158, R165). -/
def Device.touchRead (s : Device) (user : Nat) (t : Target) (len sash : Nat) : Device :=
  if t.map.kind = 0 then
    (sectorParts t.off len).foldl (fun d on =>
      d.touch user t.map.view (sectorKey t.owner t.pool (d.copyFor t.owner t.pool on.1 sash) on.1) false) s
  else s

/-! ## What a stack or its channel holds back (R171, R174) -/

/-- Accesses to a pseudo-channel of a stack that only refreshes, or whose channel retrains, are held. Log entry 92 (DEDUCED). -/
def Device.channelHeld (s : Device) (ch : Nat × Nat) : Bool :=
  (s.stack ch.1).retrain == some (ch.2 / 2) || (s.stack ch.1).level == 5

/-- Some stack holds accesses back. -/
def Device.anyHeld (s : Device) : Bool := s.stackAt.any (fun kv => kv.2.retrain.isSome || kv.2.level == 5)

/-- Whether an access of a range waits: a write for the home copy, a read for the copies that could serve it (R174). -/
def Device.rangeHeld (s : Device) (t : Target) (len : Nat) (write : Bool) : Bool :=
  s.anyHeld && t.map.kind == 0 && (sectorParts t.off len).any (fun on =>
    let held (c : Nat) : Bool := s.channelHeld (s.channelOf t.owner t.pool c on.1)
    if write then held 0 else (s.copies t.owner t.pool).all held)

end Sys2Proof.Machine
end

