-- ==== Sys2Proof/Machine/Doorbell.lean ====
section
/-! DEFINITION. The doorbell block of a queue (R281, R282, Table 12-5). -/

namespace Sys2Proof.Machine

def Device.queue? (s : Device) (part q : Nat) : Option Queue := SMap.find (s.part part).queues q

def Device.setQueue (s : Device) (part q : Nat) (x : Queue) : Device :=
  s.modPart part (fun p => { p with queues := SMap.put p.queues q x })

def Device.modQueue (s : Device) (part q : Nat) (f : Queue → Queue) : Device :=
  match s.queue? part q with
  | none => s
  | some x => s.setQueue part q (f x)

/-- A count that saturates at 2^32 − 1 (Table 12-5). -/
def satAdd (a b : Nat) : Nat := min (a + b) (2 ^ 32 - 1)

/-- The STATE field of a queue. -/
def QState.code : QState → Nat
  | .active => 0
  | .halted => 1
  | .error => 2

/-- A queue goes to ERROR and QUEUE_ERROR is raised (R282). -/
def Device.queueError (s : Device) (part q status : Nat) : Device :=
  match s.queue? part q with
  | none => s
  | some x =>
    if x.state = .error then s
    else (s.setQueue part q { x with state := .error }).raisePart part 0x6001 2 [(q, 2), (x.tail, 4), (status, 1)]

/-- An access that the doorbell block ignores (R281). -/
def Device.ignoreAccess (s : Device) (part q : Nat) : Device :=
  s.modQueue part q (fun x => { x with ignored := satAdd x.ignored 1 })

/-- A write of TAIL (R282): a tail that leaves more than the ring between HEAD and itself, or moves back, sets ERROR. -/
def Device.tailWrite (s : Device) (part q value : Nat) : Device :=
  match s.queue? part q with
  | none => s
  | some x =>
    let v := value % 2 ^ 32
    let ahead := (v + 2 ^ 32 - x.head) % 2 ^ 32
    let back := decide (2 ^ 31 ≤ (v + 2 ^ 32 - x.tail) % 2 ^ 32)
    if decide (2 ^ x.logsz < ahead) || back then s.queueError part q stMalformed
    else s.setQueue part q { x with tail := v }

/-- A write of RESUME: HALTED goes to ACTIVE; otherwise it is ignored and counted (Table 12-8). -/
def Device.resumeWrite (s : Device) (part q : Nat) : Device :=
  match s.queue? part q with
  | none => s
  | some x => if x.state = .halted then s.setQueue part q { x with state := .active } else s.ignoreAccess part q

/-- A write of FHEAD (R283). -/
def Device.fheadWrite (s : Device) (part q value : Nat) : Device :=
  s.modQueue part q (fun x => { x with fhead := value % 2 ^ 32 })

/-- A 4-byte word of the doorbell block. -/
def Queue.word (x : Queue) (off : Nat) : Nat :=
  match off with
  | 0 => x.tail
  | 4 => x.head
  | 8 => x.ftail
  | 12 => x.fhead
  | 16 => x.state.code
  | 24 => x.ignored
  | 28 => x.flost
  | _ => 0

/-- A read of a doorbell page by an aligned 4-byte load; any other access reads zero and is counted (R281). -/
def Device.doorbellRead (s : Device) (part q off len : Nat) : Device × Nat :=
  match s.queue? part q with
  | none => (s, 0)
  | some x => if len = 4 && off % 4 = 0 then (s, x.word off) else (s.ignoreAccess part q, 0)

/-- A write of a doorbell page by an aligned 4-byte store or put; any other access, and a write to an RO field, writes
nothing and is counted (R281). -/
def Device.doorbellWrite (s : Device) (part q off len value : Nat) : Device :=
  if len = 4 && off = 0 then s.tailWrite part q value
  else if len = 4 && off = 12 then s.fheadWrite part q value
  else if len = 4 && off = 20 then s.resumeWrite part q
  else s.ignoreAccess part q

/-- The bytes of a doorbell page that the block populates (R281). -/
def doorbellBytes : Nat := 64

end Sys2Proof.Machine
end

