-- ==== Sys2Proof/Machine/Image.lean ====
section
/-! DEFINITION. The image of a held snapshot copy (R414, Table 18-6), and reads of any target of a translation. -/

namespace Sys2Proof.Machine

def gib : Nat := 2 ^ 30

/-- The image offset of each covered pool: the pools follow the header in ascending order, each 1 GiB aligned. Log entry 37 (DEDUCED). -/
def imageOffsets : List (Nat × Nat) → Nat → List (Nat × Nat × Nat)
  | [], _ => []
  | (pool, size) :: rest, off => (pool, size, off) :: imageOffsets rest (off + ceilDiv size gib * gib)

/-- The image offset of the digest list: 1 GiB aligned, after the last pool. -/
def imageDigests (pools : List (Nat × Nat)) : Nat := pools.foldl (fun o p => o + ceilDiv p.2 gib * gib) gib

/-- The header of the image as a number (Table 18-6). -/
def BuddyCopy.header (c : BuddyCopy) : Nat :=
  let ps := imageOffsets c.head.pools gib
  let mask := total (ps.map (fun p => 2 ^ p.1))
  c.id + 2 ^ 32 * c.origin + 2 ^ 64 * c.head.step + 2 ^ 128 * c.head.tarm + 2 ^ 192 * ofInt 8 c.head.kls
    + 2 ^ 200 * c.head.run + 2 ^ 232 * mask
    + total (ps.map (fun p => 2 ^ (512 + 128 * p.1) * p.2.1 + 2 ^ (576 + 128 * p.1) * p.2.2))
    + 2 ^ 1536 * imageDigests c.head.pools

/-- A byte of the image. Blocks that are not covered read as zero (R414). -/
def BuddyCopy.byte (c : BuddyCopy) (off : Nat) : Byte :=
  let dig := imageDigests c.head.pools
  if off < 4096 then BitVec.ofNat 8 (c.header / 2 ^ (8 * off) % 256)
  else if dig ≤ off then
    match (c.digest.drop ((off - dig) / 64)).head? with
    | some kd => kd.2.extractLsb' ((off - dig) % 64 * 8) 8
    | none => 0
  else
    match (imageOffsets c.head.pools gib).find? (fun p => decide (p.2.2 ≤ off ∧ off < p.2.2 + p.2.1)) with
    | some (pool, _, base) => ((SMap.find c.blocks (blockKey pool (off - base))).getD []).getD ((off - base) % 32768) 0
    | none => 0

/-- Bytes of a held image at an offset of its mapping. -/
def Device.readImage (s : Device) (part : Nat) (m : Mapping) (off len : Nat) : List Byte :=
  match (s.part part).snap.copies.find? (fun c => c.origin == m.owner && c.id == m.queue) with
  | some c => (List.range len).map (fun i => c.byte (off + i))
  | none => List.replicate len 0

/-- A read of a translated range in the state: its bytes with poisoned parts as zeros, and whether any part is poison. -/
def Device.readTarget (s : Device) (part : Nat) (t : Target) (len sash : Nat) : List Byte × Bool :=
  if t.map.kind = 2 then (s.readImage part t.map t.off len, false)
  else if t.map.kind = 0 then s.readPool t.owner t.pool t.off len sash
  else (List.replicate len 0, false)

end Sys2Proof.Machine
end

