-- ==== Sys2Proof/Machine/Float.lean ====
section
/-! DEFINITION. Exact binary values and their rounding: the formats of the vector engine (R79) and of the cubes (Table
06-1), decoded to an exact value m × 2^e and rounded once. -/

namespace Sys2Proof.Machine

/-- How a format uses its highest exponent: IEEE infinities and NaNs, a single NaN pattern (E4M3), or neither. -/
inductive Specials where
  | ieee | e4m3 | finite
  deriving DecidableEq, Repr

/-- A binary format: exponent bits, fraction bits and its special values. The bias is 2^(eb − 1) − 1. -/
structure Fmt where
  eb : Nat
  mb : Nat
  sp : Specials := .ieee
  deriving DecidableEq, Repr

def fp64 : Fmt := { eb := 11, mb := 52 }
def fp32 : Fmt := { eb := 8, mb := 23 }
def fp16 : Fmt := { eb := 5, mb := 10 }
def bf16 : Fmt := { eb := 8, mb := 7 }
def e5m2 : Fmt := { eb := 5, mb := 2 }
def e4m3 : Fmt := { eb := 4, mb := 3, sp := .e4m3 }
def e2m3 : Fmt := { eb := 2, mb := 3, sp := .finite }
def e3m2 : Fmt := { eb := 3, mb := 2, sp := .finite }
def e2m1 : Fmt := { eb := 2, mb := 1, sp := .finite }

/-- A rounding direction: to nearest even, toward zero, up, down (R79), or stochastic with 24 random bits (R140). -/
inductive Rm where
  | rne | rtz | rup | rdn
  | sr (r : Nat)
  deriving DecidableEq, Repr

/-- An exact value: (−1)^neg × m × 2^e, with signed zeros, infinities and NaN. -/
inductive Val where
  | nan
  | inf (neg : Bool)
  | fin (neg : Bool) (m : Nat) (e : Int)
  deriving DecidableEq, Repr

/-- The sticky flags in the order of R79: bit 0 invalid, 1 division by zero, 2 overflow, 3 underflow, 4 inexact. -/
abbrev Flags5 := BitVec 5

def fInvalid : Flags5 := 1
def fDivZero : Flags5 := 2
def fOverflow : Flags5 := 4
def fUnderflow : Flags5 := 8
def fInexact : Flags5 := 16

def flagIf (c : Bool) (f : Flags5) : Flags5 := if c then f else 0

namespace Fmt

/-- The width of the format in bits. -/
def width (f : Fmt) : Nat := 1 + f.eb + f.mb

def bias (f : Fmt) : Int := 2 ^ (f.eb - 1) - 1

/-- The exponent of the least normal number. -/
def emin (f : Fmt) : Int := 1 - f.bias

/-- The magnitude bits of infinity, or of the first pattern above the largest finite value. -/
def limit (f : Fmt) : Nat :=
  match f.sp with
  | .ieee => (2 ^ f.eb - 1) * 2 ^ f.mb
  | .e4m3 => 2 ^ (f.eb + f.mb) - 1
  | .finite => 2 ^ (f.eb + f.mb)

/-- The canonical NaN (R79, Table 06-3). -/
def qnan (f : Fmt) : Nat :=
  match f.sp with
  | .ieee => (2 ^ f.eb - 1) * 2 ^ f.mb + 2 ^ (f.mb - 1)
  | _ => 2 ^ (f.eb + f.mb) - 1

/-- The bits with the sign in place. -/
def signed (f : Fmt) (neg : Bool) (mag : Nat) : Nat := if neg then 2 ^ (f.eb + f.mb) + mag else mag

/-- The value of an encoding. Log entry 135 (PRESUMED). -/
def decode (f : Fmt) (bits : Nat) : Val :=
  let mag := bits % 2 ^ (f.eb + f.mb)
  let neg := bit bits (f.eb + f.mb)
  if f.sp = .ieee && mag == f.limit then .inf neg
  else if f.sp != .finite && f.limit ≤ mag then .nan
  else if mag < 2 ^ f.mb then .fin neg mag (f.emin - f.mb)
  else .fin neg (2 ^ f.mb + mag % 2 ^ f.mb) ((mag / 2 ^ f.mb : Nat) - f.bias - f.mb)

/-- Whether an encoding is a NaN. -/
def isNan (f : Fmt) (bits : Nat) : Bool := f.decode bits == .nan

/-- Whether an encoding is a signalling NaN: a NaN whose first fraction bit is clear (IEEE formats). -/
def isSNan (f : Fmt) (bits : Nat) : Bool := f.sp == .ieee && f.isNan bits && !bit bits (f.mb - 1)

/-- The encoding that a format gives a zero, an infinity or a NaN. A format without infinity has none to give. -/
def ofInf (f : Fmt) (neg : Bool) : Nat := if f.sp = .ieee then f.signed neg f.limit else f.qnan

end Fmt

/-! ## Rounding -/

/-- Whether a magnitude with remainder rem of 2^shift (and something below it when `sticky`) rounds up from q. -/
def roundsUp (rm : Rm) (neg : Bool) (q rem shift : Nat) (sticky : Bool) : Bool :=
  match rm with
  | .rne => 2 ^ shift < 2 * rem || (2 * rem == 2 ^ shift && (sticky || q % 2 == 1))
  | .rtz => false
  | .rup => !neg && (rem != 0 || sticky)
  | .rdn => neg && (rem != 0 || sticky)
  | .sr r => r % 2 ^ 24 < rem * 2 ^ 24 / 2 ^ shift

/-- m × 2^e rounded to a multiple of 2^qe: the multiple and whether it is inexact. -/
def roundAt (rm : Rm) (neg : Bool) (m : Nat) (e qe : Int) (sticky : Bool) : Nat × Bool :=
  if qe ≤ e then (m * 2 ^ (e - qe).toNat, sticky)
  else
    let shift := (qe - e).toNat
    let q := m / 2 ^ shift
    let rem := m % 2 ^ shift
    ((if roundsUp rm neg q rem shift sticky then q + 1 else q), rem != 0 || sticky)

/-- What a finite value beyond the largest finite one becomes (IEEE 754; Table 06-3 for E4M3). -/
def overflowed (f : Fmt) (rm : Rm) (neg : Bool) : Nat :=
  let toInf := match rm with
    | .rne => true
    | .sr _ => true
    | .rtz => false
    | .rup => !neg
    | .rdn => neg
  match f.sp with
  | .ieee => f.signed neg (if toInf then f.limit else f.limit - 1)
  | .e4m3 => if toInf then f.qnan else f.signed neg (f.limit - 1)
  | .finite => f.signed neg (f.limit - 1)

/-- A finite magnitude m × 2^e (and something below when `sticky`) rounded once to the format, with the flags it sets. The
underflow flag where tininess before and after rounding differ is Config.tinyBeforeRounding (IEEE 754 allows either). Log entry 17 (DEDUCED). -/
def roundFin (f : Fmt) (rm : Rm) (neg : Bool) (m : Nat) (e : Int) (sticky : Bool := false) : Nat × Flags5 :=
  if m = 0 then (f.signed neg 0, 0)
  else
    let top : Int := (Nat.log2 m : Int) + e
    let qe := max top f.emin - f.mb
    let (q, inexact) := roundAt rm neg m e qe sticky
    let mag := ((qe + f.mb + f.bias - 1).toNat) * 2 ^ f.mb + q
    if f.limit ≤ mag then (overflowed f rm neg, fOverflow ||| fInexact)
    else
      let below := decide (top < f.emin)
      let after := decide (top < f.emin - 1)
        || (decide (top = f.emin - 1) && decide ((roundAt rm neg m e (top - f.mb) sticky).1 < 2 ^ (f.mb + 1)))
      let tiny := if below && !after then Config.tinyBeforeRounding else below
      (f.signed neg mag, flagIf inexact fInexact ||| flagIf (inexact && tiny) fUnderflow)

/-- A value rounded once to the format: its bits and its flags. A NaN becomes the canonical NaN. -/
def roundVal (f : Fmt) (rm : Rm) : Val → Nat × Flags5
  | .nan => (f.qnan, 0)
  | .inf neg => (f.ofInf neg, 0)
  | .fin neg m e => roundFin f rm neg m e

/-! ## Exact arithmetic -/

/-- The integer that a magnitude spells over 2^e, signed. -/
def scaled (neg : Bool) (m : Nat) (e lo : Int) : Int :=
  let v : Int := (m * 2 ^ (e - lo).toNat : Nat)
  if neg then -v else v

/-- The exact sum; an exact zero of unlike signs is +0, or −0 when rounding down (R79, IEEE 754). -/
def Val.add (rm : Rm) : Val → Val → Val
  | .nan, _ => .nan
  | _, .nan => .nan
  | .inf a, .inf b => if a = b then .inf a else .nan
  | .inf a, _ => .inf a
  | _, .inf b => .inf b
  | .fin n1 m1 e1, .fin n2 m2 e2 =>
    let e := min e1 e2
    let t := scaled n1 m1 e1 e + scaled n2 m2 e2 e
    if t = 0 then .fin (if n1 = n2 then n1 else rm = .rdn) 0 e
    else .fin (decide (t < 0)) t.natAbs e

/-- The exact product; infinity times zero is NaN. -/
def Val.mul : Val → Val → Val
  | .nan, _ => .nan
  | _, .nan => .nan
  | .inf a, .inf b => .inf (a != b)
  | .inf a, .fin b m _ => if m = 0 then .nan else .inf (a != b)
  | .fin a m _, .inf b => if m = 0 then .nan else .inf (a != b)
  | .fin n1 m1 e1, .fin n2 m2 e2 => .fin (n1 != n2) (m1 * m2) (e1 + e2)

def Val.neg : Val → Val
  | .nan => .nan
  | .inf n => .inf (!n)
  | .fin n m e => .fin (!n) m e

/-- Whether a value is NaN. -/
def Val.isNan (v : Val) : Bool := v == .nan

/-- Numeric less-than of two values that are not NaN; −0 equals +0. -/
def Val.lt : Val → Val → Bool
  | .nan, _ => false
  | _, .nan => false
  | .inf a, .inf b => a && !b
  | .inf a, _ => a
  | _, .inf b => !b
  | .fin n1 m1 e1, .fin n2 m2 e2 =>
    let e := min e1 e2
    decide (scaled n1 m1 e1 e < scaled n2 m2 e2 e)

/-- Numeric equality of two values that are not NaN. -/
def Val.eq (a b : Val) : Bool := !a.isNan && !b.isNan && !a.lt b && !b.lt a

/-- The sign of a value that is not NaN. -/
def Val.negative : Val → Bool
  | .nan => false
  | .inf n => n
  | .fin n _ _ => n

/-- The integer square root of m by bits: the greatest r below 2^k with r² ≤ m. -/
def isqrt (m : Nat) : Nat → Nat
  | 0 => 0
  | k + 1 =>
    let r := isqrt (m / 4) k
    if (2 * r + 1) * (2 * r + 1) ≤ m then 2 * r + 1 else 2 * r

/-- 1 / x correctly rounded (R79), with its flags. -/
def recip (f : Fmt) (rm : Rm) : Val → Nat × Flags5
  | .nan => (f.qnan, 0)
  | .inf neg => (f.signed neg 0, 0)
  | .fin neg m e =>
    if m = 0 then (f.ofInf neg, fDivZero)
    else
      let k := Nat.log2 m + f.mb + 4
      roundFin f rm neg (2 ^ k / m) (-(k : Int) - e) (2 ^ k % m != 0)

/-- The square root correctly rounded (R79), with its flags. -/
def sqroot (f : Fmt) (rm : Rm) : Val → Nat × Flags5
  | .nan => (f.qnan, 0)
  | .inf neg => if neg then (f.qnan, fInvalid) else (f.ofInf false, 0)
  | .fin neg m e =>
    if m = 0 then (f.signed neg 0, 0)
    else if neg then (f.qnan, fInvalid)
    else
      let odd := (e % 2).toNat
      let m2 := m * 2 ^ (odd + 2 * (f.mb + 3))
      let r := isqrt m2 (f.mb + 6 + f.mb)
      roundFin f rm false r ((e - odd) / 2 - (f.mb + 3)) (r * r != m2)

/-- A value as an integer between lo and hi, rounded, saturated, 0 for NaN (Table 06-3's and R79's conversion). -/
def toInteger (rm : Rm) (lo hi : Int) : Val → Int × Flags5
  | .nan => (0, fInvalid)
  | .inf neg => (if neg then lo else hi, fInvalid)
  | .fin neg m e =>
    let (q, inexact) := roundAt rm neg m e 0 false
    let v : Int := if neg then -q else q
    if v < lo then (lo, fInvalid) else if hi < v then (hi, fInvalid) else (v, flagIf inexact fInexact)

/-- An integer as a value. -/
def Val.ofInt (i : Int) : Val := .fin (decide (i < 0)) i.natAbs 0

/-! ## The operations of the vector class on encodings -/

/-- The rounding direction that MOD[1:0] selects (R79). -/
def rmOf (mod : Nat) : Rm :=
  match mod % 4 with
  | 0 => .rne
  | 1 => .rtz
  | 2 => .rup
  | _ => .rdn

/-- Invalid for a signalling operand, or for a NaN that no operand brought. -/
def invalidOf (f : Fmt) (ops : List Nat) (r : Val) : Flags5 :=
  flagIf (ops.any f.isSNan || (r.isNan && !ops.any f.isNan)) fInvalid

def fpAdd (f : Fmt) (rm : Rm) (a b : Nat) : Nat × Flags5 :=
  let v := Val.add rm (f.decode a) (f.decode b)
  let r := roundVal f rm v
  (r.1, r.2 ||| invalidOf f [a, b] v)

def fpSub (f : Fmt) (rm : Rm) (a b : Nat) : Nat × Flags5 :=
  let v := Val.add rm (f.decode a) (f.decode b).neg
  let r := roundVal f rm v
  (r.1, r.2 ||| invalidOf f [a, b] v)

def fpMul (f : Fmt) (rm : Rm) (a b : Nat) : Nat × Flags5 :=
  let v := Val.mul (f.decode a) (f.decode b)
  let r := roundVal f rm v
  (r.1, r.2 ||| invalidOf f [a, b] v)

/-- Fused multiply-add. Whether infinity × 0 + a quiet NaN sets invalid is Config.fmaNanInvalid (IEEE 754 allows
either). -/
def fpFma (f : Fmt) (rm : Rm) (a b c : Nat) : Nat × Flags5 :=
  let p := Val.mul (f.decode a) (f.decode b)
  let v := Val.add rm p (f.decode c)
  let r := roundVal f rm v
  let corner := p.isNan && !f.isNan a && !f.isNan b && f.isNan c && Config.fmaNanInvalid
  (r.1, r.2 ||| invalidOf f [a, b, c] v ||| flagIf corner fInvalid)

/-- IEEE 754-2019 minimumNumber and maximumNumber: a number wins over a NaN; −0 is below +0. -/
def fpPick (f : Fmt) (wantMax : Bool) (a b : Nat) : Nat × Flags5 :=
  let va := f.decode a
  let vb := f.decode b
  let below := va.lt vb || (va.eq vb && va.negative && !vb.negative)
  let bits :=
    if va.isNan && vb.isNan then f.qnan
    else if va.isNan then b
    else if vb.isNan then a
    else if below == wantMax then b else a
  (bits, flagIf (f.isSNan a || f.isSNan b) fInvalid)

def fpAbs (f : Fmt) (a : Nat) : Nat := a % 2 ^ (f.eb + f.mb)

def fpNeg (f : Fmt) (a : Nat) : Nat := f.signed (!bit a (f.eb + f.mb)) (a % 2 ^ (f.eb + f.mb))

/-- The compare conditions of Table 04-6. Whether lt, le, gt and ge signal invalid on a quiet NaN is
Config.orderedCompareSignals, which the manual leaves open. -/
def fpCompare (f : Fmt) (cond a b : Nat) : Bool × Flags5 :=
  let va := f.decode a
  let vb := f.decode b
  let un := va.isNan || vb.isNan
  let res := match cond with
    | 0 => va.eq vb
    | 1 => !va.eq vb
    | 2 => va.lt vb
    | 3 => !un && !vb.lt va
    | 4 => vb.lt va
    | 5 => !un && !va.lt vb
    | _ => un
  (res, flagIf (f.isSNan a || f.isSNan b || (un && decide (2 ≤ cond ∧ cond ≤ 5) && Config.orderedCompareSignals)) fInvalid)

/-- One format to another, rounded. -/
def fpConvert (src dst : Fmt) (rm : Rm) (a : Nat) : Nat × Flags5 :=
  let r := roundVal dst rm (src.decode a)
  (r.1, r.2 ||| flagIf (src.isSNan a) fInvalid)

/-- A float to a 32-bit integer (R79: rounded, saturated, 0 for NaN). -/
def fpToInt (f : Fmt) (rm : Rm) (unsigned : Bool) (a : Nat) : Nat × Flags5 :=
  let r := if unsigned then toInteger rm 0 (2 ^ 32 - 1) (f.decode a) else toInteger rm (-(2 ^ 31)) (2 ^ 31 - 1) (f.decode a)
  (ofInt 32 r.1, r.2)

/-- A 32-bit integer to a float. -/
def fpOfInt (f : Fmt) (rm : Rm) (unsigned : Bool) (a : Nat) : Nat × Flags5 :=
  roundVal f rm (Val.ofInt (if unsigned then (fld a 0 32 : Int) else sfld a 0 32))

/-- A NaN that a fixed function returns is the canonical one (R79). -/
def canonical (f : Fmt) (bits : Nat) : Nat := if f.isNan bits then f.qnan else bits

end Sys2Proof.Machine
end

