-- ==== Sys2Proof/Machine/Flags.lean ====
section
/-! DEFINITION. The flag computations: the sticky flags of a group (R79) and the compare conditions that write predicates
(R78). -/

namespace Sys2Proof.Machine

/-- A group with sticky flags raised (R79). -/
def Group.raiseFlags (g : Group) (f : Flags5) : Group := { g with flags := g.flags ||| f }

/-- The union of the flags that the lanes set. -/
def unionFlags (fs : List Flags5) : Flags5 := fs.foldl (fun a b => a ||| b) 0

/-- Integer less-than, unsigned when MOD[3] is set (R78). -/
def intLt (uns : Bool) (a b : Word) : Bool := if uns then a.ult b else a.slt b

/-- The integer conditions of R78: 0 eq, 1 ne, 2 lt, 3 le, 4 gt, 5 ge, by MOD[2:0]; MOD[3] unsigned. -/
def intCond (mod : Nat) (a b : Word) : Bool :=
  let uns := bit mod 3
  match mod % 8 with
  | 0 => a == b
  | 1 => a != b
  | 2 => intLt uns a b
  | 3 => !intLt uns b a
  | 4 => intLt uns b a
  | 5 => !intLt uns a b
  | _ => false

end Sys2Proof.Machine
end

