-- ==== Sys2Proof/Machine/Paths.lean ====
section
/-! DEFINITION. Paths of a group: splitting, switching and merging (R60–R62, R85, R470). -/

namespace Sys2Proof.Machine

/-- The lowest lane of a path. -/
def Path.low (p : Path) : Nat := lowLane p.mask

def Path.runnable (p : Path) : Bool := p.st == .ready

/-- The path that holds a lane. -/
def Group.pathOf? (g : Group) (lane : Nat) : Option Path := g.paths.find? (fun p => p.mask.getLsbD lane)

/-- The path that the pane runs: the one that holds lane `cur`. -/
def Group.cur? (g : Group) : Option Path := g.pathOf? g.cur

/-- The next runnable path after lane k in ascending order of lowest lanes, wrapping round; the last to be taken is the
one at k itself (R61). -/
def Group.nextRunnable (g : Group) (k : Nat) : Option Path :=
  (span (k + 1) 128 ++ List.range (k + 1)).findSome? (fun l => g.paths.find? (fun p => p.runnable && p.low == l))

/-- Resume the next runnable path after the one set aside at lane k (R61). -/
def Group.switchFrom (g : Group) (k : Nat) : Group :=
  match g.nextRunnable k with
  | none => { g with cur := k }
  | some p => { g with cur := p.low }

/-- Keep the running path while it can run; else resume the next runnable one after it. -/
def Group.resume (g : Group) : Group :=
  match g.cur? with
  | none => g.switchFrom g.cur
  | some p => if p.runnable then g else g.switchFrom p.low

/-- Whether a is the reconvergence address of an open split that a path's threads left at (R60, R470). -/
def Group.reconverges (g : Group) (mask : Mask) (a : Nat) : Bool :=
  g.splits.any (fun sp => sp.rcv == some a && (sp.threads &&& mask) != 0)

/-- Whether every live thread that left at a split has reached its reconvergence address (R60). -/
def Group.splitDone (g : Group) (sp : Split) : Bool :=
  match sp.rcv with
  | none => false
  | some a => g.paths.all (fun p => (p.mask &&& sp.threads) == 0 || (p.pc == a && p.st == .merge))

/-- Splits with no live thread, and splits without an address of which one side has exited, are over (R470). -/
def Group.dropDead (g : Group) : Group :=
  let live := g.live
  { g with splits := g.splits.filter (fun sp =>
      (sp.threads &&& live) != 0
        && (sp.rcv.isSome || ((sp.sideA &&& live) != 0 && (sp.sideB &&& live) != 0))) }

/-- Merge the paths of one finished split: the innermost finished one. The merged path carries the union of their threads,
waits on if it also counts toward an enclosing split at the address, and closes the splits opened inside. Log entry 22 (DEDUCED). -/
def Group.mergeOne (g : Group) : Group :=
  match g.splits.reverse.find? g.splitDone with
  | none => g
  | some sp =>
    let inn := g.paths.filter (fun p => (p.mask &&& sp.threads) != 0)
    let out := g.paths.filter (fun p => (p.mask &&& sp.threads) == 0)
    let mask := inn.foldl (fun m p => m ||| p.mask) 0
    let outer := g.splits.takeWhile (fun x => x != sp)
    let inner := (g.splits.dropWhile (fun x => x != sp)).drop 1
    let live := g.live
    let kept := outer ++ inner.filter (fun x => (x.threads &&& live &&& ~~~mask) != 0)
    let a := sp.rcv.getD 0
    let h : Group := { g with splits := kept }
    if mask == 0 then h
    else { h with paths := out ++ [{ mask, pc := a, st := if h.reconverges mask a then .merge else .ready }] }

/-- Merge what can merge: each merge closes a split. -/
def Group.mergeN (g : Group) : Nat → Group
  | 0 => g
  | n + 1 => g.mergeOne.mergeN n

/-- Paths that wait for a merge that no open split asks for any more run on. -/
def Group.unwait (g : Group) : Group :=
  { g with paths := g.paths.map (fun p =>
      if p.st == .merge && !g.reconverges p.mask p.pc then { p with st := .ready } else p) }

/-- After threads have moved or exited: merge, and forget what is over. -/
def Group.settle (g : Group) : Group :=
  let h := g.dropDead
  (h.mergeN (h.splits.length + 1)).unwait

/-- A new path at an address: it waits there if the address is a reconvergence address of its threads (R60, R61). -/
def Group.arrive (g : Group) (mask : Mask) (a : Nat) : Path :=
  { mask, pc := a, st := if g.reconverges mask a then .merge else .ready }

/-- The running path's threads go on at the given addresses: one new path per address, split with the reconvergence
address when there is more than one. `aside` are the threads that a switch point sets aside (R60, R61, R85). -/
def Group.redirect (g : Group) (p : Path) (moves : List (Mask × Nat)) (rcv : Option Nat) (aside : Mask) : Group :=
  let moves := moves.filter (fun m => m.1 != 0)
  let splits := if moves.length ≤ 1 then g.splits else g.splits ++ [{ threads := p.mask, rcv }]
  let h : Group := { g with splits, paths := g.paths.filter (fun q => q.mask != p.mask) }
  let h : Group := { h with paths := h.paths ++ moves.map (fun m => h.arrive m.1 m.2), cur := p.low }
  let h := h.settle
  if aside != 0 then h.switchFrom (lowLane aside) else h.resume

/-- The running path goes on at one address. -/
def Group.goto (g : Group) (p : Path) (a : Nat) : Group := g.redirect p [(p.mask, a)] none 0

/-- The running path passes an instruction of n bytes (R72). -/
def Group.advance (g : Group) (p : Path) (n : Nat) : Group := g.goto p (p.pc + n)

/-- The threads `lanes` of the running path wait in a state; the others go on past the instruction as one path (R85). -/
def Group.block (g : Group) (p : Path) (lanes : Mask) (st : PathSt) (n : Nat) : Group :=
  let pass := p.mask &&& ~~~lanes
  let h : Group := { g with paths := g.paths.filter (fun q => q.mask != p.mask) ++ [{ mask := lanes, pc := p.pc, st }] }
  if pass == 0 then h.switchFrom (lowLane lanes)
  else
    ({ h with paths := h.paths ++ [h.arrive pass (p.pc + n)], cur := lowLane pass }).settle.resume

/-- The threads `lanes` of the running path exit; the others pass over the exit (R85). -/
def Group.exitLanes (g : Group) (p : Path) (lanes : Mask) (n : Nat) : Group :=
  let pass := p.mask &&& ~~~lanes
  let h : Group := { g with paths := g.paths.filter (fun q => q.mask != p.mask) }
  if pass == 0 then h.settle.switchFrom (lowLane lanes)
  else
    let h : Group := { h with paths := h.paths ++ [h.arrive pass (p.pc + n)], cur := lowLane pass }
    h.settle.resume

/-- Every path that waits in a state is released at once past its instruction of n bytes, and runs or waits there. A group
that had a runnable path goes on with it; else the pane resumes the next runnable path after the one set aside last (R61). -/
def Group.releaseAll (g : Group) (st : PathSt) (n : Nat) : Group :=
  let paths := g.paths.map (fun p => if p.st == st then g.arrive p.mask (p.pc + n) else p)
  let h := Group.settle { g with paths }
  match g.cur? with
  | some p => if p.runnable then h.resume else h.switchFrom p.low
  | none => h.switchFrom g.cur

/-- A waiting path becomes runnable past its instruction of n bytes. -/
def Group.release (g : Group) (p : Path) (n : Nat) : Group :=
  let h : Group := { g with paths := g.paths.filter (fun q => q.mask != p.mask) }
  let h : Group := { h with paths := h.paths ++ [h.arrive p.mask (p.pc + n)] }
  h.settle.resume

/-- Failed lanes of an atomic: they form a path that is set aside, and the other threads of their path go on at once. The
two make a split whose reconvergence address a later branch fixes (R61, R470). All of them failing, the path is set
aside. -/
def Group.failLanes (g : Group) (p : Path) (failed : Mask) (a : Nat) : Group :=
  let bad := p.mask &&& failed
  let good := p.mask &&& ~~~failed
  if bad == 0 then g.goto p a
  else if good == 0 then g.redirect p [(p.mask, a)] none p.mask
  else
    let h : Group := { g with
      splits := g.splits ++ [{ threads := p.mask, rcv := none, sideA := good, sideB := bad }]
      paths := g.paths.filter (fun q => q.mask != p.mask) }
    let h : Group := { h with paths := h.paths ++ [h.arrive good a, h.arrive bad a], cur := lowLane good }
    h.settle.resume

/-- Lanes whose remote atomic failed are set aside when its reply arrives (R92): each path that holds some of them
splits where it stands. -/
def Group.failWhereverTheyAre (g : Group) (failed : Mask) : Group :=
  g.paths.foldl (fun h p =>
    let bad := p.mask &&& failed
    let good := p.mask &&& ~~~failed
    if bad == 0 then h
    else if good == 0 then (if h.cur? == some p then h.switchFrom p.low else h)
    else
      let running := h.cur? == some p
      let k : Group := { h with
        splits := h.splits ++ [{ threads := p.mask, rcv := none, sideA := good, sideB := bad }]
        paths := h.paths.filter (fun q => q.mask != p.mask) ++ [{ p with mask := good }, { p with mask := bad }] }
      if running then { k with cur := lowLane good } else k) g

/-- The first branch with a reconvergence address that either path of an atomic's split issues fixes the split's address
(R470). -/
def Group.fixRcv (g : Group) (mask : Mask) (a : Nat) : Group :=
  { g with splits := g.splits.map (fun sp =>
      if sp.rcv.isNone && (sp.threads &&& mask) != 0 then { sp with rcv := some a } else sp) }

end Sys2Proof.Machine
end

