-- ==== Sys2Proof/Machine/Issue.lean ====
section
/-! DEFINITION. Issuing an instruction of a group: which group can issue (R50, R51, R61), the fetch checks (R58), the
guard (R75, R76), the checks on the word (R72–R74), and how an exception stops the cohort (R67, R93). -/

namespace Sys2Proof.Machine

/-! ## Faults of a cohort -/

/-- The records that a cohort adds: one for each group, so none for a group that has one (R67). Log entry 137 (DEDUCED). -/
def Cohort.newRecords (c : Cohort) (recs : List FaultRec) : List FaultRec :=
  recs.filter (fun f => c.records.all (fun r => r.gic != f.gic))

/-- The cohort stops with a status and fault records: every group of it stops at its next instruction boundary; the
records are written when its outstanding operations have ended (R67, COHORT_END). -/
def Device.stopCohort (s : Device) (ci status : Nat) (recs : List FaultRec) : Device :=
  match s.cohort? ci with
  | none => s
  | some c =>
    let t := s.modCohort ci (fun c => { c with fault := some (c.fault.getD status), records := c.records ++ c.newRecords recs })
    t.modPane c.pane (fun p => { p with groups := p.groups.map (fun kg =>
      if kg.2.cohort = ci then (kg.1, { kg.2 with stopped := true }) else kg) })

/-- The code of a group width in the kernel header (Table 03-3). -/
def widthCode (w : Nat) : Nat := if w ≤ 16 then 0 else if w ≤ 32 then 1 else if w ≤ 64 then 2 else 3

/-- A fault record of a group (Table 03-5). -/
def Device.faultRec (s : Device) (ci pane slot : Nat) (g : Group) (code bar pc : Nat) (lanes : Mask) : FaultRec :=
  let c := s.cohort? ci
  let l := c.bind (fun c => s.launch? c.part c.launch)
  { code, bar, pane, slot, width := widthCode g.width, gic := g.gic, pc,
    cohort := (c.map (·.index)).getD 0, tag := (l.map (·.tag)).getD 0, time := s.view pane, lanes }

/-- An exception of some lanes of a group at an address: the cohort stops with the status (R67, R93). -/
def Device.except (s : Device) (pane slot : Nat) (g : Group) (code status pc : Nat) (lanes : Mask) : Device :=
  s.stopCohort g.cohort status [s.faultRec g.cohort pane slot g code 0xFF pc lanes]

/-! ## The issuing context -/

/-- What an issuing instruction sees: the state, the pane, the group in its slot with its running path, its cohort and
launch, and the instruction's words. -/
structure Ctx where
  s    : Device
  pane : Nat
  slot : Nat
  w    : Nat
  w1   : Nat
  g    : Group
  p    : Path
  c    : Cohort
  l    : Launch
  deriving DecidableEq, Repr

def Ctx.part (x : Ctx) : Nat := x.c.part

/-- The guard of the instruction in each lane (Table 04-2). -/
def Ctx.guard (x : Ctx) : Mask := if bit x.w 15 then ~~~(x.g.p (fld x.w 12 3)) else x.g.p (fld x.w 12 3)

/-- The active lanes whose guard holds (R75). -/
def Ctx.act (x : Ctx) : Mask := x.p.mask &&& x.guard

/-- An exception of the instruction in some lanes: no effect in any lane, and the cohort stops (R93). -/
def Ctx.raise (x : Ctx) (code status : Nat) (lanes : Mask) : Device :=
  x.s.except x.pane x.slot x.g code status x.p.pc lanes

/-- The slices of a group's vector instruction (R47). -/
def slicesOf (width : Nat) : Nat := Nat.max 1 (width / 32)

/-- The instructions of the vector ports count their slices in OD 0xC000: classes 0x1 to 0x4, and 0x6 (Table 04-1). -/
def Ctx.count (x : Ctx) (s : Device) : Device :=
  if [1, 2, 3, 4, 6].contains (x.w % 16) then
    s.modPane x.pane (fun p => { p with perf := { p.perf with slices := p.perf.slices + slicesOf x.g.width } })
  else s

/-- With checked mode on, the slices of a vector instruction are unchecked until their VECTOR_CHECK (R353, R358). Log entry 42 (DEDUCED). -/
def Ctx.uncheck (x : Ctx) (g : Group) : Group :=
  if x.l.checked && [1, 2, 3, 4].contains (x.w % 16) && x.act != 0 then
    { g with unchecked := g.unchecked + slicesOf x.g.width }
  else g

/-- Whether an instruction that R358 names must wait for the checks of the group's earlier vector results. -/
def Ctx.checkHeld (x : Ctx) : Bool := x.l.checked && x.g.unchecked != 0

/-- The instruction of n bytes is done: the group as it left it goes on past the instruction. -/
def Ctx.finish (x : Ctx) (s : Device) (g : Group) (n : Nat) : Device :=
  (x.count s).setGroup x.pane x.slot ((x.uncheck g).advance x.p n)

/-- A one-word instruction is done. -/
def Ctx.done (x : Ctx) (g : Group) : Device := x.finish x.s g 8

/-- Whether the core rail of a pane's sash is on. -/
def Device.powered (s : Device) (pane : Nat) : Bool :=
  if sashOf pane = 0 then !s.power.sash0.off else !s.power.sash1.off

/-- Whether an active number can run: it stands for a pane, and no migration, test or power state holds it. -/
def Device.paneRuns (s : Device) (pane : Nat) : Bool :=
  decide (pane < 320) && s.paneState pane == .active && !(s.pane pane).paused && s.powered pane

/-- The context of an instruction of a group, when the group can issue one. -/
def Device.issuing (s : Device) (pane slot w w1 : Nat) : Option Ctx :=
  if !s.paneRuns pane then none
  else
    match s.group? pane slot with
    | none => none
    | some g =>
      match g.cur?, s.cohort? g.cohort with
      | some p, some c =>
        match s.launch? c.part c.launch with
        | some l =>
          if p.runnable && !g.stopped && c.fault.isNone then some { s, pane, slot, w, w1, g, p, c, l } else none
        | none => none
      | _, _ => none

/-! ## Fetch (R58) -/

/-- Whether an address lies in the code of the launch with n bytes after it. -/
def Ctx.inCode (x : Ctx) (a n : Nat) : Bool := decide (x.l.entry ≤ a ∧ a + n ≤ x.l.entry + x.l.codelen)

/-- The sector of an address, as the instruction cache holds it. -/
def icSector (va : Nat) : Nat := va / 32

/-- The fetch of one word: the exception it raises, or none. A sector that the instruction cache holds is not read. -/
def Ctx.fetchFault (x : Ctx) (va : Nat) : Option (Nat × Nat) :=
  match x.s.translate x.part va .read with
  | .error e => some (if e = stAccess then (0x26, stAccess) else (0x25, stTranslation))
  | .ok t =>
    if (x.s.pane x.pane).icache.contains (icSector va) then none
    else if t.map.kind = 0 && (x.s.readSector t.owner t.pool t.off 8 (sashOf x.pane)).isNone then some (0x27, stPoison)
    else none

/-- The sectors of the 64 KiB instruction cache (R58). -/
def icacheSectors : Nat := 2048

/-- A fetched sector enters the instruction cache; a full one gives up a sector, freely chosen. -/
def Device.fetchInto (s : Device) (pane key : Nat) : Device :=
  let held := (s.pane pane).icache
  if held.contains key then s
  else if held.length < icacheSectors then s.modPane pane (fun p => { p with icache := held ++ [key] })
  else
    let (n, t) := s.draw
    t.modPane pane (fun p => { p with icache := held.eraseIdx (n % held.length) ++ [key] })

/-- A sector of code that the instruction cache does not hold is read at its sill (R58, R158). -/
def Ctx.fetchSector (x : Ctx) (s : Device) (k : Nat) : Device :=
  if (s.pane x.pane).icache.contains k then s
  else
    match s.translate x.part (32 * k) .read with
    | .ok t => (s.touchRead x.part t 32 (sashOf x.pane)).fetchInto x.pane k
    | .error _ => s.fetchInto x.pane k

/-- The context with the instruction's sectors in the instruction cache. -/
def Ctx.cached (x : Ctx) (n : Nat) : Ctx := { x with s := (sectorsOf x.p.pc n).foldl x.fetchSector x.s }

/-- The fetch of an instruction of n bytes: an exception's code and status, or none (R58). Log entry 34 (DEDUCED). -/
def Ctx.fetch (x : Ctx) (n : Nat) : Option (Nat × Nat) :=
  if !x.inCode x.p.pc n then some (0x20, stAccess)
  else
    match x.fetchFault x.p.pc with
    | some e => some e
    | none => if n = 16 then x.fetchFault (x.p.pc + 8) else none

/-! ## Checks on the word (R72–R75) -/

/-- What a word names: whether its fields other than registers pass, the runs of v and s registers and the predicates that it
reads, and those that it only writes. A run is its first register and its count. -/
structure Uses where
  ok : Bool
  v  : List (Nat × Nat) := []
  s  : List (Nat × Nat) := []
  p  : List Nat := []
  wv : List (Nat × Nat) := []
  ws : List (Nat × Nat) := []
  wp : List Nat := []
  deriving DecidableEq, Repr

/-- A run of v registers passes Table 04-3 and the allocation limit of R52. -/
def vRunOk (vcount : Nat) (r : Nat × Nat) : Bool :=
  r.1 % r.2 == 0 && (span r.1 (r.1 + r.2)).all (fun n => decide (n < vcount) || n == 255)

/-- A run of s registers passes Table 04-3. -/
def sRunOk (r : Nat × Nat) : Bool := r.1 % r.2 == 0 && decide (r.1 + r.2 ≤ 64)

def Uses.legal (u : Uses) (vcount : Nat) : Bool :=
  u.ok && (u.v ++ u.wv).all (vRunOk vcount) && (u.s ++ u.ws).all sRunOk

/-- Whether two runs share a register. -/
def runsMeet (a b : Nat × Nat) : Bool := decide (a.1 < b.1 + b.2 ∧ b.1 < a.1 + a.2)

/-- The registers that an outstanding load or get will write. -/
def Load.run (l : Load) : Nat × Nat := (l.dst, if l.size ≤ 4 then 1 else l.size / 4)

/-- The scoreboard: an instruction that names a register which an outstanding load or get will write waits (R48, R92). -/
def Group.held (g : Group) (u : Uses) : Bool :=
  g.loads.any (fun l => (if l.scalar then u.s ++ u.ws else u.v ++ u.wv).any (fun r => runsMeet r l.run))

/-! ## Registers with a double-bit error (R354) -/

/-- Whether a register number lies in one of some runs. -/
def inRuns (rs : List (Nat × Nat)) (n : Nat) : Bool := rs.any (fun r => decide (r.1 ≤ n ∧ n < r.1 + r.2))

/-- CLASS and OP of a first word (Table 04-2). -/
def clsOf (w : Nat) : Nat := fld w 0 4
def opOf (w : Nat) : Nat := fld w 4 8

/-- The opcodes of Tables 04-5 and 04-6 that have an I form (R77). -/
def intIForms : List Nat := [0x00, 0x01, 0x02, 0x03, 0x05, 0x06, 0x08, 0x09, 0x0A, 0x0C, 0x0D, 0x0E, 0x12, 0x14, 0x15, 0x16]
def fpIForms : List Nat := [0x00, 0x01, 0x02, 0x04, 0x05, 0x08]

/-- Whether the tables of *The Krycha instruction set* list a CLASS and OP; a word of any other raises illegal instruction
(R72, R73). -/
def listedWord (w : Nat) : Bool :=
  let op := opOf w
  let base := op % 128
  let iform := decide (128 ≤ op)
  match clsOf w with
  | 0x0 => decide (op ≤ 8)
  | 0x1 => if iform then intIForms.contains base else decide (op ≤ 0x17)
  | 0x2 => if iform then fpIForms.contains base else decide (op ≤ 0x09) || decide (0x10 ≤ op ∧ op ≤ 0x16)
  | 0x3 => if iform then fpIForms.contains base else decide (op ≤ 0x05) || op == 0x08 || op == 0x09
  | 0x4 => if iform then fpIForms.contains base && base != 0x08 else decide (op ≤ 0x07) || op == 0x09
  | 0x5 => if iform then intIForms.contains base && decide (base ≤ 0x14) else decide (op ≤ 0x14)
  | 0x6 => decide (op ≤ 2) || decide (0x08 ≤ op ∧ op ≤ 0x10)
  | 0x7 => op == 0
  | 0x8 => decide (op ≤ 3)
  | 0x9 => op == 0
  | 0xA => decide (op ≤ 3)
  | 0xB => decide (op ≤ 3) || decide (0x08 ≤ op ∧ op ≤ 0x10)
  | _ => false

/-- Whether an instruction reads a register or predicate that holds a double-bit error: a lane's own v registers, those of every
lane in a shuffle (R78), s registers, predicates, and the guard. -/
def Ctx.readsStruck (x : Ctx) (u : Uses) (lane : Nat) : Bool :=
  let shuffles := clsOf x.w == 1 && [0x15, 0x16].contains (opOf x.w % 128)
  x.g.struck.any (fun r => match r with
    | .v l n => (l == lane || shuffles) && n != 255 && inRuns u.v n && x.act.getLsbD lane
    | .s n => inRuns u.s n && x.act.getLsbD lane
    | .p n => n != 0 && (n == fld x.w 12 3 || (u.p.contains n && x.act.getLsbD lane)))

/-- The active lanes for which the instruction reads such a register (R354). -/
def Ctx.struckLanes (x : Ctx) (u : Uses) : Mask :=
  if x.g.struck.isEmpty then 0 else maskOf ((lanesOf x.p.mask).filter (x.readsStruck u))

/-- A register that an instruction writes holds a sound word again. -/
def Ctx.rewritten (x : Ctx) (u : Uses) : Ctx :=
  { x with g := { x.g with struck := x.g.struck.filter (fun r => match r with
      | .v l n => !(inRuns u.wv n && x.act.getLsbD l)
      | .s n => !inRuns u.ws n
      | .p n => !u.wp.contains n) } }

/-- One Krycha command: the instruction of the row that `own` recognises, with the registers and fields that `uses` reads
from its word, and its effect `body` where the word passes its checks. A group that cannot issue now issues nothing. A
word that no table lists raises illegal instruction; a word of another row is refused. Log entries 9 (DESIGN CHOICE), 10 (DESIGN CHOICE). -/
def krycha (n : Nat) (own : Nat → Bool) (uses : Ctx → Uses) (body : Ctx → Device)
    (pane slot w w1 : Nat) (s : Device) : Host.Outcome Device Fault Refusal :=
  if own w || !listedWord w then
    match s.issuing pane slot w w1 with
    | none => .next s
    | some x =>
      match x.fetch n with
      | some (code, status) => .next (x.raise code status x.p.mask)
      | none =>
        let y := x.cached n
        if !own w || !(uses y).legal y.g.vcount then .next (y.raise 0x21 stMalformed y.p.mask)
        else if y.g.held (uses y) then .next s
        else if y.struckLanes (uses y) != 0 then .next (y.raise 0x27 stPoison (y.struckLanes (uses y)))
        else .next (body (y.rewritten (uses y)))
  else .refused .wordOfAnotherRow

/-- Whether a word is of a class and one of some opcodes. -/
def isWord (cls : Nat) (ops : List Nat) (w : Nat) : Bool := clsOf w == cls && ops.contains (opOf w)

end Sys2Proof.Machine
end

