-- ==== Sys2Proof/Machine/Operands.lean ====
section
/-! DEFINITION. The operand forms of the arithmetic classes: formats R and I (Table 04-4), register fields, immediates
(R77), lanes and pairs, and the shared shapes of a vector and a scalar instruction. -/

namespace Sys2Proof.Machine

/-! ## Fields of formats R and I (Table 04-4) -/

def Ctx.cls (x : Ctx) : Nat := clsOf x.w
def Ctx.isI (x : Ctx) : Bool := bit x.w 11
def Ctx.fD (x : Ctx) : Nat := fld x.w 16 8
def Ctx.fA (x : Ctx) : Nat := fld x.w 24 8
def Ctx.fB (x : Ctx) : Nat := fld x.w 32 8
def Ctx.fC (x : Ctx) : Nat := fld x.w 40 8
def Ctx.bs (x : Ctx) : Bool := bit x.w 52
def Ctx.imm (x : Ctx) : Nat := fld x.w 32 32

/-- MOD; an I-form instruction behaves as its R form with MOD = 0 (R77). -/
def Ctx.mod (x : Ctx) : Nat := if x.isI then 0 else fld x.w 48 4

/-- The second source of a lane: the immediate, an s register when BS = 1, or a v register (R77). -/
def Ctx.srcB (x : Ctx) (lane : Nat) : Word :=
  if x.isI then BitVec.ofNat 32 x.imm else if x.bs then x.g.s x.fB else x.g.v lane x.fB

/-- The second source of a scalar instruction (R81). -/
def Ctx.scalB (x : Ctx) : Word := if x.isI then BitVec.ofNat 32 x.imm else x.g.s x.fB

/-- What the third source of an opcode is. -/
inductive ThirdSource where
  | none | reg | pred
  deriving DecidableEq, Repr

/-- How an opcode uses formats R and I: whether it reads A and B, what C is, which MOD values it has, whether D is a
predicate, and how many registers a D, A, B or C field names. Fields that it does not use are RSV (R73). -/
structure Shape where
  a    : Bool := true
  b    : Bool := true
  c    : ThirdSource := .none
  mods : List Nat := [0]
  dp   : Bool := false
  nd   : Nat := 1
  na   : Nat := 1
  nb   : Nat := 1
  deriving DecidableEq, Repr

/-- The check of a word against its shape (R73–R75, R81). In the scalar class every register is an s register and BS is
RSV. -/
def Shape.uses (sh : Shape) (x : Ctx) : Uses :=
  let scalar := x.cls == 5
  let aOk := sh.a || x.fA == 0
  let run (k : Nat) (use : Bool) (n : Nat) : List (Nat × Nat) := if use then [(n, k)] else []
  let dRun := run sh.nd (!sh.dp) x.fD
  let wp := if sh.dp then [x.fD] else []
  let aRun := run sh.na sh.a x.fA
  if x.isI then
    let ok := aOk && (!sh.dp || decide (x.fD < 8))
    if scalar then { ok, s := aRun, ws := dRun, wp } else { ok, v := aRun, wv := dRun, wp }
  else
    let ok := aOk && (sh.b || (x.fB == 0 && !x.bs)) && (!scalar || !x.bs)
      && (sh.c != .none || x.fC == 0) && (sh.c != .pred || decide (x.fC < 8))
      && sh.mods.contains x.mod && fld x.w 53 11 == 0 && (!sh.dp || decide (x.fD < 8))
    let bRun := run sh.nb sh.b x.fB
    let cRun := run sh.nd (sh.c == .reg) x.fC
    let p := if sh.c == .pred then [x.fC] else []
    if scalar then { ok, s := aRun ++ bRun ++ cRun, p, ws := dRun, wp }
    else if x.bs then { ok, v := aRun ++ cRun, s := bRun, p, wv := dRun, wp }
    else { ok, v := aRun ++ bRun ++ cRun, p, wv := dRun, wp }

/-! ## Integer and scalar instructions (R78, R81) -/

/-- A per-lane instruction: D of each lane whose guard holds gets f of MOD, A, B and C (R75, R78). -/
def Ctx.vector (x : Ctx) (f : Nat → Word → Word → Word → Word) : Device :=
  x.done (x.g.setVs (lanesOf x.act) x.fD (fun l => f x.mod (x.g.v l x.fA) (x.srcB l) (x.g.v l x.fC)))

/-- A scalar instruction: executes once where the guard holds in an active lane (R76, R81). -/
def Ctx.scalar (x : Ctx) (f : Nat → Word → Word → Word → Word) : Device :=
  if x.act == 0 then x.done x.g
  else x.done (x.g.setS x.fD (f x.mod (x.g.s x.fA) x.scalB (x.g.s x.fC)))

/-- An integer opcode in both of its classes. -/
def Ctx.integer (f : Nat → Word → Word → Word → Word) (x : Ctx) : Device :=
  if x.cls = 5 then x.scalar f else x.vector f

/-- The row of an integer opcode: class 0x1, and class 0x5 up to 0x14; an I form at OP + 0x80 (R77, R81). -/
def intRow (op : Nat) (iForm : Bool) (w : Nat) : Bool :=
  let ops := if iForm then [op, op + 0x80] else [op]
  isWord 0x1 ops w || (decide (op ≤ 0x14) && isWord 0x5 ops w)

/-- An integer instruction of one opcode. -/
def integerOp (op : Nat) (iForm : Bool) (sh : Shape) (f : Nat → Word → Word → Word → Word)
    (pane slot : Nat) (w : DWord) (s : Device) : Host.Outcome Device Fault Refusal :=
  krycha 8 (intRow op iForm) sh.uses (Ctx.integer f) pane slot w.toNat 0 s

/-- The mask of the lanes in which a condition holds. -/
def maskWhere (lanes : List Nat) (c : Nat → Bool) : Mask := maskOf (lanes.filter c)

/-! ## Floating point (R79, R80) -/

/-- The row of a floating-point opcode in some of the classes 0x2 FP32, 0x3 FP64 and 0x4 FP16. -/
def fpRow (classes : List Nat) (op : Nat) (iForm : Bool) (w : Nat) : Bool :=
  classes.any (fun c => isWord c (if iForm && !(c == 4 && op == 0x08) then [op, op + 0x80] else [op]) w)

/-- The number of v registers of an operand in a class: a pair in FP64 (R80). -/
def fpCount (cls : Nat) : Nat := if cls = 3 then 2 else 1

/-- A binary32 immediate widened exactly to binary64 (R77). A NaN keeps its sign and fraction. Log entry 20 (DEDUCED). -/
def widenImm (imm : Nat) : Nat :=
  if fp32.isNan imm then fp64.signed (bit imm 31) (2047 * 2 ^ 52 + imm % 2 ^ 23 * 2 ^ 29) else (fpConvert fp32 fp64 .rne imm).1

/-- Operand A of a lane in the class. -/
def Ctx.fpA (x : Ctx) (lane : Nat) : Nat := x.g.vWide lane x.fA (fpCount x.cls)

/-- Operand B of a lane in the class: the immediate, s registers when BS = 1, or v registers (R77). -/
def Ctx.fpB (x : Ctx) (lane : Nat) : Nat :=
  if x.isI then (if x.cls = 3 then widenImm x.imm else x.imm)
  else if x.bs then x.g.sWide x.fB (fpCount x.cls)
  else x.g.vWide lane x.fB (fpCount x.cls)

def Ctx.fpC (x : Ctx) (lane : Nat) : Nat := x.g.vWide lane x.fC (fpCount x.cls)

/-- The format that a class and MOD[2] select (R80). -/
def fpFmt (cls mod : Nat) : Fmt :=
  match cls with
  | 3 => fp64
  | 4 => if bit mod 2 then bf16 else fp16
  | _ => fp32

/-- A result of the class and its flags from an operation of one format: in the FP16 class on both halves, the low half
first (R80). -/
def fpLane (cls : Nat) (op : Nat → Nat → Nat → Nat × Flags5) (a b c : Nat) : Nat × Flags5 :=
  if cls = 4 then
    let lo := op (fld a 0 16) (fld b 0 16) (fld c 0 16)
    let hi := op (fld a 16 16) (fld b 16 16) (fld c 16 16)
    (lo.1 + 2 ^ 16 * hi.1, lo.2 ||| hi.2)
  else op a b c

/-- A per-lane floating-point instruction: D of each lane whose guard holds gets its result, and the group's sticky flags
those of every result (R75, R79). -/
def Ctx.fpVector (x : Ctx) (nd : Nat) (f : Nat → Nat × Flags5) : Device :=
  let lanes := lanesOf x.act
  let g := lanes.foldl (fun h l => h.setVWide l x.fD (f l).1 nd) x.g
  x.done (g.raiseFlags (unionFlags (lanes.map (fun l => (f l).2))))

/-- The MOD values of an arithmetic opcode: MOD[1:0] rounds; in the FP16 class only 0 and 1, and MOD[2] selects BF16 (R79,
R80). -/
def fpMods (cls : Nat) (rounds : Bool) : List Nat :=
  if cls = 4 then (if rounds then [0, 1, 4, 5] else [0, 4]) else (if rounds then [0, 1, 2, 3] else [0])

/-- The shape of a floating-point opcode in the class of a word. -/
def fpShape (x : Ctx) (b : Bool) (c : ThirdSource) (rounds : Bool) : Shape :=
  let n := fpCount x.cls
  { b, c, mods := fpMods x.cls rounds, nd := n, na := n, nb := n }

/-- A floating-point instruction of one opcode: `f` maps the format, the rounding and the operands to the result. -/
def fpOp (classes : List Nat) (op : Nat) (iForm b : Bool) (c : ThirdSource) (rounds : Bool)
    (f : Fmt → Rm → Nat → Nat → Nat → Nat × Flags5) (pane slot : Nat) (w : DWord) (s : Device) :
    Host.Outcome Device Fault Refusal :=
  krycha 8 (fpRow classes op iForm) (fun x => (fpShape x b c rounds).uses x)
    (fun x => x.fpVector (fpCount x.cls) (fun l =>
      fpLane x.cls (f (fpFmt x.cls x.mod) (rmOf (x.mod % 4))) (x.fpA l) (x.fpB l) (x.fpC l)))
    pane slot w.toNat 0 s

end Sys2Proof.Machine
end

