-- ==== Sys2Proof/Machine/MatrixShape.lean ====
section
/-! DEFINITION. The shape of a matrix instruction: its fields (Tables 04-11, 04-12), its fold into tiles (R101), and the
local-store ranges that it reads and writes (R89, R90, R108, R112). -/

namespace Sys2Proof.Machine

/-- A matrix instruction with the values of its s registers (R76): opcode 0 mma, 1 acc.ld, 2 acc.st, 3 acc.drain. -/
structure Mx where
  op   : Nat
  acc  : Nat
  grp  : Nat
  opn  : Bool
  ta   : Bool
  tb   : Bool
  fmt  : Nat
  am   : Nat
  m    : Nat
  n    : Nat
  k    : Nat
  fuse : Nat
  sa   : Nat
  sb   : Nat
  ss   : Nat
  ldA  : Nat
  ldB  : Nat
  deriving DecidableEq, Repr

/-- The fields of the two words, with the values of SA, SB, SS and SLD. -/
def mxOf (w0 w1 sa sb ss sld : Nat) : Mx :=
  { op := opOf w0, acc := fld w0 16 6, grp := fld w0 22 3, opn := bit w0 25, ta := bit w0 26, tb := bit w0 27,
    fmt := fld w0 28 4, am := fld w0 32 2, m := fld w0 40 8, n := fld w0 48 8, k := fld w1 24 12, fuse := fld w1 24 4,
    sa, sb, ss, ldA := sld % 2 ^ 16, ldB := sld / 2 ^ 16 % 2 ^ 16 }

def MqEntry.mx (e : MqEntry) : Mx := mxOf e.w0 e.w1 e.sa e.sb e.ss e.sld

/-- Columns of an array step: 64 in A16, else 32 (R101). -/
def Mx.tn (x : Mx) : Nat := if x.am = 1 then 64 else 32
def Mx.tilesM (x : Mx) : Nat := ceilDiv x.m 32
def Mx.tilesN (x : Mx) : Nat := ceilDiv x.n x.tn
def Mx.tiles (x : Mx) : Nat := x.tilesM * x.tilesN

/-- Bytes of a native element: 2 in A16, else 4 (R101). -/
def Mx.e (x : Mx) : Nat := if x.am = 1 then 2 else 4

/-- The accumulator tiles that the instruction names. -/
def Mx.tileList (x : Mx) : List Nat := span x.acc (x.acc + x.tiles)

/-- Bits of an operand element by FMT (Table 04-12). -/
def fmtBits (fmt : Nat) : Nat :=
  if fmt ≤ 1 then 16 else if fmt ≤ 7 || fmt == 0xB then 8 else if fmt ≤ 9 then 6 else 4

/-- Whether a format has MX block scales. -/
def isMx (fmt : Nat) : Bool := decide (6 ≤ fmt ∧ fmt ≤ 10)

/-- The rows of a rectangle in local store: base and length of each. -/
def rectRows (base rows stride bytes : Nat) : List (Nat × Nat) := (List.range rows).map (fun i => (base + i * stride, bytes))

/-- Bytes of an output element of acc.drain (Table 04-12). -/
def outBytes (fmt : Nat) : Nat := if fmt ≤ 1 then 2 else if fmt ≤ 3 then 1 else 4

/-- Bytes of an auxiliary or bias element (R112). -/
def auxBytes (fmt : Nat) : Nat := if fmt == 2 || fmt == 3 then 2 else outBytes fmt

/-- The offset of the group record of acc.ld and acc.st (R108). -/
def Mx.record (x : Mx) : Nat := if x.ldA = 0 then x.sa + 4096 * x.tiles else x.sa + 32 * x.tilesM * x.ldA

/-- The ranges of tile data and record of acc.ld and acc.st (R108). -/
def Mx.tileRanges (x : Mx) : List (Nat × Nat) :=
  (if x.ldA = 0 then [(x.sa, 4096 * x.tiles)] else rectRows x.sa (32 * x.tilesM) x.ldA (128 * x.tilesN)) ++ [(x.record, 32)]

/-- The operand and scale ranges of an mma (R89, R90). -/
def Mx.operandRanges (x : Mx) : List (Nat × Nat) :=
  if x.m = 0 || x.n = 0 || x.k = 0 then []
  else
    let b := fmtBits x.fmt
    let a := if x.ta then rectRows x.sa x.k x.ldA (ceilDiv (x.m * b) 8) else rectRows x.sa x.m x.ldA (ceilDiv (x.k * b) 8)
    let bb := if x.tb then rectRows x.sb x.n x.ldB (ceilDiv (x.k * b) 8) else rectRows x.sb x.k x.ldB (ceilDiv (x.n * b) 8)
    a ++ bb ++ (if isMx x.fmt then [(x.ss, (x.m + x.n) * x.k / 32)] else [])

/-- The auxiliary or bias range of an acc.drain (R112). -/
def Mx.auxRanges (x : Mx) : List (Nat × Nat) :=
  if x.m = 0 || x.n = 0 then []
  else if 4 ≤ x.fuse && x.fuse ≤ 6 then rectRows x.sb x.m x.ldB (x.n * auxBytes x.fmt)
  else if x.fuse = 7 then [(x.sb, x.n * auxBytes x.fmt)]
  else []

def Mx.outRanges (x : Mx) : List (Nat × Nat) := if x.n = 0 then [] else rectRows x.sa x.m x.ldA (x.n * outBytes x.fmt)

/-- What the instruction reads of local store. -/
def Mx.reads (x : Mx) : List (Nat × Nat) :=
  match x.op with
  | 0 => x.operandRanges
  | 1 => x.tileRanges
  | 3 => x.auxRanges
  | _ => []

/-- What the instruction writes of local store. -/
def Mx.writes (x : Mx) : List (Nat × Nat) :=
  match x.op with
  | 2 => x.tileRanges
  | 3 => x.outRanges
  | _ => []

/-- Whether two byte ranges meet. -/
def rangesMeet (a b : Nat × Nat) : Bool := decide (a.1 < b.1 + b.2 ∧ b.1 < a.1 + a.2)

/-- The entries of a group in the matrix queue. -/
def Pane.entriesOf (p : Pane) (slot : Nat) : List MqEntry :=
  p.mq.filter (fun e => e.slot == slot && (SMap.find p.groups slot).map (·.cohort) == some e.cohort)

/-- An earlier acc.drain or acc.st of the same group that still waits in the queue and will write in a range: a read of it
waits, so that the drain is visible to the group (R115). -/
def Pane.drainPending (p : Pane) (slot : Nat) (r : Nat × Nat) : Bool :=
  (p.entriesOf slot).any (fun e => e.mx.writes.any (rangesMeet r))

/-- An earlier matrix instruction of the same group that still waits in the queue and will read in a range: a store into
it waits (R199). -/
def Pane.readPending (p : Pane) (slot : Nat) (r : Nat × Nat) : Bool :=
  (p.entriesOf slot).any (fun e => e.mx.reads.any (rangesMeet r))

/-- Whether a group still has an acc.drain or acc.st in the queue (Table 08-4, .pane). -/
def Pane.drainsBefore (p : Pane) (slot req : Nat) : Bool := (p.entriesOf slot).any (fun e => decide (2 ≤ e.mx.op ∧ e.stamp ≤ req))

end Sys2Proof.Machine
end

