-- ==== Sys2Proof/Machine/Access.lean ====
section
/-! DEFINITION. What the memory class shares: address checks (R82), what a fence, a release and an acquire wait for (R189,
R190, R194–R196), the pane cache (R55, R185, R186), and outstanding loads and requests (R184). -/

namespace Sys2Proof.Machine

/-! ## Exceptions of lanes -/

/-- The status of an address exception (Table 04-15). -/
def excStatus (code : Nat) : Nat :=
  if code = 0x24 ∨ code = 0x25 then stTranslation
  else if code = 0x20 ∨ code = 0x26 then stAccess
  else if code = 0x27 then stPoison
  else stMalformed

/-- Of the exceptions of the lanes, the one listed first in Table 04-15 and the lanes that raise it (R93). -/
def firstFault (fs : List (Nat × Option Nat)) : Option (Nat × Mask) :=
  match fs.filterMap Prod.snd with
  | [] => none
  | c :: cs =>
    let code := cs.foldl Nat.min c
    some (code, maskOf ((fs.filter (fun f => f.2 == some code)).map Prod.fst))

/-- The address check of a local-store access (R56, R82). -/
def Pane.lsFault (p : Pane) (size off : Nat) : Option Nat :=
  if off % size != 0 then some 0x23 else if !p.populated off size then some 0x24 else none

/-- The address check of a memory access (R82, R154, R281). -/
def Device.memFault (s : Device) (part size va : Nat) (k : AccessKind) : Option Nat :=
  if va % size != 0 then some 0x23
  else
    match s.translate part va k with
    | .error e => some (if e = stAccess then 0x26 else 0x25)
    | .ok t => if t.map.kind = 1 && decide (doorbellBytes ≤ t.off) then some 0x25 else none

/-! ## What a group waits for -/

/-- A remote operation of a group that has not completed. -/
def Device.groupOps (s : Device) (pane slot cohort : Nat) : List RemOp :=
  (s.fabric.ops.map Prod.snd).filter (fun o => o.pane == pane && o.slot == slot && o.cohort == cohort)

/-- Whether an operation reads: get and the atomics. -/
def RemOp.isRead (o : RemOp) : Bool := o.kind == 1 || decide (8 ≤ o.kind)

/-- Whether an operation's target lies on this chip (Table 08-4). -/
def Device.onChip (s : Device) (o : RemOp) : Bool := fld o.faddr 52 12 == s.chip

/-- What a full or release fence waits for has come, of the accesses that are earlier than it (Table 08-4): scope 0 .group, 1 .pane, 2 .dev,
3 .sys. -/
def Ctx.metBefore (x : Ctx) (r : Release) : Bool :=
  let ops := (x.s.groupOps x.pane x.slot x.g.cohort).filter (fun o => decide (o.order < r.op))
  x.g.loads.all (fun l => decide (r.req < l.id)) && ops.all (fun o => !o.isRead)
    && (decide (r.scope < 1) || (!(x.s.pane x.pane).drainsBefore x.slot r.req && ops.all (fun o => !x.s.onChip o)))
    && (decide (r.scope < 2) || x.g.stores.all (fun id => decide (r.req < id)))
    && (decide (r.scope < 3) || ops.isEmpty)

/-- A fence of a scope at this point. -/
def Ctx.fenceHere (x : Ctx) (scope : Nat) : Release := { scope, req := x.s.mem.nextReq, op := x.s.fabric.nextOp }

/-- What a full fence or a release of a scope waits for now has come (R189, R195). -/
def Ctx.fenceMet (x : Ctx) (scope : Nat) : Bool := x.metBefore (x.fenceHere scope)

/-- An earlier release fence of the group still holds its later writes (R189). -/
def Ctx.releasing (x : Ctx) : Bool := x.g.releases.any (fun r => !x.metBefore r)

/-- Whether a path waits on a counter. -/
def Path.onCounter (p : Path) : Bool :=
  match p.st with
  | .counter _ _ _ _ _ => true
  | _ => false

/-- What an acquire-only fence waits for has come: every earlier read has returned and every earlier wait.ctr has completed
(R189). -/
def Ctx.readsMet (x : Ctx) : Bool :=
  x.g.loads.isEmpty && (x.s.groupOps x.pane x.slot x.g.cohort).all (fun o => !o.isRead)
    && x.g.paths.all (fun p => !p.onCounter)

/-- The block-form gets of a group that are still out (R50, R196). -/
def Device.blockGets (s : Device) (pane slot cohort : Nat) : List RemOp :=
  (s.groupOps pane slot cohort).filter (fun o => o.block && o.kind == 1)

/-- Whether an acquire of the group has not returned its value yet: it holds later accesses (R196). -/
def Ctx.acquiring (x : Ctx) : Bool :=
  x.g.loads.any (·.acquire) || (x.s.blockGets x.pane x.slot x.g.cohort).any (·.acquire)

/-- The loads and gets of the group that are out, in the lane form and the block form; an amo is neither (R50, R92). Log entry 141 (DEDUCED). -/
def Ctx.outstanding (x : Ctx) : Nat :=
  (x.g.loads.filter (fun l => !l.amo)).length + (x.s.blockGets x.pane x.slot x.g.cohort).length

/-- The instruction is held: the group tries again later (R50). Log entry 11 (DESIGN CHOICE). -/
def Ctx.hold (x : Ctx) : Device := x.s

/-! ## The pane cache -/

/-- An acquire at .dev or .sys scope clears every valid bit (R185). -/
def Pane.clearCache (p : Pane) : Pane := { p with cache := [], clears := p.clears + 1 }

/-- The 128-byte lines that the cache has room for (R54, R55). -/
def Pane.cacheLines (p : Pane) : Nat := (12 - p.split) * 2048

/-- A sector installed: a new line takes the place of another, freely chosen, when the cache is full. -/
def Device.install (s : Device) (pane key : Nat) (data : List Byte) : Device :=
  let p := s.pane pane
  let lines := distinct (p.cache.map (fun kv => kv.1 / 4))
  if p.cacheLines = 0 then s
  else if lines.contains (key / 4) || decide (lines.length < p.cacheLines) then
    s.setPane pane { p with cache := SMap.put p.cache key data }
  else
    let (n, t) := s.draw
    let victim := lines.getD (n % lines.length) 0
    t.setPane pane { p with cache := SMap.put (p.cache.filter (fun kv => kv.1 / 4 != victim)) key data }

/-- A cached sector takes stored bytes (R55, R186). -/
def Pane.updateCached (p : Pane) (key : Nat) (writes : List (Nat × Byte)) : Pane :=
  match SMap.find p.cache key with
  | none => p
  | some d => { p with cache := SMap.put p.cache key (writes.foldl (fun d w => d.set w.1 w.2) d) }

def Pane.dropCached (p : Pane) (keys : List Nat) : Pane :=
  { p with cache := p.cache.filter (fun kv => !keys.contains kv.1) }

/-- Fills under way for sectors whose valid bits are cleared, or that a store of the pane has written, are installed invalid (R186). -/
def Device.markStale (s : Device) (pane : Nat) (keys : List Nat) : Device :=
  { s with mem := { s.mem with reqs := s.mem.reqs.map (fun r =>
      if r.pane == pane && r.load.isSome && keys.contains (sectorKey r.owner r.pool 0 r.off) then { r with stale := true }
      else r) } }

/-- A copy or remote write by the pane that wrote sectors clears their valid bits before its completion is reported
(R185, R186). -/
def Device.dropSectors (s : Device) (pane : Nat) (keys : List Nat) : Device :=
  if keys.isEmpty then s else (s.modPane pane (·.dropCached keys)).markStale pane keys

/-! ## Loads -/

/-- A loaded value as the register takes it (Table 04-7). -/
def extended (size : Nat) (sx : Bool) (v : Nat) : Nat :=
  if sx && decide (size < 4) then ofInt 32 (sfld v 0 (8 * size)) else v

/-- The registers that a datum of a size takes. -/
def regsOf (size : Nat) : Nat := if size ≤ 4 then 1 else size / 4

/-- A loaded value written for a lane, or for the group. -/
def Group.putLoaded (g : Group) (scalar sx : Bool) (dst size lane v : Nat) : Group :=
  if scalar then g.setSWide dst (extended size sx v) (regsOf size)
  else g.setVWide lane dst (extended size sx v) (regsOf size)

/-- Every value of an outstanding load written. -/
def Group.putLoad (g : Group) (l : Load) : Group :=
  l.got.foldl (fun h kv => h.putLoaded l.scalar l.sx l.dst l.size kv.1 kv.2) g

/-- A group whose threads have all exited ends, and its registers and slot are free (R44, R45). Its cohort remembers the loads
and stores that are still out, whose exceptions still stop it (R93). Log entry 23 (DEDUCED). -/
def Device.endGroup (s : Device) (pane slot : Nat) : Device :=
  match s.group? pane slot with
  | none => s
  | some g =>
    if !g.paths.isEmpty then s
    else
      let t := s.modPane pane (fun p => { p with groups := SMap.del p.groups slot })
      if g.loads.isEmpty && g.stores.isEmpty then t
      else
        let stub : Group := { cohort := g.cohort, gic := g.gic, width := g.width, vcount := g.vcount, loads := g.loads, stores := g.stores }
        t.modCohort g.cohort (fun c => { c with left := c.left ++ [(slot, stub)] })

/-- What the end of a load does beside its registers: its lanes' exception (R92, R161), or the clearing of an acquire (R196). -/
def Device.closeLoad (s : Device) (pane slot : Nat) (g : Group) (l : Load) : Device :=
  if l.bad != 0 then
    s.except pane slot g (if l.remote then 0x2B else 0x27) (if l.remote then l.status else stPoison) l.pc l.bad
  else if l.acquire then s.modPane pane Pane.clearCache
  else s

/-- An outstanding load that waits for nothing more: its values are written, or the exception of its lanes is raised; an
acquire then clears the pane cache, and lanes whose remote atomic failed are set aside (R92, R161, R196). -/
def Device.finishLoad (s : Device) (pane slot : Nat) (l : Load) : Device :=
  match s.group? pane slot with
  | none => s
  | some g =>
    let g1 : Group := { g with loads := g.loads.filter (fun k => k.id != l.id) }
    let g2 := if l.bad != 0 then g1 else (g1.putLoad l).failWhereverTheyAre l.failed
    (s.setGroup pane slot g2).closeLoad pane slot g2 l

/-- A change of a load with an id among the outstanding ones. -/
def Group.modLoad (g : Group) (id : Nat) (l : Load) : Group :=
  { g with loads := g.loads.map (fun k => if k.id == id then l else k) }

/-- A group that has ended has nothing out any more. -/
def Group.isStub (g : Group) : Bool := g.loads.isEmpty && g.stores.isEmpty

/-- A change of a load that a group left behind when it ended. -/
def Device.modLeft (s : Device) (pane slot id : Nat) (f : Load → Load) : Device :=
  let has (e : Nat × Group) : Bool := e.1 == slot && e.2.loads.any (fun l => l.id == id)
  match s.cohorts.findSome? (fun kv => if kv.2.pane == pane then (kv.2.left.find? has).map (fun e => (kv.1, e.2)) else none) with
  | none => s
  | some (ci, g) =>
    match g.loads.find? (fun l => l.id == id) with
    | none => s
    | some l =>
      let l' := f l
      let swap (h : Group) : Device :=
        s.modCohort ci (fun c => { c with left := (c.left.map (fun e => if has e then (e.1, h) else e)).filter (fun e => !e.2.isStub) })
      if !l'.waiting.isEmpty then swap (g.modLoad id l')
      else (swap { g with loads := g.loads.filter (fun k => k.id != id) }).closeLoad pane slot g l'

/-- A change of the outstanding load with an id; the load ends when it waits for nothing more. -/
def Device.modLoad (s : Device) (pane slot id : Nat) (f : Load → Load) : Device :=
  match (s.group? pane slot).bind (fun g => (g.loads.find? (fun l => l.id == id)).map (fun l => (g, l))) with
  | none => s.modLeft pane slot id f
  | some (g, l) =>
    let l' := f l
    let t := s.setGroup pane slot (g.modLoad id l')
    if l'.waiting.isEmpty then t.finishLoad pane slot l' else t

end Sys2Proof.Machine
end

