-- ==== Sys2Proof/Machine/Counters.lean ====
section
/-! DEFINITION. Arrival counters (R217, R218, R466), the counter class (R87, Table 04-10), and the end of a wait (R36,
R87, R197, R220). -/

namespace Sys2Proof.Machine

/-! ## The counter word (Table 09-4) -/

def ctrCount (w : Nat) : Nat := fld w 0 32
def ctrStatus (w : Nat) : Nat := fld w 32 8
def ctrBad (w : Nat) : Nat := fld w 40 8

/-- The status that a counter records after an increment (R217). -/
def recordStatus (old status : Nat) : Nat := if status = stOk then old else if old = 0 then status else min old status

/-- An increment of a counter word: COUNT and NBAD saturate; STATUS is the lowest non-OK code recorded (R217). -/
def bump (w value status : Nat) : Nat :=
  min (ctrCount w + value) (2 ^ 32 - 1) + 2 ^ 32 * recordStatus (ctrStatus w) status
    + 2 ^ 40 * (if status = stOk then ctrBad w else min (ctrBad w + 1) 255) + 2 ^ 48 * fld w 48 16

/-- A counter: a word of memory by virtual address, or of a pane's local store. -/
structure CtrLoc where
  memory : Bool
  pane   : Nat
  addr   : Nat
  deriving DecidableEq, Repr

/-- A counter increment that failed at the word's server is counted, and COUNTER_LOST is raised once for each word until
software next writes it (R466). -/
def Device.counterLost (s : Device) (part key addr status : Nat) : Device :=
  let t := s.odCount part 0x6130 8 0 1
  if (t.part part).lost.contains key then t
  else (t.modPart part (fun x => { x with lost := x.lost ++ [key] })).raisePart part 0x6003 2 [(addr, 8), (status, 1)]

/-- The address of a local-store word as its event names it. Log entry 48 (DEDUCED). -/
def Device.lsWordAddress (s : Device) (pane off : Nat) : Nat := s.chip * 2 ^ 52 + 2 ^ 48 + pane * 2 ^ 24 + off

/-- A counter word that the FZ9 rewrites, or the status of the failure at the word's server (R466). -/
def Device.rewriteCounter (s : Device) (part : Nat) (c : CtrLoc) (f : Nat → Nat) : Except Nat Device :=
  if c.memory then
    match s.translate part c.addr .write with
    | .error e => .error e
    | .ok t =>
      if t.map.kind = 1 then .ok (s.ignoreAccess part t.map.queue)
      else
        match s.readHome t.owner t.pool t.off 8 with
        | none => .error stPoison
        | some b =>
          let before := (s.part t.owner).lost
          let r := s.writeSector t.owner t.pool t.off (bytesOf (f (ofBytes b)) 8) t.map.view part
          if r.2 = stOk then .ok (r.1.modPart t.owner (fun x => { x with lost := before })) else .error r.2
  else
    let p := s.pane c.pane
    if !p.populated c.addr 8 then .error stTranslation
    else if p.lsBad c.addr 8 then .error stPoison
    else .ok (s.setPane c.pane (p.putLs c.addr (bytesOf (f (ofBytes (p.readLs c.addr 8))) 8)))

/-- The partition in whose memory or local store a counter word lies, and the word's mark for COUNTER_LOST. -/
def Device.wordOwner (s : Device) (part : Nat) (c : CtrLoc) : Nat × Nat :=
  if c.memory then
    match (s.part part).mapping? c.addr with
    | some m => if m.kind = 0 then (m.owner, memKey m.owner m.pool 0 (m.poff + (c.addr - m.va))) else (part, lostVa c.addr)
    | none => (part, lostVa c.addr)
  else (((s.pane c.pane).part).getD part, lostLs c.pane c.addr)

/-- An increment fails at its word's server (R466). -/
def Device.loseIncrement (s : Device) (part : Nat) (c : CtrLoc) (status : Nat) : Device :=
  let o := s.wordOwner part c
  s.counterLost o.1 o.2 (if c.memory then c.addr else s.lsWordAddress c.pane c.addr) status

/-- An increment that the FZ9 makes, or its loss (R217, R466). Log entry 47 (DEDUCED). -/
def Device.increment (s : Device) (part : Nat) (c : CtrLoc) (value status : Nat) : Device :=
  match s.rewriteCounter part c (fun w => bump w value status) with
  | .ok t => t
  | .error e => s.loseIncrement part c e

/-- A counter word as a wait or a test sees it at its server: its value, poison, or no value where it no longer
translates. -/
def Device.counterWord (s : Device) (part : Nat) (c : CtrLoc) (sash : Nat) : Option Nat × Bool :=
  if c.memory then
    match s.translate part c.addr .read with
    | .error _ => (none, false)
    | .ok t =>
      let r := s.readTarget part t 8 sash
      if r.2 then (none, true) else (some (ofBytes r.1), false)
  else
    let p := s.pane c.pane
    if !p.populated c.addr 8 then (none, false)
    else if p.lsBad c.addr 8 then (none, true)
    else (some (ofBytes (p.readLs c.addr 8)), false)

/-- What the reading of a range leaves: its sectors in their sills' buffers, and a doorbell page has ignored an access (R158, R281). -/
def Device.noteRead (s : Device) (part : Nat) (t : Target) (len sash : Nat) : Device :=
  if t.map.kind = 1 then s.ignoreAccess part t.map.queue else s.touchRead part t len sash

/-- A counter word has been read at its server. -/
def Device.sawWord (s : Device) (part : Nat) (c : CtrLoc) (sash : Nat) : Device :=
  if c.memory then
    match s.translate part c.addr .read with
    | .ok t => s.noteRead part t 8 sash
    | .error _ => s
  else s

/-! ## The counter class (Table 04-10) -/

def Ctx.cSpace (x : Ctx) : Bool := bit x.w 22

/-- The counter that the instruction names. -/
def Ctx.counter (x : Ctx) : CtrLoc :=
  { memory := x.cSpace, pane := x.pane, addr := if x.cSpace then x.g.sWide (fld x.w 16 6) 2 else (x.g.s (fld x.w 16 6)).toNat }

/-- SB: target count, addend or new count. -/
def Ctx.cValue (x : Ctx) : Nat := (x.g.s (fld x.w 24 6)).toNat

/-- The check of a counter word: SPACE, TMO and SD belong to wait.ctr, SPACE and PD to test.ctr (R73, Table 04-10). -/
def ctrUses (x : Ctx) : Uses :=
  let op := opOf x.w
  let ok := !bit x.w 23 && fld x.w 30 2 == 0 && fld x.w 42 6 == 0 && fld x.w 51 13 == 0
    && (decide (op ≤ 1) || !x.cSpace) && (op == 0 || fld x.w 32 10 == 0) && (op == 1 || fld x.w 48 3 == 0)
  { ok, s := [(fld x.w 16 6, if x.cSpace then 2 else 1), (fld x.w 24 6, 1)], ws := if op = 0 then [(fld x.w 36 6, 1)] else []
    wp := if op = 1 then [fld x.w 48 3] else [] }

/-- The address check of a counter instruction (R87). -/
def Ctx.counterFault (x : Ctx) : Option Nat :=
  if x.cSpace then x.s.memFault x.part 8 x.counter.addr .read else (x.s.pane x.pane).lsFault 8 x.counter.addr

/-- A store of the same pane to the counter's sector that has not reached its sill (R184). -/
def Ctx.ownStoreOn (x : Ctx) : Bool :=
  x.cSpace &&
    match x.s.translate x.part x.counter.addr .read with
    | .ok t => x.s.mem.reqs.any (fun r => r.pane == x.pane && r.load.isNone && !r.served
        && sectorKey r.owner r.pool 0 r.off == sectorKey t.owner t.pool 0 t.off)
    | .error _ => false

/-- A counter instruction with its address checked and what holds it met; `writes` for ctr.add and ctr.set. -/
def Ctx.onCounter (x : Ctx) (writes : Bool) (k : Ctx → Option Nat → Device) : Device :=
  if x.act == 0 then x.done x.g
  else
    match x.counterFault with
    | some code => x.raise code (excStatus code) x.act
    | none =>
      let p := x.s.pane x.pane
      let a := (x.counter.addr, 8)
      if x.acquiring || x.ownStoreOn || (!x.cSpace && p.drainPending x.slot a) || (writes && (p.readPending x.slot a || x.checkHeld || x.releasing)) then x.hold
      else
        k { x with s := x.s.sawWord x.part x.counter (sashOf x.pane) } (x.s.counterWord x.part x.counter (sashOf x.pane)).1

/-- The timeout of a TMO field in nanoseconds: 0 is the partition's remote-operation timeout, n is 2^(n−1) µs (Tables 04-10,
04-13). -/
def Device.timeoutOf (s : Device) (part tmo : Nat) : Nat := 1000 * (if tmo = 0 then s.odGet part 0x6111 0 else 2 ^ (tmo - 1))

/-- The stack that holds a memory counter. -/
def Device.counterStack (s : Device) (part va : Nat) : Nat :=
  match s.translate part va .read with
  | .ok t => (s.place t.owner t.pool 0 t.off).stack
  | .error _ => 20

/-- The stack of a registered path's counter. -/
def Device.waiterStack (s : Device) (w : Waiter) : Nat :=
  match w with
  | .path pane slot lane =>
    match s.group? pane slot with
    | none => 20
    | some g =>
      match g.pathOf? lane, s.cohort? g.cohort with
      | some p, some c =>
        match p.st with
        | .counter true addr _ _ _ => s.counterStack c.part addr
        | _ => 20
      | _, _ => 20
  | .queue part q =>
    match s.queue? part q with
    | some x => ((x.running.find? (fun r => r.opc == 2)).map (fun r => s.counterStack part r.wctr)).getD 20
    | none => 20

/-- A wait on a memory counter registers with the sill while one of its 4,096 registrations is free (R220). -/
def Device.register (s : Device) (w : Waiter) : Device :=
  let k := s.waiterStack w
  if (s.mem.regs.filter (fun v => s.waiterStack v == k)).length < 4096 then
    { s with mem := { s.mem with regs := s.mem.regs ++ [w] } }
  else s

def Device.unregister (s : Device) (w : Waiter) : Device :=
  { s with mem := { s.mem with regs := s.mem.regs.filter (· != w) } }

/-- wait.ctr: the path blocks, as a switch point, until WAIT_WAKE or WAIT_TIMEOUT; on a poisoned counter it completes at
once with POISON and no acquire (R87). -/
def Ctx.waitBody (x : Ctx) : Device :=
  x.onCounter false (fun x word =>
    let sd := fld x.w 36 6
    match word with
    | none => x.done (x.g.setS sd (BitVec.ofNat 32 stPoison))
    | some _ =>
      let c := x.counter
      let st := PathSt.counter c.memory c.addr x.cValue sd (x.s.now + x.s.timeoutOf x.part (fld x.w 32 4))
      let t := x.s.setGroup x.pane x.slot (x.g.block x.p x.p.mask st 8)
      if c.memory then t.register (.path x.pane x.slot x.p.low) else t)

def execWaitCtr (pane slot : Nat) (w : DWord) (s : State) : Host.Outcome State Fault Refusal := onDevice s fun s =>
  krycha 8 (isWord 0x8 [0x00]) ctrUses Ctx.waitBody pane slot w.toNat 0 s

/-- A counter instruction other than wait.ctr raises the poison exception on a poisoned word (R87). -/
def Ctx.poisonRaise (x : Ctx) : Device := x.raise 0x27 stPoison x.act

/-- test.ctr: PD is true in every active lane when the count has reached SB; true acquires at .sys scope (R87, R197). -/
def Ctx.testBody (x : Ctx) : Device :=
  x.onCounter false (fun x word =>
    match word with
    | none => x.poisonRaise
    | some w =>
      let hit := decide (x.cValue ≤ ctrCount w)
      let g := x.g.setP (fld x.w 48 3) x.p.mask (if hit then BitVec.allOnes 128 else 0)
      x.finish (if hit then x.s.modPane x.pane Pane.clearCache else x.s) g 8)

def execTestCtr (pane slot : Nat) (w : DWord) (s : State) : Host.Outcome State Fault Refusal := onDevice s fun s =>
  krycha 8 (isWord 0x8 [0x01]) ctrUses Ctx.testBody pane slot w.toNat 0 s

/-- A counter word of the pane's local store rewritten by software. -/
def Ctx.putCounter (x : Ctx) (w : Nat) : Device :=
  let s := x.s.modPane x.pane (·.putLs x.counter.addr (bytesOf w 8))
  x.finish (s.clearLostLs x.pane x.counter.addr 8) x.g 8

/-- ctr.add: SB is added to the counter (R87, R217). -/
def Ctx.addBody (x : Ctx) : Device :=
  x.onCounter true (fun x word =>
    match word with
    | none => x.poisonRaise
    | some w => x.putCounter (bump w x.cValue stOk))

def execCtrAdd (pane slot : Nat) (w : DWord) (s : State) : Host.Outcome State Fault Refusal := onDevice s fun s =>
  krycha 8 (isWord 0x8 [0x02]) ctrUses Ctx.addBody pane slot w.toNat 0 s

/-- ctr.set: COUNT is SB; STATUS, NBAD and the RSV bits are zero (R87). -/
def Ctx.setBody (x : Ctx) : Device :=
  x.onCounter true (fun x word =>
    match word with
    | none => x.poisonRaise
    | some _ => x.putCounter x.cValue)

def execCtrSet (pane slot : Nat) (w : DWord) (s : State) : Host.Outcome State Fault Refusal := onDevice s fun s =>
  krycha 8 (isWord 0x8 [0x03]) ctrUses Ctx.setBody pane slot w.toNat 0 s

end Sys2Proof.Machine
end

