-- ==== Sys2Proof/Machine/Wire.lean ====
section
/-! DEFINITION. What a door puts on its lanes and takes from them: header slots and data slots of packets (Table 13-4), synchronisation
cells (Table 13-7), and blocks of four cells with their CRC (R295, Table 13-3). -/

namespace Sys2Proof.Machine

/-! ## Packets (Table 13-4) -/

/-- The 32 bytes of a packet's header slot. -/
def headerSlot (p : Packet) : List Byte :=
  bytesOf (pack [(p.type, 4), (p.vc, 1), (fld p.rsv 0 3, 3), (p.dst, 12), (p.src, 12), (p.job, 16), (p.tid, 20), (p.dlen, 5), (p.sz, 3), (p.ord, 2),
    (p.rce.toNat, 1), (p.sgn.toNat, 1), (p.aop, 4), (p.status, 8), (p.elt, 2), (fld p.rsv 3 2, 2), (p.arg, 32), (p.taddr, 48), (p.space, 4),
    (fld p.rsv 5 4, 4), (p.rctr, 64), (fld p.rsv 9 8, 8)]) 32

/-- The data slots that follow a header: DLEN of a GET counts the slots it asks for (Table 13-5). -/
def dataSlots (type dlen : Nat) : Nat := if type = 2 then 0 else dlen

/-- The slots that a packet takes on a door. -/
def slotsOfPacket (p : Packet) : Nat := 1 + dataSlots p.type p.dlen

/-- A packet as its slots of 32 bytes. -/
def packetSlots (p : Packet) : List (List Byte) :=
  headerSlot p :: pieces 32 (dataSlots p.type p.dlen) (padTo (32 * dataSlots p.type p.dlen) 0 p.data)

/-- The packet that a header slot and its data slots spell, with the data slots carried as poison. -/
def packetOf (slots : List (List Byte)) (poison : List Nat) : Packet :=
  let h := ofBytes (slots.headD [])
  { type := fld h 0 4, vc := fld h 4 1, rsv := pack [(fld h 5 3, 3), (fld h 94 2, 2), (fld h 180 4, 4), (fld h 248 8, 8)],
    dst := fld h 8 12, src := fld h 20 12, job := fld h 32 16, tid := fld h 48 20, dlen := fld h 68 5, sz := fld h 73 3, ord := fld h 76 2,
    rce := bit h 78, sgn := bit h 79, aop := fld h 80 4, status := fld h 84 8, elt := fld h 92 2, arg := fld h 96 32,
    taddr := fld h 128 48, space := fld h 176 4, rctr := fld h 184 64, data := (slots.drop 1).flatten, poison }

/-! ## Synchronisation cells (Table 13-7) -/

/-- The 128 bytes of a synchronisation cell. -/
def cellBytes (c : SyncCell) : List Byte :=
  bytesOf (pack [(c.skind, 8), (c.domain, 16), (c.origin, 12), (c.hops, 4), (c.job, 16), (c.cause, 8), (c.step, 64), (c.txtime, 64),
    (ofInt 64 c.corr, 64), (c.rxtime, 64), (c.payload, 448), (c.rsv, 256)]) 128

/-- The cell that 128 bytes spell. -/
def cellOf (bytes : List Byte) : SyncCell :=
  let h := ofBytes bytes
  { skind := fld h 0 8, domain := fld h 8 16, origin := fld h 24 12, hops := fld h 36 4, job := fld h 40 16, cause := fld h 56 8,
    step := fld h 64 64, txtime := fld h 128 64, corr := sfld h 192 64, rxtime := fld h 256 64, payload := fld h 320 448, rsv := fld h 768 256 }

/-! ## Blocks (Table 13-3) -/

/-- One bit of a CRC-32 register, in the reflected form of IEEE 802.3. -/
def crcBit (c : Nat) : Nat := if c % 2 = 1 then (c / 2) ^^^ 0xEDB88320 else c / 2

/-- The CRC-32 register after one byte. -/
def crcByte (c : Nat) (b : Byte) : Nat := crcBit (crcBit (crcBit (crcBit (crcBit (crcBit (crcBit (crcBit (c ^^^ b.toNat))))))))

/-- CRC-32 of IEEE 802.3 (R295). -/
def crc32 (bytes : List Byte) : Nat := (bytes.foldl crcByte 0xFFFFFFFF) ^^^ 0xFFFFFFFF

/-- Trailer bits [31:0] (Table 13-3). -/
def trailerLow (bseq back : Nat) (nak : Bool) (kinds rsv : Nat) : Nat := pack [(bseq, 11), (back, 11), (nak.toNat, 1), (kinds, 8), (rsv, 1)]

/-- The CRC of a block: over the bytes of its cells and trailer bits [31:0] (R295). -/
def blockCrc (body : List Byte) (bseq back : Nat) (nak : Bool) (kinds rsv : Nat) : Nat :=
  crc32 (body ++ bytesOf (trailerLow bseq back nak kinds rsv) 4)

/-- Whether the CRC of a block that arrives is good. -/
def crcOk (b : Block) : Bool := blockCrc b.body b.bseq b.back b.nak b.kinds b.rsv == b.crc

/-- The four cells of a block, each with its kind: 0 packet, 1 synchronisation, 2 idle, 3 illegal. -/
def cellsOf (b : Block) : List (Nat × List Byte) :=
  [0, 1, 2, 3].map (fun n => (fld b.kinds (2 * n) 2, (b.body.drop (128 * n)).take 128))

/-- The synchronisation cells of a block. -/
def syncCells (b : Block) : List SyncCell := ((cellsOf b).filter (·.1 == 1)).map (fun kc => cellOf kc.2)

/-- The slots of the packet stream in a block. -/
def streamSlots (b : Block) : List (List Byte) := ((cellsOf b).filter (·.1 == 0)).flatMap (fun kc => pieces 32 4 kc.2)

/-- One more slot of a stream: the slots of a packet that has not ended, and the packets that have. A packet's slots follow one another. Log entry 155 (DESIGN CHOICE). -/
def nextSlot (acc : List (List Byte) × List (List (List Byte))) (slot : List Byte) : List (List Byte) × List (List (List Byte)) :=
  let packet := acc.1 ++ [slot]
  let h := ofBytes (packet.headD [])
  if packet.length = 1 + dataSlots (fld h 0 4) (fld h 68 5) then ([], acc.2 ++ [packet]) else (packet, acc.2)

/-- The packets that end in a block, after the slots of one that began before it, and the slots of one that has not ended. -/
def packetsIn (open_ : List (List Byte)) (b : Block) : List Packet × List (List Byte) :=
  let r := (streamSlots b).foldl nextSlot (open_, [])
  ((r.2.zipIdx).map (fun pi => packetOf pi.1 (b.poison.getD pi.2 [])), r.1)

/-- The kinds and the body of a block of up to four cells; idle cells fill it. Log entry 156 (DESIGN CHOICE). -/
def blockOf (cells : List (Nat × List Byte)) : Nat × List Byte :=
  let four := padTo 4 (2, List.replicate 128 0) cells
  (pack (four.map (fun kc => (kc.1, 2))), four.flatMap (·.2))

/-- The blocks of a packet: its slots, NULL slots up to a whole cell, and idle cells up to a whole block. -/
def packetBlocks (p : Packet) : List (Nat × List Byte) :=
  let n := ceilDiv (slotsOfPacket p) 4
  let cells := pieces 128 n (padTo (128 * n) 0 (packetSlots p).flatten)
  (pieces 4 (ceilDiv n 4) (cells.map (fun c => (0, c)))).map blockOf

end Sys2Proof.Machine
end

