-- ==== Sys2Proof/Machine/Fabric.lean ====
section
/-! DEFINITION. The fabric at the source: doors and routes (R291, R301, R303), the transmitter of a door with its replay
buffer (R298), and how a remote operation leaves and completes (R207, R218, R229). -/

namespace Sys2Proof.Machine

/-! ## Doors and routes -/

/-- A door that carries packets and cells (Table 13-1). -/
def DoorState.carries (d : DoorState) : Bool := d == .up4 || d == .up3

def Device.doorUp (s : Device) (d : Nat) : Bool := (s.door d).state.carries

/-- KIND of a door in the door plan in force (R292, Table 13-2): 0 UNUSED, 1 SWITCH, 2 MODULE. -/
def Device.doorKind (s : Device) (d : Nat) : Nat := fld (s.door d).plan 0 2

/-- Row c of the route table (R303). -/
def Device.routeRow (s : Device) (chip : Nat) : Nat := SMap.get s.fabric.route chip 0

/-- The doors of a chip's row that carry packets now, in the order of the rotation (R303). -/
def Device.doorsTo (s : Device) (chip : Nat) : List Nat :=
  let r := SMap.get s.fabric.rot chip 0
  (span r 24 ++ List.range r).filter (fun d => bit (s.routeRow chip) d && s.doorUp d)

/-- Whether a chip can be reached: it is this chip, or a door of its row is up or retrains, in which case its packets wait
(R300, R303). Log entry 56 (DEDUCED). -/
def Device.routed (s : Device) (chip : Nat) : Bool :=
  chip == s.chip || !(s.doorsTo chip).isEmpty
    || (List.range 24).any (fun d => (s.door d).state == .retraining
        && (bit (s.routeRow chip) d || (s.doorKind d == 2 && ((s.door d).peer.map (·.chip)) == some chip)))

/-- The partition of a fabric job number (R211). -/
def Device.jobPart? (s : Device) (job : Nat) : Option Nat :=
  (s.parts.find? (fun kv => kv.2.state != .absent && kv.2.job == job)).map Prod.fst

/-! ## The transmitter of a door (R295, R298, R301) -/

/-- A block leaves a door, or leaves it again, with what its receiver has to say in the trailer (Table 13-3). -/
def Device.emitBlock (s : Device) (door : Nat) (b : TxBlock) : Device :=
  let d := s.door door
  let back := (d.rxNext + 2047) % 2048
  s.emit (.door door b back d.nakOut (blockCrc b.body b.bseq back d.nakOut b.kinds 0))

/-- The next block leaves a door and stays in its replay buffer (R298). -/
def Device.sendBlock (s : Device) (door : Nat) (kindsBody : Nat × List Byte) (packets : List Packet) (cells : List SyncCell) : Device :=
  let b : TxBlock := { bseq := (s.door door).txNext, kinds := kindsBody.1, body := kindsBody.2, packets, cells }
  (s.modDoor door (fun d => { d with txNext := (d.txNext + 1) % 2048, replay := d.replay ++ [b] })).emitBlock door b

/-- A packet leaves a door in blocks of its own, of which the last one ends it. -/
def Device.sendPacket (s : Device) (door : Nat) (p : Packet) : Device :=
  let bs := packetBlocks p
  bs.zipIdx.foldl (fun t bi => t.sendBlock door bi.1 (if bi.2 + 1 = bs.length then [p] else []) []) s

/-- Whether a replay buffer of 1,024 blocks has room for a packet. -/
def Door.roomFor (d : Door) (p : Packet) : Bool := decide (d.replay.length + ceilDiv (slotsOfPacket p) 16 ≤ 1024)

/-- Whether a door's transmitter can send a packet: it holds credit for every slot, and room in its replay buffer (R298, R301). -/
def Door.takes (d : Door) (p : Packet) : Bool :=
  decide (slotsOfPacket p ≤ (if p.vc = 0 then d.credit0 else d.credit1)) && d.roomFor p

/-- The slots that a packet takes are spent. -/
def Door.spend (d : Door) (p : Packet) : Door :=
  if p.vc = 0 then { d with credit0 := d.credit0 - slotsOfPacket p } else { d with credit1 := d.credit1 - slotsOfPacket p }

/-- The CREDIT packet that returns freed slots (R301). Log entry 175 (DESIGN CHOICE). -/
def creditPacket (vc0 vc1 : Nat) : Packet := { type := 0xE, arg := vc0 + 65536 * vc1 }

/-- A door that carries packets returns the slots freed since, as soon as its replay buffer has room (R298, R301). -/
def Device.returnCredits (s : Device) (door : Nat) : Device :=
  let d := s.door door
  let p := creditPacket d.owe0 d.owe1
  if d.state.carries && d.roomFor p && !(d.owe0 == 0 && d.owe1 == 0) then
    (s.modDoor door (fun d => { d with owe0 := 0, owe1 := 0 })).sendPacket door p
  else s

/-- A packet's slots are free again at the receiver that it came by (R301). -/
def Device.freeSlots (s : Device) (door : Nat) (p : Packet) : Device :=
  (s.modDoor door (fun d => if p.vc = 0 then { d with owe0 := d.owe0 + slotsOfPacket p } else { d with owe1 := d.owe1 + slotsOfPacket p })).returnCredits door

/-- The transmitter has credit for slots that its peer has freed. -/
def Device.addCredit (s : Device) (door vc0 vc1 : Nat) : Device :=
  s.modDoor door (fun d => { d with credit0 := d.credit0 + vc0, credit1 := d.credit1 + vc1 })

/-! ## Who goes next (R276, R301, R303) -/

/-- The door that a packet takes: the next of the rotation that can take it (R303). Those beside a resetting sash count as lacking
credit (R391). -/
def Device.doorFor (s : Device) (p : Packet) : Option Nat :=
  (s.doorsTo p.dst).find? (fun d => !s.sashBusy (d / 12) && (s.door d).takes p)

/-- The partition that a packet counts against (Table 12-2). -/
def Device.payer (s : Device) (p : Packet) : Nat := (s.jobPart? p.job).getD 0

/-- The waiting packets that a door can take now, each with its door and partition. -/
def Device.ready? (s : Device) (vc : Nat) : List ((Nat × Packet) × Nat × Nat) :=
  (s.fabric.waiting.filter (fun w => w.2.vc == vc)).filterMap (fun w => (s.doorFor w.2).map (fun d => (w, d, s.payer w.2)))

/-- The waiting packet that goes next: the oldest response, or the oldest request of the partition whose turn it is (R276, R301). -/
def Device.nextWaiting (s : Device) : Option ((Nat × Packet) × Nat × Nat) :=
  match s.ready? 1 with
  | r :: _ => some r
  | [] =>
    match s.ready? 0 with
    | [] => none
    | r :: rest => some (rest.foldl (fun best x => if s.ahead x.2 best.2 then x else best) r)

/-- A packet that waits leaves on a door: its slots are spent, the rotation moves on, and it counts against its partition's share
(R276, R289, R303). -/
def Device.depart (s : Device) (w : Nat × Packet) (door part : Nat) : Device :=
  let p := w.2
  let bytes := 32 * slotsOfPacket p
  let t := { s with fabric := { s.fabric with waiting := s.fabric.waiting.erase w, rot := SMap.put s.fabric.rot p.dst ((door + 1) % 24) } }
  let t := if p.vc = 1 then t else (t.charge door part bytes).serve part 1 bytes (s.now - w.1)
  (t.modDoor door (fun d => d.spend p)).sendPacket door p

/-- Packets that wait for a door leave as long as one can. -/
def Device.drainWaiting (s : Device) : Nat → Device
  | 0 => s
  | fuel + 1 =>
    match s.nextWaiting with
    | none => s
    | some (w, door, part) => (s.depart w door part).drainWaiting fuel

def Device.flushWaiting (s : Device) : Device := s.drainWaiting s.fabric.waiting.length

/-- A packet leaves its unit: over the mesh to this chip, or on a door, for which it may wait (R209, R231). -/
def Device.post (s : Device) (p : Packet) : Device :=
  if p.dst = s.chip then { s with fabric := { s.fabric with arrived := s.fabric.arrived ++ [p] } }
  else ({ s with fabric := { s.fabric with waiting := s.fabric.waiting ++ [(s.now, p)] } }).flushWaiting

/-! ## Operations at their source -/

def Device.op? (s : Device) (tid : Nat) : Option RemOp := SMap.find s.fabric.ops tid

def Device.setOp (s : Device) (o : RemOp) : Device :=
  { s with fabric := { s.fabric with ops := SMap.put s.fabric.ops o.tid o } }

def Device.dropOp (s : Device) (tid : Nat) : Device :=
  { s with fabric := { s.fabric with ops := SMap.del s.fabric.ops tid } }

/-- The next transaction tag that no operation uses (R296). -/
def Device.freshTid (s : Device) : Nat :=
  ((List.range (s.fabric.ops.length + 1)).map (fun i => (s.fabric.nextTid + i) % 2 ^ 20)).find?
    (fun t => (s.op? t).isNone) |>.getD 0

/-- The outstanding load that an operation belongs to takes its result: a value, a failure of its atomic, or a status other
than OK (R92). Log entry 173 (DESIGN CHOICE). -/
def Device.endLane (s : Device) (o : RemOp) (status value : Nat) (failed : Bool) : Device :=
  match s.group? o.pane o.slot with
  | none => s
  | some g =>
    match g.loads.find? (fun l => l.remote && l.waiting.contains o.tid) with
    | none => s
    | some l =>
      s.modLoad o.pane o.slot l.id (fun l =>
        let l1 : Load := { l with waiting := l.waiting.filter (· != o.tid) }
        if status = stOk then
          { l1 with got := SMap.put l1.got o.lane value, failed := if failed then l1.failed ||| laneBit o.lane else l1.failed }
        else { l1 with bad := l1.bad ||| laneBit o.lane, status := recordStatus l1.status status })

/-! ### The resend buffer (R223) -/

/-- The operations of a pane in flight. -/
def Device.paneOps (s : Device) (pane : Nat) : List RemOp :=
  (s.fabric.ops.map Prod.snd).filter (fun o => o.pane == pane && !o.stats)

/-- An operation put in its place by order. -/
def insertOp (o : RemOp) : List RemOp → List RemOp
  | [] => [o]
  | q :: qs => if o.order ≤ q.order then o :: q :: qs else q :: insertOp o qs

/-- The data bytes of a piece. -/
def pieceSize (ps : List Packet) : Nat := total (ps.map (·.data.length))

/-- The bytes of a pane's resend buffer in use. -/
def Device.resendBytes (s : Device) (pane : Nat) : Nat :=
  total ((s.paneOps pane).flatMap (fun o => o.resend.map (fun kv => pieceSize kv.2)))

/-- Pieces of a pane's operations enter its resend buffer of 256 KiB in order, as it has room, and leave. Log entry 152 (DEDUCED). -/
def Device.letIn (s : Device) (pane : Nat) : Nat → Device
  | 0 => s
  | fuel + 1 =>
    match (((s.paneOps pane).filter (fun o => o.sent && !o.later.isEmpty)).foldr insertOp []).head? with
    | none => s
    | some o =>
      match o.later with
      | [] => s
      | (a, ps) :: rest =>
        if s.resendBytes pane + pieceSize ps ≤ 262144 then
          (ps.foldl (fun t p => t.post p) (s.setOp { o with resend := SMap.put o.resend a ps, later := rest })).letIn pane fuel
        else s

/-- As many as the buffer takes. -/
def Device.admitAll (s : Device) (pane : Nat) : Device :=
  if (s.paneOps pane).all (·.later.isEmpty) then s
  else s.letIn pane (total ((s.paneOps pane).map (·.later.length)))

/-- What an operation that has timed out had still to send never leaves, and its pieces that no sill has accepted are never applied (R223, R231). -/
def Device.withdraw (s : Device) (o : RemOp) : Device :=
  let mine (p : Packet) : Bool := decide (p.type ≤ 5) && p.src == s.chip && p.tid == o.tid && (p.origin.isSome || o.stats)
  { s with
    fabric := { s.fabric with waiting := s.fabric.waiting.filter (fun w => !mine w.2), arrived := s.fabric.arrived.filter (fun p => !(p.type == 4 && mine p)) }
    mem := { s.mem with segs := s.mem.segs.filter (fun p => !mine p) } }

/-- An operation completes at its source with a status; one whose replies are still to come is remembered for the late
log (R230). The pane's cached copies of what it wrote go first (R185), LCTR is incremented, a lane-form get or amo delivers its value or
its exception, a statistics put is counted when it fails (R92, R218, R229, R249), and an acquire clears the pane cache
(R196). -/
def Device.completeOp (s : Device) (o : RemOp) (status : Nat) (value : Nat := 0) (failed : Bool := false) : Device :=
  let waiting := !o.todo.isEmpty && o.sent
  let s0 := s.dropOp o.tid
  let s1 := if waiting then { s0 with fabric := { s0.fabric with expired := SMap.put s0.fabric.expired o.tid o } } else s0
  let s2 := if status = stTimeout then (s1.withdraw o).odCount o.part 0x6130 2 0 1 else s1
  let s3 := if o.stats then
      (if status = stOk then s2 else s2.odCount o.part 0x7130 9 0 1).modPart o.part (fun x =>
        let puts := x.step.puts.filter (· != o.tid)
        { x with step := { x.step with puts } })
    else s2
  let s4 := if o.stats then s3 else s3.dropSectors o.pane o.wrote
  let s4 := if o.acquire && o.block then s4.modPane o.pane Pane.clearCache else s4
  let s5 := match o.lctr with
    | some a => s4.increment o.part { memory := false, pane := o.pane, addr := a } 1 status
    | none => s4
  let s6 := s5.endLane o status value failed
  if o.stats then s6 else s6.admitAll o.pane

/-- An operation's packets leave; without a route to its chip it completes with TRANSLATION (R303, Table 09-2). The operations of panes are
counted (R233). -/
def Device.sendOp (s : Device) (o : RemOp) : Device :=
  let o := { o with sent := true }
  let s1 := if o.stats then s else s.odCount o.part 0x6130 1 0 1
  if s1.routed (fld o.faddr 52 12) then
    let t := o.pkts.foldl (fun t p => t.post p) (s1.setOp { o with pkts := [] })
    if o.stats then t else t.admitAll o.pane
  else s1.completeOp o stTranslation

/-- The operations that a pane's unit has still to send, in the order in which they reached it (R207). -/
def Device.unsent (s : Device) (pane : Nat) : List RemOp := ((s.paneOps pane).filter (fun o => !o.sent)).foldr insertOp []

/-- A pane's unit sends its operations in order, up to the first that verdicts hold (R119, R207). -/
def Device.sendReady (s : Device) (pane : Nat) : Device :=
  ((s.unsent pane).takeWhile (·.held.isEmpty)).foldl Device.sendOp s

/-- An operation enters its unit: a pane's leaves in its turn, a sill's statistics put at once (R207, R249). -/
def Device.launchOp (s : Device) (o : RemOp) : Device :=
  let expired := SMap.del s.fabric.expired o.tid
  let t := { s with fabric := { s.fabric with nextTid := (o.tid + 1) % 2 ^ 20, nextOp := s.fabric.nextOp + 1, expired } }
  let o := { o with order := s.fabric.nextOp }
  if o.stats then t.sendOp o else (t.setOp o).sendReady o.pane

/-- Steps have their passing verdicts: the operations of the pane that waited for them leave in their turn (R119, R207). -/
def Device.releaseHeld (s : Device) (pane : Nat) (verdict : Nat) : Device :=
  let freed (o : RemOp) : RemOp := if o.pane = pane && !o.stats then { o with held := o.held.filter (· != verdict) } else o
  ({ s with fabric := { s.fabric with ops := s.fabric.ops.map (fun (kv : Nat × RemOp) => (kv.1, freed kv.2)) } }).sendReady pane

end Sys2Proof.Machine
end

