-- ==== Sys2Proof/Machine/MemOps.lean ====
section
/-! DEFINITION. The memory class: loads, stores and local-store atomics (R82, R83, Tables 04-7, 04-8). -/

namespace Sys2Proof.Machine

/-! ## Format M -/

def Ctx.mAS (x : Ctx) : Bool := bit x.w 32
def Ctx.mSize (x : Ctx) : Nat := 2 ^ fld x.w 33 3
def Ctx.mSpace (x : Ctx) : Bool := bit x.w 36
def Ctx.mOrd (x : Ctx) : Nat := fld x.w 37 2
def Ctx.mSx (x : Ctx) : Bool := bit x.w 39
def Ctx.mOff (x : Ctx) : Int := sfld x.w 40 24

/-- The check of a word of format M (R73, R74, R82): ld.s requires AS = 1; a store does not use SX. Log entry 24 (DEDUCED). -/
def memUses (scalar store : Bool) (x : Ctx) : Uses :=
  let d := (x.fD, regsOf x.mSize)
  let a := (x.fA, if x.mSpace then 2 else 1)
  { ok := decide (fld x.w 33 3 ≤ 4) && decide (x.mOrd ≤ 1) && (!scalar || x.mAS) && (!store || !x.mSx)
    v := (if store then [d] else []) ++ (if x.mAS then [] else [a])
    s := if x.mAS then [a] else []
    wv := if scalar || store then [] else [d]
    ws := if scalar then [d] else [] }

/-- The local-store offset of a lane: the 32-bit register plus OFF (R82). -/
def Ctx.lsAddr (x : Ctx) (lane : Nat) : Nat :=
  ofInt 32 (((if x.mAS then x.g.s x.fA else x.g.v lane x.fA).toNat : Int) + x.mOff)

/-- The virtual address of a lane: the register pair plus OFF (R82). -/
def Ctx.vaddr (x : Ctx) (lane : Nat) : Nat :=
  ofInt 64 (((if x.mAS then x.g.sWide x.fA 2 else x.g.vWide lane x.fA 2 : Nat) : Int) + x.mOff)

/-- An exception of lanes of a load or store; a uniform load faults in every active lane. -/
def Ctx.raiseLanes (x : Ctx) (scalar : Bool) (code : Nat) (lanes : Mask) : Device :=
  x.raise code (excStatus code) (if scalar then x.act else lanes)

/-! ## Loads -/

/-- A load from local store. It waits for the group's own earlier drains into its range (R115). -/
def Ctx.loadLocal (x : Ctx) (scalar : Bool) (lanes : List Nat) : Device :=
  let size := x.mSize
  let pane := x.s.pane x.pane
  match firstFault (lanes.map (fun l => (l, pane.lsFault size (x.lsAddr l)))) with
  | some (code, bad) => x.raiseLanes scalar code bad
  | none =>
    if x.acquiring || lanes.any (fun l => pane.drainPending x.slot (x.lsAddr l, size)) then x.hold
    else
      let bad := lanes.filter (fun l => pane.lsBad (x.lsAddr l) size)
      if bad.isEmpty then
        x.done (lanes.foldl (fun g l =>
          g.putLoaded scalar x.mSx x.fD size l (ofBytes (pane.readLs (x.lsAddr l) size))) x.g)
      else x.raiseLanes scalar 0x27 (maskOf bad)

/-- A lane of a memory access with its translation. -/
structure LaneTarget where
  lane : Nat
  t    : Target
  deriving DecidableEq, Repr

def Ctx.targets (x : Ctx) (lanes : List Nat) (k : AccessKind) : List LaneTarget :=
  lanes.filterMap (fun l =>
    match x.s.translate x.part (x.vaddr l) k with
    | .ok t => some { lane := l, t }
    | .error _ => none)

/-- The cache key of a lane's sector. -/
def LaneTarget.key (q : LaneTarget) : Nat := sectorKey q.t.owner q.t.pool 0 q.t.off

/-- Whether a lane's load leaves the pane: pool memory that the pane cache does not hold. -/
def Pane.misses (p : Pane) (q : LaneTarget) : Bool := q.t.map.kind == 0 && (SMap.find p.cache q.key).isNone

/-- A store of the pane to a mirrored sector that is still unacknowledged (R184). -/
def Device.mirrorBusy (s : Device) (pane : Nat) (q : LaneTarget) : Bool :=
  decide (1 < (s.copies q.t.owner q.t.pool).length)
    && s.mem.reqs.any (fun r => r.pane == pane && r.load.isNone
        && sectorKey r.owner r.pool 0 r.off == q.key)

/-- The values that need no request: cache hits, doorbell words and held images. -/
def Device.readAtOnce (s : Device) (part pane size : Nat) (qs : List LaneTarget) : Device × List (Nat × Nat) :=
  qs.foldl (fun acc q =>
    if q.t.map.kind = 1 then
      let r := acc.1.doorbellRead part q.t.map.queue q.t.off size
      (r.1, acc.2 ++ [(q.lane, r.2)])
    else if q.t.map.kind = 2 then (acc.1, acc.2 ++ [(q.lane, ofBytes (s.readImage part q.t.map q.t.off size))])
    else
      match SMap.find (s.pane pane).cache q.key with
      | some d => (acc.1, acc.2 ++ [(q.lane, ofBytes ((d.drop (q.t.off % 32)).take size))])
      | none => acc) (s, [])

/-- A load from memory: hits are read in the pane cache, and one request leaves for each further sector (R55, R184). -/
def Ctx.loadMemory (x : Ctx) (scalar : Bool) (lanes : List Nat) : Device :=
  let size := x.mSize
  let pane := x.s.pane x.pane
  match firstFault (lanes.map (fun l => (l, x.s.memFault x.part size (x.vaddr l) .read))) with
  | some (code, bad) => x.raiseLanes scalar code bad
  | none =>
    let qs := x.targets lanes .read
    let missed := qs.filter pane.misses
    let acquire := x.mOrd == 1
    if x.acquiring || (!missed.isEmpty && decide (16 ≤ x.outstanding)) || missed.any (x.s.mirrorBusy x.pane) then x.hold
    else
      let (s1, got) := x.s.readAtOnce x.part x.pane size qs
      if missed.isEmpty then
        let g := got.foldl (fun g lv => g.putLoaded scalar x.mSx x.fD size lv.1 lv.2) x.g
        x.finish (if acquire then s1.modPane x.pane Pane.clearCache else s1) g 8
      else
        let id := s1.mem.nextReq
        let keys := distinct (missed.map LaneTarget.key)
        let reqs : List MemReq := (keys.zipIdx).filterMap (fun ki =>
          let mine := missed.filter (fun q => q.key == ki.1)
          mine.head?.map (fun q =>
            { id := id + 1 + ki.2, since := x.s.now, pane := x.pane, slot := x.slot, load := some id, part := x.part, owner := q.t.owner,
              pool := q.t.pool, off := q.t.off / 32 * 32, view := q.t.map.view, gen := pane.clears, pc := x.p.pc,
              lanes := mine.map (fun q => (q.lane, q.t.off % 32, size)) }))
        let l : Load :=
          { id, scalar, dst := x.fD, size, sx := x.mSx, acquire, pc := x.p.pc, lanes := maskOf lanes,
            waiting := reqs.map (·.id), got := got.foldl (fun m kv => SMap.put m kv.1 kv.2) [] }
        let s2 := { s1 with mem := { s1.mem with reqs := s1.mem.reqs ++ reqs, nextReq := id + 1 + keys.length } }
        x.finish s2 { x.g with loads := x.g.loads ++ [l] } 8

/-- ld and ld.s (R82). -/
def Ctx.load (scalar : Bool) (x : Ctx) : Device :=
  if x.act == 0 then x.done x.g
  else
    let lanes := if scalar then [lowLane x.act] else lanesOf x.act
    if x.mSpace then x.loadMemory scalar lanes else x.loadLocal scalar lanes

def execLd (pane slot : Nat) (w : DWord) (s : State) : Host.Outcome State Fault Refusal := onDevice s fun s =>
  krycha 8 (isWord 0x6 [0x00]) (memUses false false) (Ctx.load false) pane slot w.toNat 0 s

def execLdS (pane slot : Nat) (w : DWord) (s : State) : Host.Outcome State Fault Refusal := onDevice s fun s =>
  krycha 8 (isWord 0x6 [0x02]) (memUses true false) (Ctx.load true) pane slot w.toNat 0 s

/-! ## Stores -/

/-- The bytes that a lane stores. -/
def Ctx.datum (x : Ctx) (lane : Nat) : List Byte := bytesOf (x.g.vWide lane x.fD (regsOf x.mSize)) x.mSize

/-- The poisoned sectors that a vector store covers only in part (R469). -/
def Pane.partSectors (p : Pane) (addrs : List Nat) (size : Nat) : List Nat :=
  let bytes := distinct (addrs.flatMap (fun a => span a (a + size)))
  (distinct (bytes.map (· / 32))).filter (fun k => p.lsPoisoned k && (bytes.filter (fun b => b / 32 == k)).length != 32)

/-- A vector store's bytes written, the highest lane last (R83), its whole sectors cleared of poison (R469). -/
def Pane.storeLanes (p : Pane) (writes : List (Nat × List Byte)) : Pane :=
  let q := writes.foldl (fun q w => q.putLs w.1 w.2) p
  (distinct (writes.flatMap (fun w => sectorsOf w.1 w.2.length))).foldl (fun q k => q.setLsPoison k false) q

/-- A store to local store. A release waits as its scope asks (R195); a store waits for the group's own earlier matrix reads
of its range (R199). -/
def Ctx.storeLocal (x : Ctx) (lanes : List Nat) : Device :=
  let size := x.mSize
  let pane := x.s.pane x.pane
  match firstFault (lanes.map (fun l => (l, pane.lsFault size (x.lsAddr l)))) with
  | some (code, bad) => x.raiseLanes false code bad
  | none =>
    if x.acquiring || x.checkHeld || x.releasing || (x.mOrd == 1 && !x.fenceMet 1) || lanes.any (fun l => pane.readPending x.slot (x.lsAddr l, size)) then
      x.hold
    else
      let cut := pane.partSectors (lanes.map x.lsAddr) size
      let bad := lanes.filter (fun l => (sectorsOf (x.lsAddr l) size).any cut.contains)
      if bad.isEmpty then
        let s := x.s.setPane x.pane (pane.storeLanes (lanes.map (fun l => (x.lsAddr l, x.datum l))))
        x.finish (lanes.foldl (fun s l => s.clearLostLs x.pane (x.lsAddr l) size) s) x.g 8
      else x.raiseLanes false 0x27 (maskOf bad)

/-- A store to memory: doorbell words are written at once; one request leaves for each sector, with the bytes of every lane
in it, the highest lane last (R55, R83, R184, R281). Log entry 35 (DEDUCED). -/
def Ctx.storeMemory (x : Ctx) (lanes : List Nat) : Device :=
  let size := x.mSize
  match firstFault (lanes.map (fun l => (l, x.s.memFault x.part size (x.vaddr l) .write))) with
  | some (code, bad) => x.raiseLanes false code bad
  | none =>
    if x.acquiring || x.checkHeld || x.releasing || (x.mOrd == 1 && !x.fenceMet 3) then x.hold
    else
      let qs := x.targets lanes .write
      let bells := qs.filter (fun q => q.t.map.kind == 1)
      let s1 := bells.foldl (fun s q => s.doorbellWrite x.part q.t.map.queue q.t.off size (ofBytes (x.datum q.lane))) x.s
      let mem := qs.filter (fun q => q.t.map.kind == 0)
      let keys := distinct (mem.map LaneTarget.key)
      let id := s1.mem.nextReq
      let reqs : List MemReq := (keys.zipIdx).filterMap (fun ki =>
        let mine := mem.filter (fun q => q.key == ki.1)
        mine.head?.map (fun q =>
          { id := id + ki.2, since := x.s.now, pane := x.pane, slot := x.slot, load := none, part := x.part, owner := q.t.owner,
            pool := q.t.pool, off := q.t.off / 32 * 32, view := q.t.map.view, gen := 0, pc := x.p.pc,
            lanes := mine.map (fun q => (q.lane, q.t.off % 32, size)),
            writes := mine.flatMap (fun q => ((x.datum q.lane).zipIdx).map (fun bi => (q.t.off % 32 + bi.2, bi.1))) }))
      let s2 := reqs.foldl (fun s r => s.modPane x.pane (·.updateCached (sectorKey r.owner r.pool 0 r.off) r.writes)) s1
      let s3 := s2.markStale x.pane keys
      let s4 := { s3 with mem := { s3.mem with reqs := s3.mem.reqs ++ reqs, nextReq := id + keys.length } }
      x.finish s4 { x.g with stores := x.g.stores ++ reqs.map (·.id) } 8

def Ctx.store (x : Ctx) : Device :=
  if x.act == 0 then x.done x.g
  else if x.mSpace then x.storeMemory (lanesOf x.act)
  else x.storeLocal (lanesOf x.act)

def execSt (pane slot : Nat) (w : DWord) (s : State) : Host.Outcome State Fault Refusal := onDevice s fun s =>
  krycha 8 (isWord 0x6 [0x01]) (memUses false true) Ctx.store pane slot w.toNat 0 s

/-! ## Local-store atomics (format MA) -/

def Ctx.aSize (x : Ctx) : Nat := if bit x.w 49 then 8 else 4
def Ctx.aAddr (x : Ctx) (lane : Nat) : Nat := (if bit x.w 48 then x.g.s x.fA else x.g.v lane x.fA).toNat
def Ctx.aOrd (x : Ctx) : Nat := fld x.w 51 2

/-- The check of a word of format MA: SGN belongs to min and max, C to cas (R73, Table 04-7). -/
def atomUses (x : Ctx) : Uses :=
  let op := opOf x.w
  let n := if bit x.w 49 then 2 else 1
  let d := [(x.fB, n)] ++ (if op = 0x0F then [(x.fC, n)] else [])
  { ok := (op == 0x0F || x.fC == 0) && (op == 0x09 || op == 0x0A || !bit x.w 50) && fld x.w 53 11 == 0
    v := d ++ (if bit x.w 48 then [] else [(x.fA, 1)])
    s := if bit x.w 48 then [(x.fA, 1)] else []
    wv := [(x.fD, n)] }

/-- Less-than of two data of `size` bytes. -/
def dataLt (signed : Bool) (size a b : Nat) : Bool :=
  if signed then decide (sfld a 0 (8 * size) < sfld b 0 (8 * size)) else decide (a < b)

/-- The new value of an atomic and whether it fails, from its opcode, SGN, the old value, B and C (Tables 04-8, 04-14). -/
def atomic (op : Nat) (sgn : Bool) (size old b c : Nat) : Nat × Bool :=
  let m := 2 ^ (8 * size)
  match op with
  | 0x08 => ((old + b) % m, false)
  | 0x09 => (if dataLt sgn size b old then b else old, false)
  | 0x0A => (if dataLt sgn size old b then b else old, false)
  | 0x0B => (old &&& b, false)
  | 0x0C => (old ||| b, false)
  | 0x0D => (old ^^^ b, false)
  | 0x0E => (b, false)
  | 0x0F => if old = c then (b, false) else (old, true)
  | _ => if old = 0 then (b, false) else (old, true)

/-- One lane of an atomic: its word is read and rewritten, D gets the old value (R83). The result carries the lanes that
failed. -/
def Ctx.atomLane (x : Ctx) (acc : Pane × Group × Mask) (lane : Nat) : Pane × Group × Mask :=
  let size := x.aSize
  let n := size / 4
  let old := ofBytes (acc.1.readLs (x.aAddr lane) size)
  let r := atomic (opOf x.w) (bit x.w 50) size old (x.g.vWide lane x.fB n) (x.g.vWide lane x.fC n)
  (if r.2 then acc.1 else acc.1.putLs (x.aAddr lane) (bytesOf r.1 size),
    acc.2.1.setVWide lane x.fD old n, if r.2 then acc.2.2 ||| laneBit lane else acc.2.2)

/-- A local-store atomic: the lanes are served in ascending order; lanes that fail are set aside (R61, R83, R470). -/
def Ctx.atom (x : Ctx) : Device :=
  let lanes := lanesOf x.act
  let size := x.aSize
  let pane := x.s.pane x.pane
  match firstFault (lanes.map (fun l => (l, pane.lsFault size (x.aAddr l)))) with
  | some (code, bad) => x.raiseLanes false code bad
  | none =>
    if lanes.isEmpty then x.done x.g
    else if x.acquiring || x.releasing || (decide (2 ≤ x.aOrd) && !x.fenceMet 1)
        || lanes.any (fun l => pane.readPending x.slot (x.aAddr l, size) || pane.drainPending x.slot (x.aAddr l, size)) then
      x.hold
    else
      let bad := lanes.filter (fun l => pane.lsBad (x.aAddr l) size)
      if bad.isEmpty then
        let (pane', g, failed) := lanes.foldl x.atomLane (pane, x.g, 0)
        let s := lanes.foldl (fun s l => s.clearLostLs x.pane (x.aAddr l) size) (x.s.setPane x.pane pane')
        (x.count s).setGroup x.pane x.slot (g.failLanes x.p failed (x.p.pc + 8))
      else x.raiseLanes false 0x27 (maskOf bad)

/-- A local-store atomic of one opcode. -/
def atomOp (op pane slot : Nat) (w : DWord) (s : Device) : Host.Outcome Device Fault Refusal :=
  krycha 8 (isWord 0x6 [op]) atomUses Ctx.atom pane slot w.toNat 0 s

def execAtomAdd (pane slot : Nat) (w : DWord) (s : State) : Host.Outcome State Fault Refusal := onDevice s fun s => atomOp 0x08 pane slot w s
def execAtomMin (pane slot : Nat) (w : DWord) (s : State) : Host.Outcome State Fault Refusal := onDevice s fun s => atomOp 0x09 pane slot w s
def execAtomMax (pane slot : Nat) (w : DWord) (s : State) : Host.Outcome State Fault Refusal := onDevice s fun s => atomOp 0x0A pane slot w s
def execAtomAnd (pane slot : Nat) (w : DWord) (s : State) : Host.Outcome State Fault Refusal := onDevice s fun s => atomOp 0x0B pane slot w s
def execAtomOr (pane slot : Nat) (w : DWord) (s : State) : Host.Outcome State Fault Refusal := onDevice s fun s => atomOp 0x0C pane slot w s
def execAtomXor (pane slot : Nat) (w : DWord) (s : State) : Host.Outcome State Fault Refusal := onDevice s fun s => atomOp 0x0D pane slot w s
def execAtomExch (pane slot : Nat) (w : DWord) (s : State) : Host.Outcome State Fault Refusal := onDevice s fun s => atomOp 0x0E pane slot w s
def execAtomCas (pane slot : Nat) (w : DWord) (s : State) : Host.Outcome State Fault Refusal := onDevice s fun s => atomOp 0x0F pane slot w s
def execAtomTset (pane slot : Nat) (w : DWord) (s : State) : Host.Outcome State Fault Refusal := onDevice s fun s => atomOp 0x10 pane slot w s

end Sys2Proof.Machine
end

