-- ==== Sys2Proof/Machine/SplitPair.lean ====
section
/-! DEFINITION. The split pair of a master weight or a gradient (R143, R144, R239). -/

namespace Sys2Proof.Machine

/-- log2 of ulp(h) of a finite BF16 h (R143). -/
def ulpExp (h : Nat) : Int := (max (fld h 7 8) 1 : Nat) - 134

/-- The value of a pair (R143). -/
def pairVal (h : Nat) (l : Int) : Val :=
  match bf16.decode h with
  | .fin n m e => if l = 0 then .fin n m e else (Val.fin n m e).add .rne (.fin (decide (l < 0)) l.natAbs (ulpExp h - 16))
  | v => v

/-- The BF16 value next after h toward +∞. -/
def bf16Up (h : Nat) : Nat := if h < 0x8000 then h + 1 else if h = 0x8000 then 1 else h - 1

/-- l of a value for an h, rounded. -/
def pairLow (v : Val) (h : Nat) (rm : Rm) : Int :=
  match v.add .rne (bf16.decode h).neg with
  | .fin n m e => (toInteger rm (-2 ^ 40) (2 ^ 40) (.fin n m (e - (ulpExp h - 16)))).1
  | _ => 0

/-- The pair formed from a value: h to nearest even and l by the given rounding; where l would be +32,768, h is the
neighbour toward +∞, and the l of that h stays in its range (R143). Log entry 32 (DEDUCED). -/
def formPair (v : Val) (rm : Rm) : Nat × Int :=
  match v with
  | .nan => (bf16.qnan, 0)
  | .inf n => (bf16.ofInf n, 0)
  | .fin n m e =>
    let h := (roundVal bf16 .rne (.fin n m e)).1
    match bf16.decode h with
    | .fin _ _ _ =>
      let l := pairLow v h rm
      if l = 32768 then (bf16Up h, max (-32768) (pairLow v (bf16Up h) rm)) else (h, l)
    | _ => (h, 0)

/-- A gradient word: the high plane in [31:16] and the low correction in [15:0] (R236). -/
def gradVal (w : Nat) : Val := pairVal (fld w 16 16) (sfld w 0 16)

def gradWord (p : Nat × Int) : Nat := 2 ^ 16 * p.1 + ofInt 16 p.2

/-- A pair whose h is not finite (R241, R248). -/
def pairNonFinite (h : Nat) : Bool :=
  match bf16.decode h with
  | .fin _ _ _ => false
  | _ => true

end Sys2Proof.Machine
end

