-- ==== Sys2Proof/Machine/Target.lean ====
section
/-! DEFINITION. The target side of remote operations: what a receiver discards (R297), holds (R20) and checks (R212), the
write logs (R363), arrival increments (R218, R219), and the packets PUT, GET, AMO and CTRINC (R214–R216, R466). -/

namespace Sys2Proof.Machine

/-! ## Receiving (R17, R297, R301) -/

/-- DLEN admitted by a packet's type (Table 13-5). -/
def dlenOk (type status dlen : Nat) : Bool :=
  match type with
  | 1 => decide (1 ≤ dlen ∧ dlen ≤ 16)
  | 2 => decide (1 ≤ dlen ∧ dlen ≤ 16)
  | 3 => dlen == 1
  | 4 => decide (1 ≤ dlen ∧ dlen ≤ 16)
  | 9 => decide (dlen ≤ if status = stOk then 16 else 0)
  | 0xA => decide (dlen ≤ 1)
  | _ => dlen == 0

/-- Whether the receiver keeps a packet (R297). -/
def Device.accepts (s : Device) (p : Packet) : Bool :=
  [0, 1, 2, 3, 4, 5, 8, 9, 0xA, 0xB, 0xE].contains p.type && p.rsv == 0 && dlenOk p.type p.status p.dlen
    && !((p.type == 1 || p.type == 2) && p.arg % 65536 == 0) && p.dst == s.chip

/-- The packet leaves the arrivals; a door's receiver returns its slots (R301). -/
def Device.takeArrival (s : Device) (p : Packet) : Device :=
  let t := { s with fabric := { s.fabric with arrived := s.fabric.arrived.erase p } }
  match p.via with
  | some d => t.freeSlots d p
  | none => t

/-- A discarded packet is counted at its door (R297). -/
def Device.discard (s : Device) (p : Packet) : Device :=
  match p.via with
  | some d => s.modDoor d (fun x => { x with drops := x.drops + 1 })
  | none => s

/-- Where a request goes on this chip: a pane, a sill as 1,000 + its stack, or the doorbell block of a queue as 2,000 + its number. -/
def Device.destination (s : Device) (p : Packet) : Option Nat :=
  if p.space = 1 then some (p.taddr / 2 ^ 24)
  else if p.space != 0 then none
  else
    match s.jobPart? p.job with
    | none => none
    | some part =>
      match s.translate part p.taddr .read with
      | .ok t => if t.map.kind = 0 then some (1000 + (s.place t.owner t.pool 0 t.off).stack) else some (2000 + t.map.queue)
      | .error _ => none

/-- A pane's requests to one destination on this chip stay in order (R17, R200): a packet waits while an earlier one of its
pane and destination has not been served. -/
def Device.overtakes (s : Device) (p : Packet) : Bool :=
  p.origin.isSome && decide (p.type ≤ 5) &&
    (s.fabric.arrived.takeWhile (· != p)).any (fun q =>
      decide (q.type ≤ 5) && q.origin == p.origin && s.destination q == s.destination p && (s.destination p).isSome)

/-- A pane whose arrivals are held at the target edge: it migrates, or is paused, tested or reset (R20, R372, R377). Log entry 58 (DEDUCED). -/
def Device.edgeHeld (s : Device) (pane : Nat) : Bool := s.paneState pane == .migrating || (s.pane pane).paused

/-- The bytes of memory that a request covers. -/
def requestLength (p : Packet) : Nat :=
  match p.type with
  | 2 => if p.sz = 0 then 32 * p.dlen else 2 ^ p.sz
  | 3 => 2 ^ p.sz
  | 5 => 8
  | _ => Nat.max 1 p.data.length

/-- A request whose stack holds its access back waits (R171, R174). -/
def Device.stackHolds (s : Device) (p : Packet) : Bool :=
  s.anyHeld && decide (p.type ≤ 5) && p.space == 0 &&
    match s.jobPart? p.job with
    | none => false
    | some part =>
      match s.translate part p.taddr .read with
      | .ok t => s.rangeHeld t (requestLength p) (p.type != 2)
      | .error _ => false

/-- A packet that came by a door beside a resetting sash waits (R391), and a request to a partition whose context reset runs is held
(R385). -/
def Device.held? (s : Device) (p : Packet) : Bool :=
  (p.type != 0xE && p.via.any (fun d => s.sashBusy (d / 12)))
    || (decide (p.type ≤ 5) && p.type != 0 && (s.jobPart? p.job).any s.resetting)

/-- A packet of one type that has arrived: it is taken, discarded where R297 says so, held where its pane is (R20), and otherwise acted
on (R231). Log entry 49 (DEDUCED). -/
def packetRow (type : Nat) (body : Device → Packet → Device) (p : Packet) (s : Device) : Host.Outcome Device Fault Refusal :=
  if !s.fabric.arrived.contains p || s.overtakes p || s.stackHolds p || s.held? p then .next s
  else
    let t := s.takeArrival p
    let pane := p.taddr / 2 ^ 24
    if p.type != type || !s.accepts p then .next (t.discard p)
    else if decide (type ≤ 5) && p.space == 1 && decide (pane < 320) && s.edgeHeld pane then
      .next (t.modPane pane (fun q => { q with heldOps := q.heldOps ++ [p] }))
    else .next (body t p)

/-! ## Checks at the target (Table 09-2) -/

/-- What an operation reaches. -/
inductive Reach where
  | ls (pane off : Nat)
  | mem (t : Target)
  deriving DecidableEq, Repr

/-- The checks of a pane's local store. -/
def Device.reachLs (s : Device) (part pane off len : Nat) : Except Nat Reach :=
  if 320 ≤ pane then .error stTranslation
  else if !(s.part part).hasPane pane then .error stAccess
  else if s.paneState pane == .vacant then .error stRetired
  else if !(s.pane pane).populated off len then .error stTranslation
  else .ok (.ls pane off)

/-- The checks of Table 09-2 behind the partition's, in order; writes from a chip that a retract names are refused (R363), and nothing is performed in
a reserved space (R209). Log entry 151 (DESIGN CHOICE). -/
def Device.reach (s : Device) (part src space addr len : Nat) (k : AccessKind) : Except Nat Reach :=
  let x := s.part part
  if x.fence != .none then .error stFenced
  else if k != .read && x.refused.contains src then .error stRetracted
  else if 2 ≤ space then .error stTranslation
  else if space = 1 then s.reachLs part (addr / 2 ^ 24) (addr % 2 ^ 24) len
  else
    match s.translate part addr k with
    | .error e => .error e
    | .ok t => if t.map.kind = 1 && decide (doorbellBytes < t.off + len) then .error stTranslation else .ok (.mem t)

/-! ## Write logs (R363) -/

/-- Whether a partition's writes are logged. -/
def Device.logs (s : Device) (part : Nat) : Bool := s.odGet part 0x8030 1 == 1 && s.odGet part 0x8030 2 == 1

/-- The entries of a log that are young enough, within its size. -/
def trimLog (now size : Nat) (l : List WLog) : List WLog :=
  let kept := l.filter (fun e => decide (now ≤ e.time + 50000))
  kept.drop (kept.length - size)

/-- A write of one segment to memory is logged at its sill. -/
def Device.logMem (s : Device) (part chip owner pool off len : Nat) : Device :=
  if !s.logs part then s
  else
    let k := (s.place owner pool 0 off).stack
    let e : WLog := { part, chip, time := s.now, sill := k, sectors := distinct ((sectorsOf (memKey owner pool 0 off) len)) }
    let mine := trimLog s.now 32768 (s.mem.log.filter (·.sill == k) ++ [e])
    { s with mem := { s.mem with log := s.mem.log.filter (·.sill != k) ++ mine } }

/-- A write of one segment to local store is logged at the pane's edge. -/
def Device.logLs (s : Device) (part chip pane off len : Nat) : Device :=
  if !s.logs part then s
  else s.modPane pane (fun p => { p with log := trimLog s.now 8192 (p.log ++
    [{ part, chip, time := s.now, sectors := sectorsOf off len }]) })

/-! ## Arrival increments (R217–R219, R466) -/

/-- An RCTR increment on this chip: the counter passes the checks of Table 09-2 or its increment is lost. Log entry 172 (DESIGN CHOICE). -/
def Device.arrivalIncrement (s : Device) (part rctr value status : Nat) : Device :=
  let a := fld rctr 0 48
  let c : CtrLoc := if fld rctr 48 4 = 0 then { memory := true, pane := 0, addr := a } else { memory := false, pane := a / 2 ^ 24, addr := a % 2 ^ 24 }
  if (s.part part).fence != .none then s.loseIncrement part c stFenced
  else if fld rctr 48 4 = 0 then s.increment part c value status
  else if fld rctr 48 4 = 1 then
    match s.reachLs part c.pane c.addr 8 with
    | .ok _ => s.increment part c value status
    | .error e => s.loseIncrement part c e
  else s.loseIncrement part c stTranslation

/-- The arrival of one segment with RCE = 1: the counter is incremented, or the segment's partial leaves for the counter's
server (R219). -/
def Device.segmentArrived (s : Device) (part : Nat) (p : Packet) (status : Nat) : Device :=
  if !p.rce then s
  else if p.arg % 65536 ≤ 1 then s.arrivalIncrement part p.rctr 1 status
  else
    let q : Partial := { src := p.src, tid := p.tid, job := p.job, nseg := p.arg % 65536, rctr := p.rctr, status }
    { s with fabric := { s.fabric with partials := s.fabric.partials ++ [q] } }

/-! ## Responses -/

/-- A response to a request: it echoes TID and TADDR (R296). Log entry 50 (DEDUCED). -/
def Device.respond (s : Device) (p : Packet) (type status : Nat) (data : List Byte := []) (poison : List Nat := []) : Device :=
  s.post { type, vc := 1, dst := p.src, src := s.chip, job := p.job, tid := p.tid, dlen := ceilDiv data.length 32,
           sz := p.sz, status, space := p.space, taddr := p.taddr, data, poison }

/-- A request acted on in its partition; without one it is answered with ACCESS (Table 09-2). -/
def Device.inJob (s : Device) (p : Packet) (type : Nat) (k : Nat → Device) : Device :=
  match s.jobPart? p.job with
  | none => s.respond p type stAccess
  | some part => k part

/-- What a write's completion does once every copy is written (R165, R197). -/
def Device.endWrite (s : Device) (e : Ending) : Device :=
  match e with
  | .answer part p type status data segment increment =>
    let t := if segment then s.segmentArrived part p status
      else if increment && p.rce then s.arrivalIncrement part p.rctr 1 status else s
    t.respond p type status data
  | .counter part memory pane addr value status keys => (s.dropSectors pane keys).increment part { memory, pane, addr } value status
  | .arrival part rctr status => s.arrivalIncrement part rctr 1 status
  | .roce qpn h => s.sendFrame .host 1 (.roce qpn 0 h [])

/-- A completion follows some forwarded writes, at once where there are none (R165). -/
def Device.whenWritten (s : Device) (ids : List Nat) (e : Ending) : Device :=
  let ids := ids.filter s.forwarding
  if ids.isEmpty then s.endWrite e else { s with mem := { s.mem with after := s.mem.after ++ [(ids, e)] } }

/-- The operation of a packet of this chip has written sectors of its memory (R185). -/
def Device.noteWrote (s : Device) (p : Packet) (t : Target) (len : Nat) : Device :=
  match p.origin, s.op? p.tid with
  | some _, some o => s.setOp { o with wrote := o.wrote ++ sectorsOf (memKey t.owner t.pool 0 t.off) len }
  | _, _ => s

/-! ## Writes and reads of a segment -/

/-- The parts of a segment's data by 32-byte sector: offset in the segment and length. -/
def dataParts (off len : Nat) : List (Nat × Nat) := (sectorParts off len).map (fun on => (on.1 - off, on.2))

/-- Parts of a segment's bytes written to local store; a slot carried as poison poisons its sector (R70, R111, R216, R469). -/
def Device.segmentToLs (s : Device) (pane off : Nat) (data : List Byte) (poison : List Nat) (parts : List (Nat × Nat)) : Device × Nat :=
  let r := parts.foldl (fun (acc : Pane × Nat) on =>
    let (p, st) := acc
    if poison.contains (on.1 / 32) then (p.setLsPoison ((off + on.1) / 32) true, st)
    else if p.partlyBad (off + on.1) on.2 then (p, stPoison)
    else (p.writeLs (off + on.1) ((data.drop on.1).take on.2), st)) (s.pane pane, stOk)
  ((s.setPane pane r.1).clearLostLs pane off data.length, r.2)

/-- Parts of a segment's bytes written to memory. -/
def Device.segmentToMem (s : Device) (part : Nat) (t : Target) (data : List Byte) (poison : List Nat) (parts : List (Nat × Nat)) : Device × Nat :=
  parts.foldl (fun (acc : Device × Nat) on =>
    if poison.contains (on.1 / 32) then (acc.1.carryPoison t.owner t.pool (t.off + on.1) t.map.view part, acc.2)
    else
      let r := acc.1.writeSector t.owner t.pool (t.off + on.1) ((data.drop on.1).take on.2) t.map.view part
      (r.1, firstBad acc.2 r.2)) (s, stOk)

/-- The data bytes of a lane-form or block-form packet. -/
def dataOfPacket (p : Packet) : List Byte :=
  if p.sz = 0 then p.data else p.data.take (2 ^ p.sz)

/-- Parts of a put segment performed at what it reaches, with their status. -/
def Device.putAt (s : Device) (part : Nat) (p : Packet) (r : Reach) (n : Nat) : Device × Nat :=
  let data := dataOfPacket p
  match r with
  | .ls pane off => s.segmentToLs pane off data p.poison (partsNow (dataParts off data.length) p.progress.1 n)
  | .mem t =>
    if t.map.kind = 1 then (s.doorbellWrite part t.map.queue t.off data.length (ofBytes data), stOk)
    else s.segmentToMem part t data p.poison (partsNow (dataParts t.off data.length) p.progress.1 n)

/-- The parts of a segment at what it reaches; a doorbell word is one. -/
def partCount (p : Packet) (r : Reach) : Nat :=
  match r with
  | .ls _ off => (dataParts off (dataOfPacket p).length).length
  | .mem t => if t.map.kind = 1 then 1 else (dataParts t.off (dataOfPacket p).length).length

/-- A segment has been written: it is logged (R363), and its operation notes the sectors (R185). -/
def Device.logPut (s : Device) (part : Nat) (p : Packet) (r : Reach) : Device :=
  let n := (dataOfPacket p).length
  match r with
  | .ls pane off => s.logLs part p.src pane off n
  | .mem t => if t.map.kind = 1 then s else (s.logMem part p.src t.owner t.pool t.off n).noteWrote p t n

/-- A PUT segment (R212, R214, R216). A segment that is not yet whole stays with what it has done (R181). -/
def Device.putPacket (n : Nat) (s : Device) (p : Packet) : Device :=
  s.inJob p 8 (fun part =>
    match s.reach part p.src p.space p.taddr (dataOfPacket p).length .write with
    | .error e => (s.segmentArrived part p e).respond p 8 e
    | .ok r =>
      let w := s.putAt part p r n
      let status := firstBad p.progress.2 w.2
      let waits := p.waits ++ w.1.newForwards s
      if n = 0 || decide (partCount p r ≤ p.progress.1 + n) then
        (w.1.logPut part p r).whenWritten waits (.answer part p 8 status [] true false)
      else
        let q : Packet := { p with via := none, progress := (p.progress.1 + n, status), waits }
        { w.1 with fabric := { w.1.fabric with arrived := q :: w.1.fabric.arrived } })

def execPutPacket (p : Packet) (s : State) (parts : Nat := 0) : Host.Outcome State Fault Refusal := onDevice s fun s =>
  packetRow 1 (Device.putPacket parts) p s

/-- The bytes that a GET asks for. -/
def getLength (p : Packet) : Nat := if p.sz = 0 then 32 * p.dlen else 2 ^ p.sz

/-- A read at what it reaches: the bytes and the poisoned slots. -/
def Device.getAt (s : Device) (part : Nat) (p : Packet) (r : Reach) : Device × List Byte × List Nat :=
  let n := getLength p
  match r with
  | .ls pane off =>
    let q := s.pane pane
    (s, q.readLs off n, ((dataParts off n).filter (fun on => q.lsBad (off + on.1) on.2)).map (fun on => on.1 / 32))
  | .mem t =>
    let sash := (p.origin.map sashOf).getD 0
    if t.map.kind = 1 then (s.ignoreAccess part t.map.queue, List.replicate n 0, [])
    else
      let bad := (dataParts t.off n).filter (fun on =>
        t.map.kind == 0 && (s.goodCopy t.owner t.pool (t.off + on.1) sash).isNone)
      (s.touchRead part t n sash, (s.readTarget part t n sash).1, bad.map (fun on => on.1 / 32))

/-- A GET segment (R212, R214, R216). Log entry 51 (DEDUCED). -/
def Device.getPacket (s : Device) (p : Packet) : Device :=
  s.inJob p 9 (fun part =>
    match s.reach part p.src p.space p.taddr (getLength p) .read with
    | .error e => (s.segmentArrived part p e).respond p 9 e
    | .ok r =>
      let (t, data, bad) := s.getAt part p r
      if bad.isEmpty then (t.segmentArrived part p stOk).respond p 9 stOk data
      else (t.segmentArrived part p stPoison).respond p 9 stPoison [] bad)

def execGetPacket (p : Packet) (s : State) : Host.Outcome State Fault Refusal := onDevice s fun s => packetRow 2 Device.getPacket p s

/-! ## Atomics and counter increments -/

/-- An amo performed on a word: the state and the old value, or the status that ends it (R215, R281). -/
def Device.amoAt (s : Device) (part : Nat) (p : Packet) (r : Reach) : Except Nat (Device × Nat) :=
  let n := 2 ^ p.sz
  let b := ofBytes (p.data.take n)
  let c := ofBytes ((p.data.drop 16).take n)
  let new (old : Nat) : Nat × Bool := atomic (8 + p.aop) p.sgn n old b c
  match r with
  | .ls pane off =>
    let q := s.pane pane
    if q.lsBad off n then .error stPoison
    else
      let old := ofBytes (q.readLs off n)
      if (new old).2 then .ok (s, old)
      else
        let t := (s.setPane pane (q.putLs off (bytesOf (new old).1 n))).clearLostLs pane off n
        .ok (t.logLs part p.src pane off n, old)
  | .mem t =>
    if t.map.kind = 1 then .error stAccess
    else
      match s.readHome t.owner t.pool t.off n with
      | none => .error stPoison
      | some d =>
        let old := ofBytes d
        if (new old).2 then .ok (s.touch part t.map.view (sectorKey t.owner t.pool 0 t.off) false, old)
        else
          let w := s.writeSector t.owner t.pool t.off (bytesOf (new old).1 n) t.map.view part
          if w.2 = stOk then
            .ok ((w.1.logMem part p.src t.owner t.pool t.off n).noteWrote p t n, old)
          else .error w.2

/-- An AMO (R212, R215). -/
def Device.amoPacket (s : Device) (p : Packet) : Device :=
  s.inJob p 0xA (fun part =>
    if !(decide (2 ≤ p.sz ∧ p.sz ≤ 3) && decide (p.aop ≤ 8)) then s.respond p 0xA stMalformed
    else
      match s.reach part p.src p.space p.taddr (2 ^ p.sz) .write with
      | .error e => (if p.rce then s.arrivalIncrement part p.rctr 1 e else s).respond p 0xA e
      | .ok r =>
        match s.amoAt part p r with
        | .error e => (if p.rce then s.arrivalIncrement part p.rctr 1 e else s).respond p 0xA e
        | .ok (t, old) =>
          t.whenWritten (t.newForwards s)
            (.answer part p 0xA stOk (bytesOf old (2 ^ p.sz) ++ List.replicate (32 - 2 ^ p.sz) 0) false true))

def execAmoPacket (p : Packet) (s : State) : Host.Outcome State Fault Refusal := onDevice s fun s => packetRow 3 Device.amoPacket p s

/-- A CTRINC: its target is the counter; on a poisoned word it completes with POISON (R217, R466). -/
def Device.ctrincPacket (s : Device) (p : Packet) : Device :=
  s.inJob p 8 (fun part =>
    match s.reach part p.src p.space p.taddr 8 .write with
    | .error e => s.respond p 8 e
    | .ok r =>
      let c : CtrLoc := match r with
        | .ls pane off => { memory := false, pane, addr := off }
        | .mem _ => { memory := true, pane := 0, addr := p.taddr }
      match s.rewriteCounter part c (fun w => bump w p.arg stOk) with
      | .error e => s.respond p 8 e
      | .ok t =>
        let u := match r with
          | .ls pane off => t.logLs part p.src pane off 8
          | .mem q => if q.map.kind = 0 then (t.logMem part p.src q.owner q.pool q.off 8).noteWrote p q 8 else t
        u.whenWritten (u.newForwards s) (.answer part p 8 stOk [] false false))

def execCtrincPacket (p : Packet) (s : State) : Host.Outcome State Fault Refusal := onDevice s fun s => packetRow 5 Device.ctrincPacket p s

end Sys2Proof.Machine
end

