-- ==== Sys2Proof/Machine/Accput.lean ====
section
/-! DEFINITION. The ordered accumulate-put at its target (R221–R226, R228, R239–R241). -/

namespace Sys2Proof.Machine

/-! ## Applying a piece -/

/-- The element of a contribution widened exactly (R224). -/
def contributionVal (elt bits : Nat) : Val :=
  (if elt = 1 then bf16 else if elt = 2 then fp16 else fp32).decode bits

def contributionBytes (elt : Nat) : Nat := if elt = 0 then 4 else 2

/-- One binary32 sum element: round32(t + c) (R224, R126). -/
def sumElement (t : Nat) (c : Val) : Nat := (roundVal fp32 .rne ((fp32.decode t).add .rne c)).1

/-- One gradient element: the pair's value, the binary32 sum, and the pair formed from it (R239). -/
def gradElement (w : Nat) (c : Val) : Nat :=
  gradWord (formPair (fp32.decode (roundVal fp32 .rne ((gradVal w).add .rne c)).1) .rne)

/-- A piece's registered shard and gradient plane, if it lies in one. -/
def Device.pieceShard (s : Device) (q : Piece) : Option (Nat × Nat) := (s.part q.part).shardAt q.part q.pool q.off

/-- The parity whose plane a plane number is: G0 for even steps, G1 for odd (Table 10-2). -/
def planeParity (plane : Nat) : Nat := if plane = 5 then 1 else 0

/-- Cause bits recorded for a shard's parity (R241). -/
def Device.shardCause (s : Device) (part shard parity cause : Nat) : Device :=
  if cause = 0 then s
  else s.modPart part (fun x =>
    match SMap.find x.shards shard with
    | none => x
    | some d =>
      let d' : Shard := if parity = 0 then { d with causeE := d.causeE ||| cause } else { d with causeO := d.causeO ||| cause }
      { x with shards := SMap.put x.shards shard d' })

/-- A contribution applied to a shard notes the time of the first of its step (R252, R253). -/
def Device.noteContribution (s : Device) (part parity : Nat) : Device :=
  s.modPart part (fun x =>
    let now := s.now
    if s.odGet part 0x7110 4 % 2 = parity then { x with step := { x.step with first := some (x.step.first.getD now) } }
    else { x with step := { x.step with nextFirst := some (x.step.nextFirst.getD now) } })

/-- One target sector of a piece: the elements of its part of the data, read and written at the home copy's sill. Answers whether poison was met
and whether an element became non-finite. -/
def Device.applySector (s : Device) (q : Piece) (user view : Nat) (shard : Bool) (k : Nat) (on : Nat × Nat) : Device × Bool × Bool :=
  let off := q.off + on.1
  if q.bad.contains k then (s.carryPoison q.part q.pool off view user, true, false)
  else
    match s.readHome q.part q.pool off on.2 with
    | none => (s, true, false)
    | some old =>
      let e := contributionBytes q.elt
      let new := (List.range (on.2 / 4)).map (fun i =>
        let t := ofBytes ((old.drop (4 * i)).take 4)
        let c := contributionVal q.elt (ofBytes ((q.data.drop (e * (on.1 / 4 + i))).take e))
        if shard then gradElement t c else sumElement t c)
      let nonfin := shard && new.any (fun w => pairNonFinite (fld w 16 16))
      ((s.writeSector q.part q.pool off (new.flatMap (fun w => bytesOf w 4)) view user).1, false, nonfin)

/-- The bytes that a piece covers at its target. -/
def pieceBytes (q : Piece) : Nat := 4 * (q.data.length / contributionBytes q.elt)

/-- A piece applied: each element, the causes of its shard, its log entries, and its arrival increment (R221, R222, R224,
R241). -/
def Device.applyPiece (s : Device) (q : Piece) : Device :=
  let shard := s.pieceShard q
  let r := ((dataParts q.off (pieceBytes q)).zipIdx).foldl (fun (acc : Device × Bool × Bool) oi =>
    let u := acc.1.applySector q q.user q.view shard.isSome oi.2 oi.1
    (u.1, acc.2.1 || u.2.1, acc.2.2 || u.2.2)) (s, false, false)
  let (t, bad, nonfin) := r
  let t := match shard with
    | some (sd, plane) =>
      (t.shardCause q.part sd (planeParity plane) (nonfin.toNat + 2 * bad.toNat)).noteContribution q.part (planeParity plane)
    | none => t
  let t := t.logMem q.user q.src q.part q.pool q.off (pieceBytes q)
  t.whenWritten (t.newForwards s) (.arrival q.user q.rctr (if bad then stPoison else stOk))

/-! ## The order of a range (R222, R223, R226) -/

def Device.nextOf (s : Device) (range : Nat) : Nat := SMap.get s.mem.order range 0

def Device.setNext (s : Device) (range n : Nat) : Device :=
  { s with mem := { s.mem with order := SMap.keep s.mem.order range (n % 2 ^ 32) 0 } }

/-- The held pieces of a range. -/
def Device.heldIn (s : Device) (range : Nat) : List Piece := s.mem.held.filter (·.range == range)

/-- The stall timer of a range after NEXT has advanced: it starts again while pieces stay held, and stops otherwise (R226). -/
def Device.restartStall (s : Device) (range : Nat) : Device :=
  let stall := if (s.heldIn range).isEmpty then SMap.del s.mem.stall range else SMap.put s.mem.stall range s.now
  { s with mem := { s.mem with stall } }

/-- A piece in its turn is applied, NEXT advances, and so do the held pieces whose turn comes (R222). -/
def Device.applyInOrder (s : Device) (q : Piece) : Nat → Device
  | 0 => s
  | fuel + 1 =>
    let t := (s.applyPiece q).setNext q.range (s.nextOf q.range + 1)
    match t.mem.held.find? (fun h => h.range == q.range && h.seq == t.nextOf q.range) with
    | none => t.restartStall q.range
    | some h => ({ t with mem := { t.mem with held := t.mem.held.erase h } }).applyInOrder h fuel

/-- The bytes of a sill's staging region in use (R157). -/
def Device.stagedBytes (s : Device) (stack : Nat) : Nat :=
  total ((s.mem.held.filter (fun h => (s.place h.part h.pool 0 h.off).stack == stack)).map (·.data.length))

/-- Whether the staging region of a piece's sill has room for it; OD 0x3030 is its size in MiB. -/
def Device.hasRoom (s : Device) (q : Piece) : Bool :=
  decide (s.stagedBytes (s.place q.part q.pool 0 q.off).stack + q.data.length ≤ s.odGet 0 0x3030 0 * 1048576)

/-- A second contribution to a gradient plane under a SEQ whose first is still held (R258). -/
def Device.twinHeld (s : Device) (q : Piece) : Bool :=
  (s.pieceShard q).isSome && (s.heldIn q.range).any (fun h => h.seq == q.seq)

/-- The pane that sent a piece drops its cached copies of what the piece writes when its operation completes (R185). -/
def Device.noteWritten (s : Device) (first : Packet) (q : Piece) : Device :=
  match first.origin, s.op? first.tid with
  | some _, some o => s.setOp { o with wrote := o.wrote ++ sectorsOf (memKey q.part q.pool 0 q.off) (pieceBytes q) }
  | _, _ => s

/-- A whole piece at its sill (R222, R223, R258): applied, held, refused or deferred, with its answer to the source. Log entry 54 (DEDUCED). -/
def Device.takePiece (s : Device) (first : Packet) (part : Nat) (q : Piece) : Device :=
  let d := (q.seq + 2 ^ 32 - s.nextOf q.range) % 2 ^ 32
  if d = 0 then ((s.noteWritten first q).applyInOrder q (s.mem.held.length + 1)).respond first 8 stOk
  else if 2 ^ 31 ≤ d || s.twinHeld q then
    ((s.odCount part 0x6130 5 0 1).arrivalIncrement part q.rctr 1 stMalformed).respond first 8 stMalformed
  else if s.hasRoom q then
    let stall := if (s.heldIn q.range).isEmpty then SMap.put s.mem.stall q.range s.now else s.mem.stall
    ({ s with mem := { s.mem with held := s.mem.held ++ [q], stall } }.noteWritten first q).respond first 8 stOk
  else (s.odCount part 0x6130 4 0 1).respond first 0xB stResource

/-- The segments of a piece that have arrived, by index. -/
def Device.pieceSegments (s : Device) (p : Packet) : List Packet :=
  s.mem.segs.filter (fun q => q.src == p.src && q.tid == p.tid && q.job == p.job && q.taddr / 32768 == p.taddr / 32768)

/-- The segments in order, when the piece is whole: STATUS numbers them and marks the last (Table 13-4). -/
def wholePiece (segs : List Packet) : Option (List Packet) :=
  match segs.find? (fun q => bit q.status 6) with
  | none => none
  | some last =>
    let n := last.status % 64 + 1
    let got := (List.range n).filterMap (fun i => segs.find? (fun q => q.status % 64 == i))
    if got.length = n then some got else none

/-- A whole piece is checked and taken (Table 09-2, R222, R237). -/
def Device.checkPiece (s : Device) (part : Nat) (segs : List Packet) (first : Packet) : Device :=
  let data := segs.flatMap (·.data)
  let len := 4 * (data.length / contributionBytes first.elt)
  let fail (e : Nat) : Device := ((if first.rce then s.arrivalIncrement part first.rctr 1 e else s)).respond first 8 e
  if first.space != 0 then fail stAccess
  else
    match s.reach part first.src 0 first.taddr len .accumulate with
    | .error e => fail e
    | .ok (.ls _ _) => fail stAccess
    | .ok (.mem t) =>
      if t.map.kind != 0 then
        ((s.ignoreAccess part t.map.queue).arrivalIncrement part first.rctr 1 stOk).respond first 8 stOk
      else
        let bad := (segs.foldl (fun (acc : List Nat × Nat) g =>
          (acc.1 ++ g.poison.map (· + acc.2), acc.2 + g.data.length / contributionBytes first.elt / 8)) ([], 0)).1
        let q : Piece := { part := t.owner, pool := t.pool, range := rangeKey t.owner t.pool t.off, seq := first.arg,
                           off := t.off, elt := first.elt, data, bad, rctr := first.rctr, src := first.src, user := part, view := t.map.view }
        s.takePiece first part q

/-- An ACCPUT segment: it joins its piece, which is taken when it is whole (R221, R222). -/
def Device.accputPacket (s : Device) (p : Packet) : Device :=
  s.inJob p 8 (fun part =>
    let others := (s.pieceSegments p).filter (fun q => q.status % 64 != p.status % 64)
    let segs := s.mem.segs.filter (fun q => !(s.pieceSegments p).contains q) ++ others ++ [p]
    match wholePiece (others ++ [p]) with
    | none => { s with mem := { s.mem with segs } }
    | some whole =>
      let t := { s with mem := { s.mem with segs := s.mem.segs.filter (fun q => !(s.pieceSegments p).contains q) } }
      match whole with
      | [] => t
      | first :: _ => t.checkPiece part whole first)

def execAccputPacket (p : Packet) (s : State) : Host.Outcome State Fault Refusal := onDevice s fun s => packetRow 4 Device.accputPacket p s

/-! ## Stalled ranges -/

/-- A virtual address of the partition that maps onto a pool address; 0 where none does. -/
def Partition.vaOf (x : Partition) (owner pool off : Nat) : Nat :=
  (x.maps.findSome? (fun m =>
    if m.kind == 0 && m.owner == owner && m.pool == pool && decide (m.poff ≤ off ∧ off < m.poff + m.psz * m.count) then
      some (m.va + (off - m.poff))
    else none)).getD 0

/-- The stall timer of a range has reached the collective watchdog: its held pieces are discarded and ORDER_STALL is raised
(R226). -/
def execOrderStall (part pool range : Nat) (s : State) : Host.Outcome State Fault Refusal := onDevice s fun s =>
  let key := rangeKey part pool (range * 32768)
  match SMap.find s.mem.stall key with
  | none => .next s
  | some t0 =>
    if s.now < t0 + 1000 * s.odGet part 0x6112 0 then .next s
    else
      let n := (s.heldIn key).length
      let t := { s with mem := { s.mem with held := s.mem.held.filter (·.range != key), stall := SMap.del s.mem.stall key } }
      .next ((t.odCount part 0x6130 6 0 n).raisePart part 0x6002 2
        [((s.part part).vaOf part pool (range * 32768), 8), (s.nextOf key, 4)])

end Sys2Proof.Machine
end

