-- ==== Sys2Proof/Machine/Limits.lean ====
section
/-! DEFINITION. The voltage of each sash and the limits that set it (R417, R419, R421, R423, Table 19-1). -/

namespace Sys2Proof.Machine

def Device.sash (s : Device) (k : Nat) : SashSt := if k = 0 then s.power.sash0 else s.power.sash1

def Device.setSash (s : Device) (k : Nat) (x : SashSt) : Device :=
  if k = 0 then { s with power := { s.power with sash0 := x } } else { s with power := { s.power with sash1 := x } }

def Device.modSash (s : Device) (k : Nat) (f : SashSt → SashSt) : Device := s.setSash k (f (s.sash k))

/-- The voltage that software requests of a sash (OD 0x2020). -/
def Device.requested (s : Device) (k : Nat) : Nat := s.odGet 0 0x2020 0 k

/-- The lowest of the four values of R417, before its floor. -/
def Device.limitOf (s : Device) (k : Nat) : Nat :=
  let x := s.sash k
  min (min (s.requested k) (s.requested k - s.power.cut)) (min x.ceiling (if x.idle then 620 else 800))

/-- The voltage that a sash's regulator moves toward (R417). -/
def Device.target (s : Device) (k : Nat) : Nat := Nat.max 620 (s.limitOf k)

/-- FLOOR: the voltage is 620 mV and a limit would set it lower. -/
def Device.atFloor (s : Device) (k : Nat) : Bool := decide ((s.sash k).applied = 620 ∧ s.limitOf k < 620)

/-- A row of OD 0x2021 (Table 19-1). -/
def Device.voltRow (s : Device) (k : Nat) : Nat :=
  let x := s.sash k
  let cap := decide (0 < s.power.cut ∧ s.requested k - s.power.cut ≤ x.ceiling) && !x.idle
  let therm := decide (x.ceiling < s.requested k ∧ x.ceiling < s.requested k - s.power.cut) && !x.idle
  x.applied + 2 ^ 16 * cap.toNat + 2 ^ 17 * therm.toNat + 2 ^ 18 * x.idle.toNat + 2 ^ 19 * (s.atFloor k).toNat + 2 ^ 20 * x.off.toNat

/-- A row of OD 0x2061: 0 normal, 1 limited, 2 at 620 mV by R421, 3 tripped. -/
def SashSt.thermalCode (x : SashSt) : Nat :=
  if x.tripped then 3 else if x.ceiling ≤ 620 then 2 else if x.ceiling < 800 then 1 else 0

/-- OD 0x2000: IDLE while both sashes are idle (R423). -/
def Device.powerState (s : Device) : Nat :=
  if 2 ≤ s.power.state then s.power.state else if s.power.sash0.idle && s.power.sash1.idle then 1 else 0

end Sys2Proof.Machine
end

