-- ==== Sys2Proof/Machine/Units.lean ====
section
/-! DEFINITION. Retirable units: their history (R366–R368), spares (R370), retirement (R369), and what becomes of an active
pane number (R16, R20, R371–R373). -/

namespace Sys2Proof.Machine

/-! ## History (R367, R368) -/

/-- The row of OD 0x8020 of a unit: kind 0 cube row, 1 pane, 2 pseudo-channel, 3 lane. -/
def unitIndex (kind number : Nat) : Nat :=
  match kind with
  | 0 => number
  | 1 => 1690 + number
  | 2 => 2028 + number
  | _ => 3308 + number

/-- The units of a kind. -/
def unitCount (kind : Nat) : Nat :=
  match kind with
  | 0 => 1690
  | 1 => 338
  | 2 => 1280
  | _ => 96

/-- The in-field interval of the factory pack in seconds (R375): 168 h for panes, 720 h for pseudo-channels. Log entry 99 (PRESUMED). -/
def testInterval (kind : Nat) : Nat := if kind = 1 then 604800 else if kind = 2 then 2592000 else 0

/-- The in-field interval of a kind: the shortest of the factory pack's and the stored packs' (R375). Log entry 167 (DESIGN CHOICE). -/
def Device.interval (s : Device) (kind : Nat) : Nat :=
  ((s.mram.packs.map (fun p => Config.packInterval p.1 p.2.1 kind)).filter (· != 0)).foldl min (testInterval kind)

/-- A unit as shipped: the nine panes at the end of a sash and row 4 of a pane are spares (R19, R21). -/
def shippedUnit (kind number : Nat) : UnitRow :=
  { state := if (kind == 1 && decide (160 ≤ number % 169)) || (kind == 0 && number % 5 == 4) then .spare else .good
    due := testInterval kind }

def Device.unit (s : Device) (kind number : Nat) : UnitRow :=
  SMap.get s.units.history (unitIndex kind number) (shippedUnit kind number)

def Device.setUnit (s : Device) (kind number : Nat) (u : UnitRow) : Device :=
  { s with units := { s.units with history := SMap.put s.units.history (unitIndex kind number) u } }

def Device.modUnit (s : Device) (kind number : Nat) (f : UnitRow → UnitRow) : Device :=
  s.setUnit kind number (f (s.unit kind number))

/-- A unit is retired: its history, a row of OD 0x8021, and UNIT_RETIRED (R369). -/
def Device.retireUnit (s : Device) (kind cause number : Nat) : Device :=
  if (s.unit kind number).state = .retired then s
  else
    let r : Retirement := { kind, cause, number, opsec := s.units.opsec, time := s.now }
    let t := s.modUnit kind number (fun u => { u with state := .retired, dueAt := none, judged := false })
    ({ t with units := { t.units with retired := t.units.retired ++ [r] } }).raiseDev 0x8001 1 [(kind, 1), (number, 2)]

/-- A transient is recorded; whether it brings the unit to its limit (R366). -/
def Device.transient (s : Device) (kind number : Nat) : Device × Bool :=
  let t := s.modUnit kind number (fun u => { u with times := u.times ++ [s.units.opsec] })
  let window := s.odGet 0 0x8040 2
  let n := ((t.unit kind number).times.filter (fun x => decide (s.units.opsec ≤ x + window))).length
  (t, decide (s.odGet 0 0x8040 1 ≤ n))

/-- A test that passed: its count, LASTTEST and the next DUE (Table 16-7, R376). -/
def Device.testPassed (s : Device) (kind number : Nat) : Device :=
  s.modUnit kind number (fun u =>
    { u with tests := min (u.tests + 1) 65535, lasttest := s.units.opsec, dueAt := none, judged := false,
             due := if testInterval kind = 0 then u.due else s.units.opsec + s.interval kind })

/-! ## Panes and their numbers (R16, R19, R370) -/

/-- The active number that a physical pane stands for. -/
def Device.numberOf (s : Device) (phys : Nat) : Option Nat :=
  (List.range 320).find? (fun a => s.phys a == phys && s.paneState a != .vacant)

def Device.setPaneState (s : Device) (pane : Nat) (v : PaneState) : Device :=
  { s with units := { s.units with pstate := SMap.keep s.units.pstate pane v .active } }

def Device.setPhys (s : Device) (pane phys : Nat) : Device :=
  { s with units := { s.units with phys := SMap.keep s.units.phys pane phys (shippedPhys pane) } }

def Device.setMove (s : Device) (pane : Nat) (m : Option MoveKind) : Device :=
  let moves := match m with
    | some k => SMap.put s.units.moves pane k
    | none => SMap.del s.units.moves pane
  { s with units := { s.units with moves } }

/-! ## The row map of a pane (R98, R99) -/

/-- The retired rows and the offline row of a physical pane that its map has in force, and those that it has or takes on once its
steps in flight have their verdicts (R99). -/
def Device.rowsNow (s : Device) (phys : Nat) : Nat × Option Nat := (SMap.get s.units.rmask phys 0, SMap.find s.units.offline phys)
def Device.rowsNext (s : Device) (phys : Nat) : Nat × Option Nat := (SMap.find s.units.remap phys).getD (s.rowsNow phys)

/-- A physical pane's row map, in one step. -/
def Device.setRows (s : Device) (phys : Nat) (m : Nat × Option Nat) : Device :=
  let offline := match m.2 with
    | some r => SMap.put s.units.offline phys r
    | none => SMap.del s.units.offline phys
  { s with units := { s.units with rmask := SMap.keep s.units.rmask phys m.1 0, offline, remap := SMap.del s.units.remap phys } }

/-- A pane's map catches up with what was decided (R99). -/
def Device.applyRows (s : Device) (phys : Nat) : Device := s.setRows phys (s.rowsNext phys)

/-- A row map is decided: it is in force at once when no step of the pane is in flight, and otherwise once their verdicts are in
(R99). -/
def Device.planRows (s : Device) (phys : Nat) (m : Nat × Option Nat) : Device :=
  if (s.numberOf phys).any (fun a => !(s.pane a).steps.isEmpty) then
    { s with units := { s.units with remap := SMap.put s.units.remap phys m } }
  else s.setRows phys m

/-! ## Spares and what is lost with a pane (R16, R370, R372) -/

/-- Mesh hops between two panes of a sash: 13 panes to a row (R370). -/
def meshHops (a b : Nat) : Nat :=
  let d (x y : Nat) : Nat := (x - y) + (y - x)
  d (a % 169 / 13) (b % 169 / 13) + d (a % 169 % 13) (b % 169 % 13)

/-- The free spares of a sash. -/
def Device.freeSpares (s : Device) (sash : Nat) : List Nat :=
  (span (sash * 169) (sash * 169 + 169)).filter (fun p => (s.unit 1 p).state == .spare)

/-- The free spare that replaces a physical pane: fewest hops away, the lower number on a tie (R370). -/
def Device.spareFor (s : Device) (phys : Nat) : Option Nat :=
  match s.freeSpares (phys / 169) with
  | [] => none
  | p :: ps => some (ps.foldl (fun b q => if meshHops phys q < meshHops phys b then q else b) p)

/-- Operations held at a number's edge go on to be checked (R20). -/
def Device.deliverHeld (s : Device) (pane : Nat) : Device :=
  let p := s.pane pane
  let t := s.setPane pane { p with heldOps := [] }
  { t with fabric := { t.fabric with arrived := p.heldOps ++ t.fabric.arrived } }

/-- The cohorts resident on a pane. -/
def Device.cohortsOn (s : Device) (pane : Nat) : List Nat :=
  (s.cohorts.filter (fun kv => kv.2.pane == pane)).map Prod.fst

/-- The pane holds no cohort. -/
def Device.paneEmpty (s : Device) (pane : Nat) : Bool := (s.cohortsOn pane).isEmpty

/-- The remote operations of a pane end without completion: a later reply is late (R372, R385). -/
def Device.abandonOps (s : Device) (pane : Nat) : Device :=
  let mine := s.fabric.ops.filter (fun kv => kv.2.pane == pane && !kv.2.stats)
  let rest := s.fabric.ops.filter (fun kv => !(kv.2.pane == pane && !kv.2.stats))
  let tids := mine.map Prod.fst
  let expired := mine.foldl (fun m kv => SMap.put m kv.1 kv.2) s.fabric.expired
  let waiting := s.fabric.waiting.filter (fun w => !(w.2.src == s.chip && decide (w.2.type ≤ 5) && tids.contains w.2.tid))
  { s with fabric := { s.fabric with ops := rest, expired, waiting } }

/-- The memory requests and registrations of a pane are dropped with its state. -/
def Device.dropRequests (s : Device) (pane : Nat) : Device :=
  let mine (w : Waiter) : Bool := match w with
    | .path p _ _ => p == pane
    | .queue _ _ => false
  { s with mem := { s.mem with reqs := s.mem.reqs.filter (fun r => r.pane != pane || (r.load.isNone && !r.served)),
                               regs := s.mem.regs.filter (fun w => !mine w) } }

/-- The cohorts of a pane end with a fault code: one record for each resident group, LANES zero (R356). Log entry 45 (DEDUCED). -/
def Device.endCohorts (s : Device) (pane code status : Nat) : Device :=
  (s.cohortsOn pane).foldl (fun t ci =>
    let recs := ((t.pane pane).groups.filter (fun kg => kg.2.cohort == ci)).map (fun kg =>
      t.faultRec ci pane kg.1 kg.2 code 0xFF ((kg.2.cur?.map (·.pc)).getD 0) 0)
    t.stopCohort ci status recs) s

/-- The pane behind a number is replaced by an empty one: its groups, copies, queue and operations are gone, its cohorts end
(R372); operations held at its edge stay held. -/
def Device.emptyPane (s : Device) (pane : Nat) : Device :=
  let t := ((s.endCohorts pane 0x33 stRetired).abandonOps pane).dropRequests pane
  let p := t.pane pane
  (t.setPane pane { part := p.part, split := p.split, clears := p.clears + 1, heldOps := p.heldOps }).applyRows (t.phys pane)

/-- A number becomes VACANT; what is held at its edge is then answered RETIRED (R16, R372). -/
def Device.vacate (s : Device) (pane : Nat) : Device :=
  ((((s.emptyPane pane).setPaneState pane .vacant).setMove pane none).modPane pane (fun p => { p with paused := false })).deliverHeld
    pane

/-- A pane's number moves to a spare, which is then in use. -/
def Device.giveNumber (s : Device) (pane spare : Nat) : Device :=
  (((s.setPhys pane spare).modUnit 1 spare (fun u => { u with state := .good })).setPaneState pane .active).setMove pane none

/-- PANE_MIGRATED, to the device and the owning partition (Table 15-7). Log entry 101 (DEDUCED). -/
def Device.raiseMigrated (s : Device) (pane old new : Nat) : Device :=
  let ps := [(pane, 2), (old, 2), (new, 2)]
  let t := s.raiseDev 0x8002 0 ps
  match (s.parts.find? (fun kv => kv.2.state != .absent && kv.2.hasPane pane)) with
  | some kv => t.raisePart kv.1 0x8002 0 ps
  | none => t

/-- The cohorts of a number migrate to a spare of its sash (R371 stages 1 and 2); without one nothing begins. -/
def Device.startMigration (s : Device) (pane : Nat) (retire : Option Nat) : Option Device :=
  (s.spareFor (s.phys pane)).map (fun q =>
    ((s.modUnit 1 q (fun u => { u with state := .good })).setPaneState pane .migrating).setMove pane
      (some (.migrate q retire)))

/-- A pane of the same sash that stands for no number is under test, and may yet be its spare. -/
def Device.sparesTesting (s : Device) (phys : Nat) : Bool :=
  (span (phys / 169 * 169) (phys / 169 * 169 + 169)).any (fun p => (s.unit 1 p).state == .testing && (s.numberOf p).isNone)

/-- A number leaves a retired pane as the pane's contents stand: it passes to a spare of the sash, and with none left it becomes VACANT (R16, R370). -/
def Device.passOn (s : Device) (pane phys : Nat) : Device :=
  match s.spareFor phys with
  | some q => (((s.giveNumber pane q).modPane pane (fun p => { p with paused := false })).raiseMigrated pane phys q).deliverHeld pane
  | none => s.vacate pane

/-- Numbers that are held at retired panes go on, once a spare of their sash has come free or none can (R16). -/
def Device.rehome (s : Device) : Device :=
  s.units.moves.foldl (fun t am =>
    let phys := t.phys am.1
    if am.2 == .held && (t.unit 1 phys).state == .retired && ((t.spareFor phys).isSome || !t.sparesTesting phys) then t.passOn am.1 phys
    else t) s

/-- A physical pane is permanent (R365, R366, R369): it is retired; its number's cohorts migrate to a spare, or without one
the number becomes VACANT and they end. -/
def Device.retirePane (s : Device) (phys cause : Nat) : Device :=
  match s.numberOf phys with
  | none => s.retireUnit 1 cause phys
  | some a =>
    match SMap.find s.units.moves a with
    | some (.migrate q _) => s.setMove a (some (.migrate q (some cause)))
    | some .held => if s.sparesTesting phys && (s.spareFor phys).isNone then s.retireUnit 1 cause phys else (s.retireUnit 1 cause phys).passOn a phys
    | some .pause => (s.retireUnit 1 cause phys).passOn a phys
    | none =>
      if s.paneEmpty a then (s.retireUnit 1 cause phys).passOn a phys
      else
        match s.startMigration a (some cause) with
        | some t => t
        | none => (s.retireUnit 1 cause phys).vacate a

/-! ## Tests of panes (R365, R376) -/

/-- A pane's test begins: at once on an empty pane or a spare; with cohorts on it, they migrate first; with no spare it waits
(R376, R377). -/
def Device.startPaneTest (s : Device) (phys : Nat) (judged : Bool) : Device :=
  let t := s.modUnit 1 phys (fun u => { u with judged := u.judged || judged, dueAt := some (u.dueAt.getD s.now) })
  match s.numberOf phys with
  | none => t.modUnit 1 phys (fun u => { u with state := .testing })
  | some a =>
    if s.paneEmpty a then t.modUnit 1 phys (fun u => { u with state := .testing })
    else
      match SMap.find s.units.moves a with
      | some _ => t
      | none => (t.startMigration a none).getD t

/-- The number of a pane under test runs no work (R376). -/
def Device.underTest (s : Device) (pane : Nat) : Bool := (s.unit 1 (s.phys pane)).state == .testing

/-- A spare has come free or a pane has emptied: tests that wait past their deferral begin (R377). -/
def Device.retryTests (s : Device) : Device :=
  (s.units.history.filter (fun kv => decide (1690 ≤ kv.1 ∧ kv.1 < 2028))).foldl (fun t kv =>
    let phys := kv.1 - 1690
    match kv.2.dueAt, t.numberOf phys with
    | some d, some a =>
      if kv.2.state == .good && (SMap.find t.units.moves a).isNone
          && (t.paneEmpty a || kv.2.judged || decide (d + 1000000 * t.odGet 0 0x9000 0 ≤ t.now)) then
        t.startPaneTest phys kv.2.judged
      else t
    | _, _ => t) s

/-! ## Cube rows (R98–R100) -/

/-- The rows of a physical pane that its logical rows use, in ascending order. -/
def Device.logicalRows (s : Device) (phys : Nat) : List Nat :=
  let m := s.rowsNow phys
  ((List.range 5).filter (fun r => !bit m.1 r && m.2 != some r)).take 4

/-- The unused good row, if any. -/
def Device.spareRow (s : Device) (phys : Nat) : Option Nat :=
  if s.rowsNext phys = (0, none) && (s.unit 0 (phys * 5 + 4)).state == .spare then some 4 else none

/-- A cube row is retired: the spare row takes its place for good; a row that fails while another is retired or offline retires the pane
(R98, R100, Table 16-11). -/
def Device.retireRow (s : Device) (phys row cause : Nat) : Device :=
  let m := s.rowsNext phys
  let t := (s.retireUnit 0 cause (phys * 5 + row)).planRows phys (setBit m.1 row true, if m.2 = some row then none else m.2)
  if (m.1 == 0 || m.1 == 2 ^ row) && (m.2.isNone || m.2 == some row) then
    if row = 4 then t else t.modUnit 0 (phys * 5 + 4) (fun u => { u with state := .good })
  else t.retirePane phys cause

/-- A cube row's test begins: the spare row takes its place meanwhile, or it is tested in place with the matrix queue held
(Table 16-6). -/
def Device.startRowTest (s : Device) (phys row : Nat) (judged : Bool) : Device :=
  let t := s.modUnit 0 (phys * 5 + row) (fun u => { u with state := .testing, judged := u.judged || judged })
  if (s.spareRow phys).isSome && row != 4 then t.planRows phys ((s.rowsNext phys).1, some row) else t

/-- A cube row is suspect and is tested (R365). A second suspect while the first is offline has no spare: the pane is retired
(Table 16-11). Log entry 97 (DEDUCED). -/
def Device.suspectRow (s : Device) (phys row : Nat) : Device :=
  match (s.rowsNext phys).2 with
  | some r => if r = row then s else s.retirePane phys 1
  | none => s.startRowTest phys row true

/-- A row under test in place, a row map that waits for verdicts, and steps that wait for the map hold the pane's matrix queue (R99,
Table 16-6). -/
def Device.queueHeld (s : Device) (pane : Nat) : Bool :=
  let phys := s.phys pane
  (SMap.find s.units.remap phys).isSome || !(s.pane pane).redo.isEmpty || (s.logicalRows phys).any (fun r => (s.unit 0 (phys * 5 + r)).state == .testing)

end Sys2Proof.Machine
end

