-- ==== Sys2Proof/Machine/OdRead.lean ====
section
/-! DEFINITION. What a read of the object dictionary finds (R333, R351, R471): entries that report a part of the state, and
the rows of the tables that list objects. Every other entry reads as its stored value. -/

namespace Sys2Proof.Machine

/-! ## Rows -/

def PaneState.code (p : PaneState) : Nat := match p with | .active => 0 | .migrating => 1 | .vacant => 2

def UnitState.code (u : UnitState) : Nat :=
  match u with | .good => 0 | .spare => 1 | .testing => 2 | .retired => 3 | .unrepairable => 4

def PartState.code (p : PartState) : Nat := match p with | .absent => 0 | .active => 1 | .resizing => 2 | .destroying => 3

def PoolState.code (p : PoolState) : Nat := match p with | .zeroing => 0 | .ready => 1 | .releasing => 2

def DoorState.code (d : DoorState) : Nat :=
  match d with | .unused => 0 | .training => 1 | .up4 => 2 | .up3 => 3 | .retraining => 4 | .down => 5

/-- OD 0x1020: physical number and state (R19). -/
def Device.paneRow (s : Device) (a : Nat) : Nat := pack [(s.phys a, 16), ((s.paneState a).code, 8)]

/-- OD 0x1022 (Table 05-2). -/
def Device.cubeRow (s : Device) (a : Nat) : Nat :=
  let p := s.phys a
  let lr := s.logicalRows p
  let masked := SMap.get s.units.rmask p 0
  pack [(p, 16), (lr.getD 0 0, 3), (lr.getD 1 0, 3), (lr.getD 2 0, 3), (lr.getD 3 0, 3), ((s.spareRow p).getD 7, 3), (0, 1),
    (masked, 5), (0, 3), (if lr = [0, 1, 2, 3] then 24 else 25, 8), (0, 16)]

/-- OD 0x1120: id, partition, interface, address, idle milliseconds, last SEQ. -/
def Device.sessionRow (s : Device) (id : Nat) (x : Session) : Nat :=
  pack [(id, 16), (x.part, 8), (if x.iface = .host then 0 else 1, 8), (Config.reading 0x1120 id, 128),
    ((s.now - x.lastMsg) / 1000000, 32), (x.lastSeq, 32)]

/-- OD 0x3010 (Table 07-8). -/
def stackRow (k : Stack) : Nat :=
  pack [(k.temp, 8), (min k.level 2, 2), (k.level - 2, 2), (k.retrain.isSome.toNat, 1), (k.spent.isSome.toNat, 1),
    ((!k.unrep.isEmpty).toNat, 1), (0, 1), (k.spent.getD 0, 6), (k.unrep.foldl min 63 % (if k.unrep.isEmpty then 1 else 64), 6)]

/-- OD 0x3100 (Table 15-11). -/
def poolRow (number : Nat) (p : Pool) : Nat :=
  pack [(number, 3), (p.mirror.toNat, 1), (p.shared.toNat, 1), (p.state.code, 2), (0, 1), (p.set, 20), (0, 4), (p.size / 2 ^ 21, 32)]

/-- The lanes of a door that carry traffic. -/
def Door.laneMask (d : Door) : Nat := if d.state.carries then (~~~d.bad).toNat else 0

/-- OD 0x4010: state, lane mask, peer role, peer chip, peer door, link delay in ps. -/
def doorRow (d : Door) : Nat :=
  pack [(d.state.code, 8), (d.laneMask, 8), ((d.peer.map (·.role)).getD 0, 8), ((d.peer.map (·.chip)).getD 0xFFF, 16),
    ((d.peer.map (·.door)).getD 0, 8), (ofInt 64 d.delay, 64)]

/-- OD 0x4040: corrected symbols, discarded blocks, replays, retrains, dropped packets. -/
def doorErrors (d : Door) : Nat :=
  pack [(d.symbols, 64), (d.discards, 64), (d.replays, 64), (d.retrains, 64), (d.drops, 64)]

/-- What a partition's pools consume in bytes (R275). -/
def Partition.consumed (x : Partition) : Nat := total (x.pools.map (fun kv => kv.2.size * (if kv.2.mirror then 2 else 1)))

/-- OD 0x6000 (Table 15-12). -/
def partitionRow (x : Partition) : Nat :=
  pack [(x.desc, 512), (x.qbase, 16), (ceilDiv x.consumed (2 ^ 30), 16), (x.state.code, 2)]

/-- OD 0x6100 (Table 15-13). -/
def queueRow (n : Nat) (q : Queue) : Nat :=
  pack [(n, 14), (q.prio, 2), (q.weight, 8), (q.admin.toNat, 1), (q.logsz, 5), (q.state.code, 2), (q.head, 32), (q.tail, 32),
    (q.total, 64)]

/-- OD 0x7120 (Table 15-15). -/
def shardRow (k : Shard) : Nat :=
  pack [(fld k.desc 0 57, 57), (0, 7), (fld k.desc 64 19, 19), (k.sill, 5), (fld k.desc 112 4, 4),
    (if k.leaving.isSome then 2 else 1, 2), (0, 2), (fld k.desc 128 32, 32)]

/-- OD 0x5100 (Table 15-16) of a connected pair; a row that is not connected holds its QPN alone. -/
def qpRow (qpn : Nat) (q : Option Qp) : Nat :=
  match q with
  | none => qpn % 2 ^ 24
  | some q => pack [(qpn, 24), (q.state, 2), (0, 6), (q.epsn, 24), (q.lstatus, 8), (q.sends, 64)]

/-- The rkey of R320 of a key: its index in the device, and its generation above it. -/
def rkeyOf (part kidx : Nat) (k : MKey) : Nat := pack [(kidx, 11), (part, 5), (k.gen, 16)]

/-- OD 0x5121 (Table 15-17). -/
def keyRow (part kidx : Nat) (k : MKey) : Nat :=
  pack [(kidx, 11), (k.write.toNat, 1), (k.read.toNat, 1), (0, 19), (rkeyOf part kidx k, 32), (k.va, 57), (0, 7), (k.len, 64)]

/-- OD 0x8020 (Table 16-7). -/
def Device.historyRow (s : Device) (kind number : Nat) : Nat :=
  let u := s.unit kind number
  let window := s.odGet 0 0x8040 2
  let recent := (u.times.filter (fun t => decide (s.units.opsec ≤ t + window))).length
  pack [(kind, 4), (u.state.code, 4), (number, 16), (min recent 255, 8), (min u.tests 65535, 16), (min u.corr 65535, 16),
    (u.lasttest, 32), (u.due, 32)]

/-- OD 0x8021 (Table 16-8). -/
def retirementRow (r : Retirement) : Nat :=
  pack [(r.kind, 4), (r.cause, 4), (r.number, 16), (0, 8), (r.opsec, 32), (r.time, 64)]

/-- The unit of a row of OD 0x8020. -/
def unitOfRow (i : Nat) : Nat × Nat :=
  if i < 1690 then (0, i) else if i < 2028 then (1, i - 1690) else if i < 3308 then (2, i - 2028) else (3, i - 3308)

/-- OD 0x9020: unit, deadline and state of each test that is due. -/
def Device.dueRows (s : Device) : List Nat :=
  s.units.history.filterMap (fun kv => kv.2.dueAt.map (fun d =>
    let u := unitOfRow kv.1
    pack [(u.1, 8), (u.2, 16), (d + 1000000 * s.odGet 0 0x9000 0, 64), (kv.2.state.code, 8)]))

/-- OD 0xA020 (Table 18-9). -/
def snapRow (r : SnapRow) : Nat :=
  pack [(r.id, 32), (r.state, 3), (r.held.toNat, 1), (0, 12), (r.buddy, 12), (0, 4), (r.step, 64), (r.tarm, 64),
    (min r.cost (2 ^ 24 - 1), 24), (ofInt 8 r.kls, 8), (r.run, 32)]

/-- The bytes of the pools that a copy covers. -/
def snapBytes (h : SnapHeader) : Nat := total (h.pools.map Prod.snd)

/-- OD 0xA021: ORIGIN, SNAPID, state, held, bytes. -/
def copyRow (c : BuddyCopy) : Nat :=
  pack [(c.origin, 16), (c.id, 32), (c.state, 8), (if c.held = 0 then 0 else 1, 8), (snapBytes c.head, 64)]

/-- OD 0xC000: mma executed, array steps, vector slices, remote operations, bytes in and out. -/
def perfRow (p : Perf) : Nat :=
  pack [(p.mma, 64), (p.steps, 64), (p.slices, 64), (p.remote, 64), (p.bytesIn, 64), (p.bytesOut, 64)]

/-- OD 0xB030: KIND, ID, CVER and digest (R433). -/
def measureRow (r : Nat × Nat × Nat × BitVec 512) : Nat :=
  pack [(r.1, 8), (r.2.1, 16), (r.2.2.1, 32), (r.2.2.2.toNat, 512)]

/-- The panes of a partition's set, ascending. -/
def Partition.panes (x : Partition) : List Nat := (List.range 320).filter x.hasPane

/-- OD 0x2031: hot spots, stacks, frame dies, coolant in and out, in millikelvin. -/
def Device.temperature (s : Device) (row : Nat) : Nat :=
  if row < 2 && (s.sash row).hotSeen then (s.sash row).hot * 1000 + 273150
  else if 2 ≤ row && decide (row < 22) && (SMap.find s.stackAt (row - 2)).isSome then (s.stack (row - 2)).temp * 1000 + 273150
  else Config.reading 0x2031 row

/-- The rows of a table that reports a part of the state. Log entry 15 (DESIGN CHOICE). -/
def Device.odList (s : Device) (part index : Nat) : Option (List Nat) :=
  let x := s.part part
  match index with
  | 0x1020 => some ((List.range 320).map s.paneRow)
  | 0x1021 => some [(s.freeSpares 0).length, (s.freeSpares 1).length]
  | 0x1022 => some ((List.range 320).map s.cubeRow)
  | 0x1120 => some ((s.transom.sessions.filter (fun kv => kv.2.opened)).map (fun kv => s.sessionRow kv.1 kv.2))
  | 0x2021 => some [s.voltRow 0, s.voltRow 1]
  | 0x2030 => some ((List.range 7).map (Config.reading 0x2030))
  | 0x2031 => some ((List.range 26).map s.temperature)
  | 0x2032 => some [s.boot.vin, Config.reading 0x2032 1]
  | 0x2061 => some [s.power.sash0.thermalCode, s.power.sash1.thermalCode]
  | 0x3010 => some ((List.range 20).map (fun k => stackRow (s.stack k)))
  | 0x3100 => some (x.pools.map (fun kv => poolRow kv.1 kv.2))
  | 0x4010 => some ((List.range 24).map (fun d => doorRow (s.door d)))
  | 0x4040 => some ((List.range 24).map (fun d => doorErrors (s.door d)))
  | 0x5020 => some [pack ([s.host.framesIn, s.host.framesOut, s.host.discarded, s.host.pauseOut, s.host.pauseIn, s.host.cnpOut,
      s.host.cnpIn].map (fun n => (n, 64)))]
  | 0x5100 => some ((List.range (fld x.desc 144 13)).map (fun n => qpRow (0x1000 + x.qpbase + n) (SMap.find x.qps n)))
  | 0x5121 => some (x.keys.map (fun kv => keyRow part kv.1 kv.2))
  | 0x6000 => some ((List.range 32).map (fun n => partitionRow (s.part n)))
  | 0x6100 => some (x.queues.map (fun kv => queueRow kv.1 kv.2))
  | 0x6131 => some x.late
  | 0x6150 => some [s.useRow part 0, s.useRow part 1, s.useRow part 2]
  | 0x7120 => some (x.shards.map (fun kv => shardRow kv.2))
  | 0x8000 => some s.transom.log
  | 0x8001 => some x.events
  | 0x8020 => some ((List.range 3404).map (fun i => s.historyRow (unitOfRow i).1 (unitOfRow i).2))
  | 0x8021 => some (s.units.retired.map retirementRow)
  | 0x9010 => some ((0, 0, 0, 0) :: s.mram.packs |>.map (fun k => pack [(k.1, 16), (k.2.1, 32), (k.2.2.1, 8), (k.2.2.2, 32)]))
  | 0x9020 => some s.dueRows
  | 0xA020 => some (x.snap.rows.map snapRow)
  | 0xA021 => some (x.snap.copies.map copyRow)
  | 0xB000 => some ((List.range 16).map (fun r => Config.factory (0xB0000000 + r)))
  | 0xB002 => some ((List.range 8).map (fun r => fld s.boot.report (8192 * r) 8192))
  | 0xB003 => some ((List.range 8).map (fun r => fld s.boot.aliasCert (8192 * r) 8192))
  | 0xB030 => some (s.boot.rows.map measureRow)
  | 0xC000 => some (x.panes.map (fun a => perfRow (s.pane a).perf))
  | 0xC010 => some ((List.range 46).map (fun r => Config.utilisation r s.free % 1000001))
  | _ => none

/-! ## Single values -/

/-- The bytes of memory in no pool (OD 0x3000.03). -/
def Device.freeBytes (s : Device) : Nat := s.odGet 0 0x3000 2 - total (s.parts.map (fun kv => kv.2.consumed))

/-- OD 0x6006: active panes in no set. -/
def Device.freePanes (s : Device) : Nat :=
  total ((List.range 320).map (fun a =>
    if s.parts.all (fun kv => kv.2.state == .absent || (!kv.2.hasPane a && !kv.2.removing.contains a)) then 2 ^ a else 0))

/-- The lowest of the rates that some monitors have reported; 0 where none has. -/
def Device.lowestRate (s : Device) (monitors : List Nat) : Nat :=
  let rates := monitors.filterMap (SMap.find s.power.rates)
  (rates.head?.map (fun r => rates.foldl Nat.min r)).getD 0

/-- OD 0x2040 (Table 02-1). -/
def Device.rateEntry (s : Device) (sub : Nat) : Nat :=
  match sub with
  | 0x11 => s.lowestRate (List.range 8)
  | 0x12 => s.lowestRate (span 8 16)
  | 0x13 => s.lowestRate (List.range 16)
  | n => SMap.get s.power.rates (n - 1) 0

/-- OD 0x8052: event, thermal, FAULT (R455). -/
def Device.alertBits (s : Device) : Nat :=
  s.transom.alerts.toNat + 2 * (s.power.sash0.tripped || s.power.sash1.tripped || s.power.thermalShutter).toNat
    + 4 * (s.boot.state == 4).toNat

/-- ALERT_N is driven low (R455). Log entry 126 (DEDUCED). -/
def Device.alertLow (s : Device) : Bool := s.alertBits != 0 && s.boot.pwrgd && !s.boot.resetLow

/-- OD 0x1011 (Table 20-12). -/
def Device.bootStatus (s : Device) : Nat :=
  pack [(s.boot.stage, 8), (s.boot.reason, 8), (s.boot.rejects, 8), (0, 8), (s.boot.staget, 64)]

/-- OD 0xB020: the SHA3-512 of the owner's public key, zero while unclaimed. -/
def Device.ownerDigest (s : Device) : Nat := if s.mram.owner.isEmpty then 0 else (Config.sha3 s.mram.owner).toNat

/-- A simple value or record sub-entry that reports a part of the state. -/
def Device.odScalar (s : Device) (part index sub : Nat) : Option Nat :=
  let x := s.part part
  match index, sub with
  | 0x1000, 2 => some (Config.factory 2 % 2 ^ 128)
  | 0x1000, 3 => some (Config.factory 3 % 2 ^ 16)
  | 0x1000, 4 => some (Config.factory 4 % 2 ^ 32)
  | 0x1000, 5 => some s.boot.version
  | 0x1010, _ => some s.boot.state
  | 0x1011, _ => some s.bootStatus
  | 0x1040, _ => some s.boot.slot
  | 0x1041, _ => some s.boot.clock
  | 0x1104, _ => some s.mram.sealed.toNat
  | 0x2000, _ => some s.powerState
  | 0x2040, 0 => none
  | 0x2040, n => some (s.rateEntry n)
  | 0x3000, 3 => some s.freeBytes
  | 0x4080, 1 => some s.now
  | 0x4080, 2 => some s.lintel.state
  | 0x4080, 3 => some (ofInt 64 s.lintel.domainOff)
  | 0x4080, 4 => some (ofInt 64 s.lintel.frameOff)
  | 0x4080, 5 => some (ofInt 64 s.lintel.slew)
  | 0x5001, _ => some s.host.link
  | 0x5002, _ => some (Config.factory 0x5002 % 2 ^ 96)
  | 0x5010, 3 => some s.host.ptpState
  | 0x5010, 4 => some (ofInt 64 s.host.ptpOffset)
  | 0x5010, 5 => some s.host.grandmaster
  | 0x5101, _ => some x.qpbase
  | 0x5200, 6 => some s.host.sideband
  | 0x6005, _ => some x.desc
  | 0x6006, _ => some s.freePanes
  | 0x6007, _ => some x.qbase
  | 0x6120, _ => some x.job
  | 0x8052, _ => some s.alertBits
  | 0xB004, _ => some (Config.sha3 (Config.publicKey (Config.factory 1))).toNat
  | 0xB011, _ => some s.mram.fuseFloor
  | 0xB020, _ => some s.ownerDigest
  | _, _ => none

/-- Row 0 of OD 0x6140 is the pane set, and row 0 of OD 0xB040 the owner; OD 0x4030 is the route table; OD 0x4070 names
the own chip until it is written (Table 12-10, R303, R442, Table 13-9), and is stored with bit 4096 set once it is. -/
def Device.odStored (s : Device) (part index sub row : Nat) : Nat :=
  if index = 0x6140 && row == 0 then fld (s.part part).desc 192 320
  else if index = 0xB040 && row == 0 then s.ownerDigest
  else if index = 0x4030 then s.routeRow row
  else if index = 0x4070 then (if s.odGet part index sub row = 0 then 2 ^ s.chip else s.odGet part index sub row % 2 ^ 4096)
  else s.odGet part index sub row

/-- The current number of rows of a table (R331). -/
def Device.odRows (s : Device) (part : Nat) (e : Entry) : Nat := ((s.odList part e.index).map List.length).getD e.rows

/-- What a read finds at an entry, or at a row of a table. -/
def Device.odRead (s : Device) (part : Nat) (e : Entry) (row : Nat) : Nat :=
  if e.type = .table then
    match s.odList part e.index with
    | some l => l.getD row 0
    | none => s.odStored part e.index e.sub row
  else (s.odScalar part e.index e.sub).getD (s.odStored part e.index e.sub row)

end Sys2Proof.Machine
end

