-- ==== Sys2Proof/Machine/Transom.lean ====
section
/-! DEFINITION. Transom requests (R342–R347): the header checks, the sequence rule, the reach of a session (R340, Table
14-5), the checks of a written value (R332), and actions (R335). -/

namespace Sys2Proof.Machine

/-! ## Answers -/

/-- The 12 bytes of an address (R343). -/
def addressBytes (index sub row nrows : Nat) : List Byte := bytesOf (pack [(index, 16), (sub, 8), (0, 8), (row, 32), (nrows, 16)]) 12

/-- The address of a request. -/
def ownAddress (m : TMsg) : List Byte := addressBytes m.index m.sub m.row m.nrows

def Device.session? (s : Device) (id : Nat) : Option Session := SMap.find s.transom.sessions id

/-- A request is answered: its response is sent and kept, and the session can take its next request (R344, R346). Nothing
is sent to a session that has closed (R347). -/
def Device.reply (s : Device) (m : TMsg) (type status more : Nat) (body : List Byte) : Device :=
  match s.session? m.session with
  | none => s
  | some x =>
    (s.setSession m.session { x with kept := some (type + 0x80, status + 256 * more, body), busy := none, lastMsg := s.now }).emit
      (.response x.iface m.session (type + 0x80) m.seq status more body)

/-- A request is answered with a status and its address alone (R344). -/
def Device.answer (s : Device) (m : TMsg) (type status : Nat) : Device := s.reply m type status 0 (ownAddress m)

/-! ## Header and sequence (R324, R342, R346) -/

/-- The host port is in delivery mode: a start before the bundle has passed (R435, Table 20-6). -/
def Device.delivering (s : Device) : Bool := decide (s.boot.stage < 6)

/-- Whether Transom travels on an interface now: the host port's link is up and out of delivery mode (R435), and the sideband
answers (R328). -/
def Device.carries (s : Device) (i : Iface) : Bool :=
  match i with
  | .host => decide (2 ≤ s.host.link) && !s.delivering
  | .sideband => s.host.sideband != 0

/-- The bytes of a request's body. -/
def bodyLength (type : Nat) (m : TMsg) : Nat := if type = 3 || type = 4 || type = 5 then 12 + m.value.length else m.value.length

/-- The greatest payload of an interface (R324). -/
def payloadLimit (i : Iface) : Nat := match i with | .host => 8192 | .sideband => 1400

/-- Whether a message passes to a session at all (R342); any other is discarded and counted. -/
def headerOk (type : Nat) (m : TMsg) (x : Session) : Bool :=
  m.ver == 1 && m.lenOk && x.opened && x.iface == m.iface && m.tagOk && decide (bodyLength type m ≤ payloadLimit m.iface)

/-- A request of a type: discarded, refused, repeated from the kept response, or executed (R342, R346). A message that comes
while another of its session executes is discarded. Log entries 7 (DESIGN CHOICE), 72 (DEDUCED), 76 (DESIGN CHOICE). -/
def Device.request (s : Device) (type : Nat) (m : TMsg) (k : Device → Session → Device) : Device :=
  match s.session? m.session with
  | none => if s.carries m.iface then s.odCount 0 0x1122 0 0 1 else s
  | some x =>
    if !s.carries m.iface then s
    else if !headerOk type m x then s.odCount 0 0x1122 0 0 1
    else
      let x := { x with lastMsg := s.now }
      let t := s.setSession m.session x
      if m.rsv != 0 then
        t.emit (.response x.iface m.session (type + 0x80) m.seq stMalformed 0 (if bodyLength type m = m.value.length then [] else ownAddress m))
      else if x.busy.isSome then t
      else if m.seq = x.lastSeq then
        match x.kept with
        | some (ty, st, body) => t.emit (.response x.iface m.session ty m.seq (st % 256) (st / 256) body)
        | none => t
      else if m.seq = (x.lastSeq + 1) % 2 ^ 32 then
        let y := { x with lastSeq := m.seq, kept := none, busy := some m.seq }
        k (t.setSession m.session y) y
      else
        t.emit (.response x.iface m.session (type + 0x80) m.seq stMalformed 0 (bytesOf ((x.lastSeq + 1) % 2 ^ 32) 4))

/-! ## Reach (R340, R341, Table 14-5, R444) -/

/-- A row of OD 0x1110 that grants an index to a partition, for writing or not (Table 15-3). -/
def grants (row part index : Nat) (write : Bool) : Bool :=
  bit row 38 && fld row 32 5 == part && decide (fld row 0 16 ≤ index ∧ index ≤ fld row 16 16) && (!write || bit row 37)

/-- DEV entries that every partition reads (R340). -/
def defaultGrants : List Nat := [0x1000, 0x1010, 0x1020, 0x1021, 0x1022, 0x2040, 0x3000, 0x4010, 0x4080]

/-- The entries that only a session of partition 0 is granted (R270). -/
def ownerOnly : List Nat := [0x6002, 0x6003, 0x6004, 0x6006]

/-- What the sideband reaches for reading and for writing (Table 14-5, R444). -/
def sidebandReach (index : Nat) (write : Bool) : Bool :=
  match index / 4096 with
  | 1 => !write
  | 2 => true
  | 4 => !write
  | 5 => !write || index == 0x5200
  | 8 => !write
  | 0xA => index == 0xA100
  | 0xB => !write && [0xB004, 0xB010, 0xB011, 0xB020, 0xB030].contains index
  | _ => false

/-- Whether a session reaches an entry, for reading or for writing (R328, R340, R444). -/
def Device.reaches (s : Device) (x : Session) (e : Entry) (write : Bool) : Bool :=
  match x.iface with
  | .sideband => e.scope == .dev && sidebandReach e.index write && !(write && x.readOnly)
  | .host =>
    match e.scope with
    | .part => true
    | .dev =>
      x.part == 0 || (!write && defaultGrants.contains e.index)
        || (!ownerOnly.contains e.index && (List.range 256).any (fun r => grants (s.odGet 0 0x1110 0 r) x.part e.index write))

/-- The access code as a session may use it (R9, R339, R340). -/
def Device.accessOf (s : Device) (x : Session) (e : Entry) : Access :=
  let acc := if e.acc = .ws && s.mram.sealed then .ro else e.acc
  if s.reaches x e true then acc else if acc = .wo then .wo else .ro

/-- The device has reached Ready at this start, and is not at FAULT (R437, R393). -/
def Device.ready (s : Device) : Bool := s.boot.stage == 9 && s.boot.state != 4

/-- Whether an entry is served on an interface now: before Ready, only some ranges are, and only on the sideband (R338, R437). -/
def Device.serves (s : Device) (i : Iface) (index : Nat) : Bool :=
  s.ready || (i == .sideband && ([1, 2, 8, 0xB].contains (index / 4096) || index == 0x5200))

/-- The partition whose copy of an entry a session of a partition reaches. -/
def copyPart (e : Entry) (part : Nat) : Nat := if e.scope = .dev then 0 else part

/-- The entry of a request within reach, or the status that refuses it (R340, R343). Log entries 73 (DEDUCED), 170 (DESIGN CHOICE). -/
def Device.entryFor (s : Device) (x : Session) (m : TMsg) (write : Bool) : Except Nat Entry :=
  if !s.serves x.iface m.index then .error stResource
  else
    match odEntry m.index m.sub with
    | none =>
      match odEntry m.index 0 with
      | some e => if s.reaches x e write then .error (if e.type = .table then stMalformed else stAccess) else .error stAccess
      | none => .error stAccess
    | some e =>
      if !s.reaches x e write then .error stAccess
      else if m.arsv != 0 || (e.type != .table && (m.row != 0 || m.nrows != 0)) then .error stMalformed
      else .ok e

/-! ## Written values (R332, R341) -/

/-- A numerics profile that R145 admits. -/
def profileOk (p : Nat) : Bool := bit p 7 && fld p 0 2 != 3 && fld p 5 2 == 0 && !(bit p 4 && fld p 0 2 != 0)

/-- One step of a UTF-8 check: none after an error, else the continuation bytes to come and the range of the next. -/
def utf8Step (st : Option (Nat × Nat × Nat)) (b : Nat) : Option (Nat × Nat × Nat) :=
  match st with
  | none => none
  | some (0, _, _) =>
    if b < 0x80 then some (0, 0, 0)
    else if b < 0xC2 then none
    else if b < 0xE0 then some (1, 0x80, 0xBF)
    else if b = 0xE0 then some (2, 0xA0, 0xBF)
    else if b = 0xED then some (2, 0x80, 0x9F)
    else if b < 0xF0 then some (2, 0x80, 0xBF)
    else if b = 0xF0 then some (3, 0x90, 0xBF)
    else if b < 0xF4 then some (3, 0x80, 0xBF)
    else if b = 0xF4 then some (3, 0x80, 0x8F)
    else none
  | some (n + 1, lo, hi) => if lo ≤ b ∧ b ≤ hi then some (n, 0x80, 0xBF) else none

/-- Valid UTF-8, with no byte but zero after the first zero byte (Table 15-2). -/
def strOk (v : List Byte) : Bool :=
  let text := v.takeWhile (· != 0)
  (v.drop text.length).all (· == 0) && ((text.foldl (fun st b => utf8Step st b.toNat) (some (0, 0, 0))).map (·.1) == some 0)

/-- A row of OD 0x1110 that R341 admits. -/
def grantOk (v : Nat) : Bool :=
  let first := fld v 0 16
  let last := fld v 16 16
  let touches (lo hi : Nat) : Bool := decide (first ≤ hi ∧ lo ≤ last)
  fld v 39 25 == 0 &&
    (!bit v 38 || (fld v 32 5 != 0 && decide (first ≤ last)
      && !(bit v 37 && (touches 0x1000 0x11FF || touches 0x6000 0x60FF || touches 0xB000 0xBFFF))))

/-- The range of a row of OD 0xA120 (Table 17-3). -/
def watchdogOk (row v : Nat) : Bool :=
  match row with
  | 0 => decide (1 ≤ v ∧ v ≤ 1000)
  | 1 => decide (10 ≤ v ∧ v ≤ 10000)
  | 2 => decide (100 ≤ v ∧ v ≤ 60000)
  | 3 => decide (1000 ≤ v ∧ v ≤ 60000)
  | _ => decide (30000 ≤ v ∧ v ≤ 600000)

/-- The checks of an entry's own chapter on a value or a row. -/
def Device.entryOk (s : Device) (part : Nat) (e : Entry) (row v : Nat) : Bool :=
  match e.index with
  | 0x1110 => grantOk v
  | 0x2010 => decide (v ≤ s.odGet 0 0x2011 0)
  | 0x2020 => decide (620 ≤ v ∧ v ≤ 800) && v % 5 == 0
  | 0x4000 => fld v 0 2 != 3 && fld v 2 6 == 0 && decide (fld v 20 5 < 24) && fld v 26 6 == 0
  | 0x5006 => decide (v < 8) || v == 255
  | 0x7000 => e.sub != 1 || profileOk v
  | 0x7110 => !(e.sub == 1 && v % 128 != 0) && !(e.sub == 2 && v % 64 != 0) && !(e.sub == 3 && v % 8 != 0)
  | 0x9001 => decide (s.odGet 0 0x9000 0 ≤ v)
  | 0xA120 => watchdogOk row v
  | 0xB010 => decide (s.odGet part 0xB010 0 ≤ v)
  | _ => true

/-- The checks of a value's type and range (Table 15-2). -/
def typeOk (e : Entry) (bytes : List Byte) : Bool :=
  let v := ofBytes bytes
  bytes.length == e.width &&
    match e.type with
    | .bool | .u8 | .u16 | .u32 | .u64 | .enum8 | .ltime | .f32 => decide (e.lo ≤ (v : Int) ∧ (v : Int) ≤ e.hi)
    | .i64 => decide (e.lo ≤ sfld v 0 64 ∧ sfld v 0 64 ≤ e.hi)
    | .str => strOk bytes
    | .bits32 | .blob | .table => true

/-- Any partition holds a pane (R292, R337). -/
def Device.anyPanes (s : Device) : Bool := s.parts.any (fun kv => kv.2.state != .absent && fld kv.2.desc 192 320 != 0)

/-- Entries that the state of the machine closes for writing for now (R157, R292, R303, R310, Table 10-8). Log entry 71 (DEDUCED). -/
def Device.writeBusy (s : Device) (part : Nat) (e : Entry) : Bool :=
  match e.index with
  | 0x4000 | 0x4020 | 0x4021 | 0x4022 | 0x4030 => s.anyPanes
  | 0x3030 => !s.mem.held.isEmpty
  | 0x4070 => !(s.part part).shards.isEmpty
  | 0x7110 => e.sub != 6 && e.sub != 7 && !(s.part part).shards.isEmpty
  | _ => false

/-- A write of a PART entry of a fenced partition is refused, but for a context reset and a restore (Table 17-5). -/
def Device.writeFenced (s : Device) (part : Nat) (e : Entry) : Bool :=
  e.scope == .part && (s.part part).fence != .none && e.index != 0xA110 && e.index != 0xA030

/-! ## Actions (R335) -/

/-- The sequence of an action: its partition's, or the device's. -/
def sequenceOf (e : Entry) (part : Nat) : Nat := if e.scope = .dev then 32 else part

/-- The status of the last action on a copy of an X entry. -/
def Device.lastStatus (s : Device) (part : Nat) (e : Entry) : Nat :=
  if e.scope = .dev then SMap.get s.transom.devStatus e.index 0 else SMap.get (s.part part).lastStatus e.index 0

def Device.setLastStatus (s : Device) (part : Nat) (e : Entry) (status : Nat) : Device :=
  if e.scope = .dev then { s with transom := { s.transom with devStatus := SMap.put s.transom.devStatus e.index status } }
  else s.modPart part (fun x => { x with lastStatus := SMap.put x.lastStatus e.index status })

/-- An action completes: its status is kept with its entry, its sequence goes on, and its write is answered. Log entry 169 (DESIGN CHOICE). -/
def Device.finishAction (s : Device) (part : Nat) (m : TMsg) (status : Nat) : Device :=
  match odEntry m.index m.sub with
  | none => s
  | some e =>
    let acting := s.transom.acting.filter (fun kv => !(kv.1 == sequenceOf e part && kv.2.2 == m))
    let t := { s with transom := { s.transom with acting } }
    (t.setLastStatus part e status).answer m 4 status

/-- The action of an X entry: it runs, and either answers a status at once or goes on with its message kept by what runs
it. -/
abbrev ActionBody := Device → Nat → TMsg → Device × Option Nat

/-- An action starts. -/
def Device.runAction (s : Device) (e : Entry) (part : Nat) (m : TMsg) (k : ActionBody) : Device :=
  let seq := sequenceOf e part
  let queued := s.transom.queued.filter (· != (part, m))
  let acting := SMap.put s.transom.acting seq (part, m)
  let r := k { s with transom := { s.transom with queued, acting } } part m
  match r.2 with
  | some status => r.1.finishAction part m status
  | none => r.1

/-- The actions of a sequence that wait, oldest first. -/
def Device.waitingIn (s : Device) (seq : Nat) : List (Nat × TMsg) :=
  s.transom.queued.filter (fun pm => (odEntry pm.2.index pm.2.sub).any (fun e => sequenceOf e pm.1 == seq))

/-- A management command of a partition executes from one of its queues (R279). -/
def Device.queueManages (s : Device) (part : Nat) : Bool :=
  (s.part part).queues.any (fun kq => kq.2.running.any (fun r => decide (0x10 ≤ r.opc)))

/-- An action runs when its sequence is free and no earlier one waits; else it waits (R335). A management command also waits for
one that a queue runs (R279). Log entry 74 (DESIGN CHOICE). -/
def Device.startAction (s : Device) (e : Entry) (part : Nat) (m : TMsg) (k : ActionBody) : Device :=
  let seq := sequenceOf e part
  let first := (s.waitingIn seq).head?
  let managed := e.index == 0x6010 && s.queueManages part
  if (SMap.find s.transom.acting seq).isNone && (first.isNone || first == some (part, m)) && !managed then
    s.runAction e part m k
  else if s.transom.queued.contains (part, m) then s
  else { s with transom := { s.transom with queued := s.transom.queued ++ [(part, m)] } }

/-- A write of an X entry past its header: what refuses it, or its action (R332, R335, R340). -/
def Device.writeAction (s : Device) (x : Session) (m : TMsg) (k : ActionBody) : Device :=
  match s.entryFor x m true with
  | .error st => s.answer m 4 st
  | .ok e =>
    if !typeOk e m.value || (e.type == .bool && ofBytes m.value != 1) then s.answer m 4 stMalformed
    else if s.writeFenced x.part e then s.answer m 4 stFenced
    else s.startAction e x.part m k

/-- The row of an action: a write of its entry with a value that is its own. An action that waits for its sequence starts
when its command comes again with the sequence free. -/
def actionRow (index : Nat) (mine : TMsg → Bool) (m : TMsg) (s : Device) (k : ActionBody) : Host.Outcome Device Fault Refusal :=
  if m.index != index || !mine m then .refused .wordOfAnotherRow
  else
    match s.transom.queued.find? (fun pm => pm.2 == m), odEntry m.index m.sub with
    | some pm, some e => .next (s.startAction e pm.1 m k)
    | _, _ => .next (s.request 4 m (fun t x => t.writeAction x m k))

/-- An action that its rule completes at once. -/
def atOnce (k : Device → Nat → TMsg → Device × Nat) : ActionBody := fun s part m => let r := k s part m; (r.1, some r.2)

end Sys2Proof.Machine
end

