-- ==== Sys2Proof/Machine/Sessions.lean ====
section
/-! DEFINITION. Sessions and what they ask for: OPEN (R345, R443, R444), READ, WRITE, DESCRIBE, LIST (R334, R344), events
(R349) and the ways a session ends (R347). -/

namespace Sys2Proof.Machine

/-- The bytes of an ASCII string. -/
def ascii (t : String) : List Byte := t.toList.map (fun c => BitVec.ofNat 8 c.toNat)

/-! ## The committed set (R336) -/

/-- The entry of a dictionary key. -/
def entryOfKey (key : Nat) : Option Entry := odEntry (key / 2 ^ 24 % 65536) (key / 2 ^ 16 % 256)

/-- Whether a key belongs to the committed set. -/
def persists (key : Nat) : Bool := (entryOfKey key).any (fun e => e.acc == .rwp || e.acc == .ws)

/-- A commit: the RWP and WS values as they stand become the committed set in one step, and nothing is pending. -/
def Device.commitSet (s : Device) : Device :=
  ({ s with mram := { s.mram with committed := some (s.od.filter (fun kv => persists kv.1)) } }).odSet 0 0x1101 0 0 0

/-! ## What a write brings about -/

/-- The sideband's state (R327): 2 under PLCA, 1 under CSMA/CD. -/
def Device.sidebandState (s : Device) : Nat :=
  let own := s.odGet 0 0x5200 2
  let node := if own = 255 then s.boot.slot else own
  if s.odGet 0 0x5200 1 = 1 && node != 0 && node != 255 && s.host.plca then 2 else 1

def Device.setSideband (s : Device) : Device :=
  if s.host.sideband = 0 then s else { s with host := { s.host with sideband := s.sidebandState } }

/-- The doors of kind SWITCH. -/
def Device.switchMask (s : Device) : Nat := total ((List.range 24).map (fun d => if s.doorKind d = 1 then 2 ^ d else 0))

/-- A host write of a route row changes its SWITCH door bits alone (R303). -/
def Device.writeRoute (s : Device) (chip v : Nat) : Device :=
  let sw := s.switchMask
  let row := (v &&& sw) ||| (s.routeRow chip &&& (2 ^ 24 - 1 - sw))
  ({ s with fabric := { s.fabric with route := SMap.keep s.fabric.route chip row 0 } }).flushWaiting

/-- One value stored in its entry, with what the entry's chapter makes of it. -/
def Device.store (s : Device) (part : Nat) (e : Entry) (row v : Nat) : Device :=
  if e.index = 0x4030 then s.writeRoute row v
  else if e.index = 0xB041 then { s with mram := { s.mram with rackKey := v } }
  else if (e.index = 0x6140 || e.index = 0xB040) && row == 0 then s
  else
    let old := s.odGet part e.index e.sub row
    let t := s.odSet part e.index e.sub row (if e.index = 0x4070 then 2 ^ 4096 + v else v)
    let t := if e.acc = .rwp then t.odSet 0 0x1101 0 0 1 else t
    match e.index with
    | 0x2011 => if v < t.odGet 0 0x2010 0 then (t.odSet 0 0x2010 0 0 v).odSet 0 0x1101 0 0 1 else t
    | 0x4000 => if v = old then t else t.modDoor row (fun d => { d with changed := true })
    | 0x4020 | 0x4021 =>
      if v = old then t else (List.range 24).foldl (fun t d => t.modDoor d (fun x => { x with changed := true })) t
    | 0x5010 =>
      if e.sub = 1 && v != old then { t with host := { t.host with ptpState := v, ptpLast := t.now } } else t
    | 0x3030 => t.fitBuffer
    | 0x5200 => t.setSideband
    | 0xA000 =>
      if e.sub = 1 && v != old then
        t.modPart part (fun x => { x with snap := { x.snap with nextTake := if v = 1 then some t.now else none } })
      else if e.sub = 3 then
        t.modPart part (fun x => if x.snap.rows.any (·.state == 0) then x else { x with snap := { x.snap with mtbf := none } })
      else t
    | _ => t

/-- The values of a write, one for each row. -/
def rowValues (width : Nat) : Nat → List Byte → List (List Byte)
  | 0, _ => []
  | n + 1, v => v.take width :: rowValues width n (v.drop width)

/-- The status of a write of an entry that is not X, and its effect: wholly or not at all (R332–R334, R343). -/
def Device.writeEntry (s : Device) (part : Nat) (e : Entry) (m : TMsg) : Device × Nat :=
  let rows := if e.type = .table then m.nrows else 1
  let vals := rowValues e.width rows m.value
  let start := if e.type = .table then m.row else 0
  let named := e.type != .table || (m.nrows != 0 && decide (m.row + m.nrows ≤ s.odRows part e))
  if !named || m.value.length != rows * e.width || !vals.all (typeOk e) then (s, stMalformed)
  else if !(vals.zipIdx.all (fun vi => s.entryOk part e (start + vi.2) (ofBytes vi.1))) then (s, stMalformed)
  else if s.writeBusy part e then (s, stResource)
  else (vals.zipIdx.foldl (fun t vi => t.store part e (start + vi.2) (ofBytes vi.1)) s, stOk)

/-- WRITE of an entry that has no action of its own (R334). A write of an RWP entry from the sideband is committed before
it is answered (R336). -/
def Device.writeRow (s : Device) (x : Session) (m : TMsg) : Device :=
  match s.entryFor x m true with
  | .error st => s.answer m 4 st
  | .ok e =>
    let acc := s.accessOf x e
    let part := copyPart e x.part
    if acc = .ro then s.answer m 4 stAccess
    else if s.writeFenced x.part e then s.answer m 4 stFenced
    else
      let r := s.writeEntry part e m
      let t := if r.2 = stOk && x.iface == .sideband && e.acc == .rwp then r.1.commitSet else r.1
      t.answer m 4 r.2

/-- Whether a message names an X entry, whose writes are rows of their own. -/
def namesAction (m : TMsg) : Bool := (odEntry m.index m.sub).any (fun e => e.acc == .x)

def execWrite (m : TMsg) (s : State) : Host.Outcome State Fault Refusal := onDevice s fun s =>
  if namesAction m then .refused .wordOfAnotherRow
  else .next (s.request 4 m (fun t x => t.writeRow x m))

/-! ## READ, DESCRIBE, LIST (R333, R335, R344) -/

/-- READ: the value, the status of an X entry's last action, or whole rows that fit the interface's payload. -/
def Device.readRow (s : Device) (x : Session) (m : TMsg) : Device :=
  match s.entryFor x m false with
  | .error st => s.answer m 3 st
  | .ok e =>
    let part := copyPart e x.part
    if e.acc = .wo then s.answer m 3 stAccess
    else if e.acc = .x then s.reply m 3 stOk 0 (ownAddress m ++ bytesOf (s.lastStatus x.part e) 1)
    else if e.type = .table then
      let n := min (min m.nrows (s.odRows part e - m.row)) ((payloadLimit m.iface - 12) / e.width)
      let body := (List.range n).flatMap (fun i => bytesOf (s.odRead part e (m.row + i)) e.width)
      s.reply m 3 stOk 0 (addressBytes m.index m.sub m.row n ++ body)
    else s.reply m 3 stOk 0 (ownAddress m ++ bytesOf (s.odRead part e 0) e.width)

def execRead (m : TMsg) (s : State) : Host.Outcome State Fault Refusal := onDevice s fun s =>
  .next (s.request 3 m (fun t x => t.readRow x m))

/-- Whether a type's range is reported. -/
def OdType.numeric (t : OdType) : Bool := [OdType.u8, .u16, .u32, .u64, .i64, .f32, .ltime].contains t

/-- The description of an entry (R344). -/
def Device.describeBytes (s : Device) (x : Session) (e : Entry) : List Byte :=
  let num := e.type.numeric
  let rows := if e.type = .table then s.odRows (copyPart e x.part) e else 1
  bytesOf (pack [(e.type.code, 8), ((s.accessOf x e).code, 8), (if e.scope = .dev then 0 else 1, 8), (0, 8), (e.width, 32),
    (rows, 32), (0, 32), (if num then ofInt 64 e.lo else 0, 64), (if num then ofInt 64 e.hi else 0, 64)]) 32
  ++ bytesOf (if e.type = .table then 0 else e.dflt) e.width

def Device.describeRow (s : Device) (x : Session) (m : TMsg) : Device :=
  match s.entryFor x m false with
  | .error st => s.answer m 5 st
  | .ok e =>
    if m.row != 0 || m.nrows != 0 then s.answer m 5 stMalformed
    else s.reply m 5 stOk 0 (ownAddress m ++ s.describeBytes x e)

def execDescribe (m : TMsg) (s : State) : Host.Outcome State Fault Refusal := onDevice s fun s =>
  .next (s.request 5 m (fun t x => t.describeRow x m))

/-- The indices within a session's reach from the first asked for. -/
def Device.listed (s : Device) (x : Session) (first : Nat) : List Nat :=
  distinct ((odTable.filter (fun e => decide (first ≤ e.index) && (s.reaches x e false || s.reaches x e true))).map (·.index))

/-- LIST: up to 512 indices, MORE when others follow. -/
def Device.listRow (s : Device) (x : Session) (m : TMsg) : Device :=
  if m.arsv != 0 then s.reply m 6 stMalformed 0 []
  else
    let all := s.listed x m.index
    s.reply m 6 stOk (if 512 < all.length then 1 else 0) ((all.take 512).flatMap (fun i => bytesOf i 2))

def execList (m : TMsg) (s : State) : Host.Outcome State Fault Refusal := onDevice s fun s =>
  .next (s.request 6 m (fun t x => t.listRow x m))

/-! ## Events (R349) -/

/-- What waits is sent while fewer than 16 events are unacknowledged; EVENTS_LOST goes ahead with what was dropped. -/
def Device.pumpEvents (s : Device) (id : Nat) : Nat → Device
  | 0 => s
  | fuel + 1 =>
    match s.session? id with
    | none => s
    | some x =>
      if 16 ≤ x.unacked.length then s
      else if x.dropped != 0 then
        let body := eventBody 0x1003 1 (if x.part = 0 then 0xFF else x.part) s.now [(min x.dropped (2 ^ 32 - 1), 4)]
        let y := { x with dropped := 0, evNext := x.evNext + 1, unacked := x.unacked ++ [(x.evNext, body, s.now)] }
        let t := if x.part = 0 then s.logDev 1 body else s.logPart x.part body
        ((t.setSession id y).emit (.event id x.evNext body)).pumpEvents id fuel
      else
        match x.waiting with
        | [] => s
        | body :: rest =>
          let y := { x with waiting := rest, evNext := x.evNext + 1, unacked := x.unacked ++ [(x.evNext, body, s.now)] }
          ((s.setSession id y).emit (.event id x.evNext body)).pumpEvents id fuel

/-- SUBSCRIBE replaces the class mask; bits beyond the sixteen classes are undefined (Table 15-2). -/
def Device.subscribeRow (s : Device) (x : Session) (m : TMsg) : Device :=
  if m.value.length != 4 || decide (2 ^ 16 ≤ ofBytes m.value) then s.reply m 7 stMalformed 0 []
  else (s.setSession m.session { x with mask := ofBytes m.value }).reply m 7 stOk 0 []

def execSubscribe (m : TMsg) (s : State) : Host.Outcome State Fault Refusal := onDevice s fun s =>
  .next (s.request 7 m (fun t x => t.subscribeRow x m))

/-- EVENT_ACK: the events up to the highest received in order are done with, and waiting ones go out. -/
def execEventAck (m : TMsg) (s : State) : Host.Outcome State Fault Refusal := onDevice s fun s =>
  match s.session? m.session with
  | none => .next (if s.carries m.iface then s.odCount 0 0x1122 0 0 1 else s)
  | some x =>
    if !s.carries m.iface then .next s
    else if !headerOk 0x11 m x then .next (s.odCount 0 0x1122 0 0 1)
    else if m.rsv != 0 then .next (s.setSession m.session { x with lastMsg := s.now })
    else
      let unacked := x.unacked.filter (fun e => decide (m.seq < e.1))
      .next ((s.setSession m.session { x with lastMsg := s.now, unacked }).pumpEvents m.session 17)

/-- The events of a session that have stayed unacknowledged for 100 ms are sent again. -/
def execEventResend (session : Nat) (s : State) : Host.Outcome State Fault Refusal := onDevice s fun s =>
  match s.session? session with
  | none => .next s
  | some x =>
    let due (e : Nat × Nat × Nat) : Bool := decide (e.2.2 + 100000000 ≤ s.now)
    let unacked := x.unacked.map (fun e => if due e then (e.1, e.2.1, s.now) else e)
    .next ((x.unacked.filter due).foldl (fun t e => t.emit (.event session e.1 e.2.1)) (s.setSession session { x with unacked }))

/-! ## The life of a session (R345, R347) -/

/-- A session ends; its kept response and undelivered events go with it. -/
def Device.dropSession (s : Device) (id : Nat) : Device :=
  { s with transom := { s.transom with sessions := SMap.del s.transom.sessions id } }

/-- The FZ9 closes a session with a status, and tells the partition's other sessions (R347). -/
def Device.closeSession (s : Device) (id status : Nat) : Device :=
  match s.session? id with
  | none => s
  | some x => ((s.emit (.close x.iface id status)).dropSession id).raisePart x.part 0x1002 0 [(id, 2), (status, 1)]

/-- The FZ9 closes all sessions of a partition. -/
def Device.closeSessions (s : Device) (p : Session → Bool) (status : Nat) : Device :=
  (s.transom.sessions.filter (fun kv => p kv.2)).foldl (fun t kv => t.closeSession kv.1 status) s

def execKeepalive (m : TMsg) (s : State) : Host.Outcome State Fault Refusal := onDevice s fun s =>
  .next (s.request 8 m (fun t _ => t.reply m 8 stOk 0 []))

def execClose (m : TMsg) (s : State) : Host.Outcome State Fault Refusal := onDevice s fun s =>
  .next (s.request 2 m (fun t _ => (t.reply m 2 stOk 0 []).dropSession m.session))

/-- A session with no message from its client for OD 0x1121 is closed with TIMEOUT; an id whose round 2 has not come within
1 s is freed (R347, R443). -/
def execSessionIdleTimeout (session : Nat) (s : State) : Host.Outcome State Fault Refusal := onDevice s fun s =>
  match s.session? session with
  | none => .next s
  | some x =>
    if !x.opened then .next (if x.asked + 1000000000 < s.now then s.dropSession session else s)
    else if x.busy.isSome || decide (s.now < x.lastMsg + 1000000 * s.odGet 0 0x1121 0) then .next s
    else .next (s.closeSession session stTimeout)

/-! ## OPEN (R345, R443, R444) -/

/-- The device key (R429): the seed formed from the device secret. -/
def deviceSeed : Nat := (Config.kmac (Config.factory 0x5EC) (ascii "device")).toNat

/-- A free session id, unless a limit of R345 is met. Log entry 75 (DEDUCED). -/
def Device.freshSession (s : Device) (part : Nat) (iface : Iface) : Option Nat :=
  let all := s.transom.sessions
  let onSideband := (all.filter (fun kv => kv.2.iface == .sideband)).length
  if 64 ≤ all.length || decide (8 ≤ (all.filter (fun kv => kv.2.part == part)).length) || (iface == .sideband && decide (4 ≤ onSideband)) then
    none
  else ((List.range 65).map (· + 1)).find? (fun i => (s.session? i).isNone)

def Device.refuseOpen (s : Device) (iface : Iface) (status : Nat) : Device := s.emit (.response iface 0 0x81 0 status 0 [])

/-- The bytes of a round-1 body (Table 20-7). -/
def open1Bytes (m : Open1) : List Byte :=
  bytesOf m.part 1 ++ bytesOf m.rsv 7 ++ bytesOf m.nonce 32 ++ bytesOf m.ek 1568 ++ m.key

/-- Round 1: an id, a nonce, a ciphertext and the device's signature (R443). -/
def Device.openFirst (s : Device) (m : Open1) : Device :=
  if m.rsv != 0 || decide (32 ≤ m.part) then s.refuseOpen .host stMalformed
  else if !s.boot.random then s.refuseOpen .host stResource
  else
    match s.freshSession m.part .host with
    | none => s.refuseOpen .host stResource
    | some id =>
      let d1 := s.draw
      let d2 := d1.2.draw
      let nd := d1.1 % 2 ^ 256
      let c := Config.encapsulate m.ek d2.1
      let body := bytesOf nd 32 ++ bytesOf c.1 1568
      let sig := Config.sign deviceSeed (bytesOf (Config.sha3 (open1Bytes m ++ body)).toNat 64)
      let key := (Config.kmac c.2 (ascii "transom" ++ bytesOf m.nonce 32 ++ bytesOf nd 32 ++ bytesOf id 2)).toNat
      let x : Session := { part := m.part, iface := .host, opened := false, key, digest := Config.sha3 m.key, asked := s.now,
                           lastMsg := s.now }
      (d2.2.setSession id x).emit (.response .host id 0x81 0 stOk 0 (body ++ bytesOf sig 4627 ++ bytesOf 0 5))

def execOpenRound1 (m : Open1) (s : State) : Host.Outcome State Fault Refusal := onDevice s fun s =>
  .next (if s.carries .host then s.openFirst m else s)

/-- Whether a client's key opens sessions of a partition (R439, R442, R443). -/
def Device.keyOpens (s : Device) (x : Session) : Bool :=
  if s.mram.owner.isEmpty then x.part == 0
  else
    let row := s.odStored 0 0xB040 0 x.part
    row != 0 && x.digest.toNat == row

/-- Round 2: the session is bound, or its id freed with ACCESS (R443). -/
def Device.openSecond (s : Device) (m : Open2) : Device :=
  match s.session? m.session with
  | none => s.odCount 0 0x1122 0 0 1
  | some x =>
    if x.opened then s.odCount 0 0x1122 0 0 1
    else if m.rsv != 0 then s.emit (.response .host m.session 0x81 0 stMalformed 0 [])
    else if m.sigOk && s.keyOpens x && m.tagOk && decide (s.now ≤ x.asked + 1000000000) then
      (s.setSession m.session { x with opened := true, lastMsg := s.now }).emit (.response .host m.session 0x81 0 stOk 0 [])
    else (s.dropSession m.session).emit (.response .host m.session 0x81 0 stAccess 0 [])

def execOpenRound2 (m : Open2) (s : State) : Host.Outcome State Fault Refusal := onDevice s fun s =>
  .next (if s.carries .host then s.openSecond m else s)

/-- A sideband OPEN: one round under the rack key, read only while it is unset (R444). -/
def Device.openSideband (s : Device) (part nonce rsv : Nat) : Device :=
  if rsv != 0 then s.refuseOpen .sideband stMalformed
  else if part != 0 then s.refuseOpen .sideband stAccess
  else if !s.boot.random then s.refuseOpen .sideband stResource
  else
    match s.freshSession 0 .sideband with
    | none => s.refuseOpen .sideband stResource
    | some id =>
      let d := s.draw
      let nd := d.1 % 2 ^ 256
      let key := (Config.kmac s.mram.rackKey (ascii "sideband" ++ bytesOf nonce 32 ++ bytesOf nd 32 ++ bytesOf id 2)).toNat
      let x : Session := { part := 0, iface := .sideband, opened := true, readOnly := s.mram.rackKey == 0, key,
                           asked := s.now, lastMsg := s.now }
      (d.2.setSession id x).emit (.response .sideband id 0x81 0 stOk 0 (bytesOf nd 32))

def execSidebandOpen (part nonce rsv : Nat) (s : State) : Host.Outcome State Fault Refusal := onDevice s fun s =>
  .next (if s.carries .sideband then s.openSideband part nonce rsv else s)

end Sys2Proof.Machine
end

