-- ==== Sys2Proof/Machine/Actions.lean ====
section
/-! DEFINITION. Actions on the device's persistent state and reports: commit, restore of defaults, seal (R336–R339), claim
(R439), attestation (R445), alerts (R455) and counters (R351). -/

namespace Sys2Proof.Machine

/-- Every value of an action's entry is its row's own. -/
def anyValue (_ : TMsg) : Bool := true

/-- COMMIT (R336). -/
def execCommit (m : TMsg) (s : State) : Host.Outcome State Fault Refusal := onDevice s fun s =>
  actionRow 0x1100 anyValue m s (atOnce (fun t _ _ => (t.commitSet, stOk)))

/-- Every RWP entry at its default; a door whose plan changes is to be retrained. -/
def Device.restoreRwp (s : Device) : Device :=
  let od := s.od.filter (fun kv => !(entryOfKey kv.1).any (fun e => e.acc == .rwp))
  let t := { s with od }
  let differs (ix row : Nat) : Bool := s.odGet 0 ix 0 row != t.odGet 0 ix 0 row
  let doors := (List.range 24).filter (fun d => differs 0x4000 d || differs 0x4020 0 || differs 0x4021 0)
  let u := doors.foldl (fun t d => t.modDoor d (fun x => { x with changed := true })) t
  ({ u with host := { u.host with ptpState := 0 } }).setSideband

/-- RESTORE_DEFAULTS (R337). -/
def execRestoreDefaults (m : TMsg) (s : State) : Host.Outcome State Fault Refusal := onDevice s fun s =>
  actionRow 0x1102 anyValue m s (atOnce (fun t _ _ =>
    if t.anyPanes then (t, stResource) else (t.restoreRwp.commitSet, stOk)))

/-- SEAL (R339). -/
def execSeal (m : TMsg) (s : State) : Host.Outcome State Fault Refusal := onDevice s fun s =>
  actionRow 0x1103 anyValue m s (atOnce (fun t _ m =>
    if ofBytes m.value != 0x5EA1 then (t, stMalformed)
    else
      let u := t.commitSet
      ({ u with mram := { u.mram with sealed := true } }, stOk)))

/-- CLAIM (R439). -/
def execClaim (m : TMsg) (sigOk : Bool) (s : State) : Host.Outcome State Fault Refusal := onDevice s fun s =>
  actionRow 0xB021 anyValue m s (atOnce (fun t _ m =>
    if (m.value.drop 7219).any (· != 0) then (t, stMalformed)
    else if !t.mram.owner.isEmpty || !sigOk then (t, stAccess)
    else
      let u := t.commitSet
      ({ u with mram := { u.mram with owner := m.value.take 2592 } }, stOk)))

/-! ## Attestation (R445, Table 20-8) -/

/-- The alias key's seed (Table 20-1). -/
def Device.aliasSeed (s : Device) : Nat :=
  (Config.kmac (Config.factory 0x5EC) (ascii "alias" ++ bytesOf (Config.sha3 s.boot.header).toNat 64)).toNat

/-- The first 512 bytes of the report: everything but the signature. -/
def Device.reportHead (s : Device) (nonce : Nat) : List Byte :=
  bytesOf (pack [(nonce, 512), (Config.factory 2, 128), (s.boot.version, 32), (Config.factory 4, 32), (s.odGet 0 0xB010 0, 32),
    (s.mram.fuseFloor, 32), (s.mram.sealed.toNat, 1), ((!s.mram.owner.isEmpty).toNat, 1), (0, 254), (s.ownerDigest, 512),
    ((Config.sha3 s.boot.header).toNat, 512),
    ((Config.sha3 (s.boot.rows.flatMap (fun r => bytesOf (measureRow r) 71))).toNat, 512), (s.now, 64)]) 512

/-- ATTESTATION_CHALLENGE (R445). -/
def execAttestationChallenge (m : TMsg) (s : State) : Host.Outcome State Fault Refusal := onDevice s fun s =>
  actionRow 0xB001 anyValue m s (atOnce (fun t _ m =>
    if !t.ready then (t, stResource)
    else
      let head := t.reportHead (ofBytes m.value)
      let report := ofBytes (head ++ bytesOf (Config.sign t.aliasSeed head) 4627)
      ({ t with boot := { t.boot with report, nonce := ofBytes m.value } }, stOk)))

/-! ## Alerts and counters -/

/-- ALERT_CLEAR: the event-raised alerts are cleared; heat and FAULT hold on (R455). -/
def execAlertClear (m : TMsg) (s : State) : Host.Outcome State Fault Refusal := onDevice s fun s =>
  actionRow 0x8051 anyValue m s (atOnce (fun t _ _ => ({ t with transom := { t.transom with alerts := false } }, stOk)))

/-- COUNTER_CLEAR: the counters of the panes of the partition's set are zero (Table 15-10). -/
def execCounterClear (m : TMsg) (s : State) : Host.Outcome State Fault Refusal := onDevice s fun s =>
  actionRow 0xC001 anyValue m s (atOnce (fun t part _ =>
    ((t.part part).panes.foldl (fun u a => u.modPane a (fun p => { p with perf := {} })) t, stOk)))

end Sys2Proof.Machine
end

