-- ==== Sys2Proof/Machine/Cells.lean ====
section
/-! DEFINITION. Synchronisation cells (R306, R309): how a chip sends, forwards and takes the flooded cells of a job. -/

namespace Sys2Proof.Machine

/-- A door whose peer is in this chip's sync domain and that carries cells (R293, R309). -/
def Device.doorInDomain (s : Device) (d : Nat) : Bool :=
  s.doorUp d && (s.door d).peer.any (fun p => p.domain == s.lintel.domain)

/-- A cell as its first bit leaves the lanes: this chip stamps its own, but for the send time of a DONE cell (R243, R306). -/
def Device.stamped (s : Device) (c : SyncCell) : SyncCell :=
  if c.origin = s.chip && c.skind != 0x10 then { c with txtime := s.now } else c

/-- A cell leaves on a door in a block of its own; of a DELAY_REQ the door notes when (R306, R307). -/
def Device.putCell (s : Device) (d : Nat) (c : SyncCell) : Device :=
  let c := s.stamped c
  let t := if c.skind = 2 then s.modDoor d (fun x => { x with reqSent := s.now }) else s
  t.sendBlock d (blockOf [(1, cellBytes c)]) [] [c]

/-- A cell leaves on a door at the next cell boundary, or waits while the replay buffer is full (R298). Log entry 83 (DEDUCED). -/
def Device.sendCell (s : Device) (d : Nat) (c : SyncCell) : Device :=
  if (s.door d).replay.length < 1024 then s.putCell d c
  else s.modDoor d (fun x => { x with waiting := x.waiting ++ [c] })

/-- The identity under which a flooded cell is forwarded once (R309). -/
def cellIdentity (c : SyncCell) : Nat × Nat × Nat × Nat := (c.origin, c.skind, c.job, c.step)

/-- This chip floods a cell of its own over every door of its domain (R309). -/
def Device.floodCell (s : Device) (c : SyncCell) : Device :=
  let t := { s with fabric := { s.fabric with seen := s.fabric.seen ++ [cellIdentity c] } }
  ((List.range 24).filter t.doorInDomain).foldl (fun t d => t.sendCell d c) t

/-- The first copy of a cell goes on over every MODULE door but the one it came by (R309). Log entry 81 (DEDUCED). -/
def Device.forwardCell (s : Device) (door : Nat) (c : SyncCell) : Device :=
  ((List.range 24).filter (fun d => d != door && s.doorInDomain d && s.doorKind d == 2)).foldl (fun t d => t.sendCell d c) s

/-- Whether a cell that arrives is one that this chip heeds: the peer and the cell are of its domain, and no reserved bit is set (R293, R306). -/
def Device.hears (s : Device) (door : Nat) (c : SyncCell) : Bool :=
  s.doorInDomain door && c.rsv == 0 && c.domain == s.lintel.domain

/-- A cell that arrives leaves the cells that blocks have brought; one that is heeded ends a silence, after which the domain's master is LOCKED
again (R40). Log entry 157 (DEDUCED). -/
def Device.takeCell (s : Device) (door : Nat) (c : SyncCell) : Device :=
  let t := { s with fabric := { s.fabric with cells := s.fabric.cells.erase (door, c) } }
  if s.hears door c then
    { t with lintel := { t.lintel with lastCell := s.now, state := if t.lintel.state = 3 && t.lintel.master then 2 else t.lintel.state } }
  else t

/-- The cell as its receiver holds it: one hop further, with the door's delay added to CORR (R306). -/
def Device.received (s : Device) (door : Nat) (c : SyncCell) : SyncCell :=
  { c with hops := min (c.hops + 1) 15, corr := c.corr + (s.door door).delay }

/-- The chips of a partition's job (OD 0x4070). -/
def Device.inJobSet (s : Device) (part chip : Nat) : Bool := bit (s.odStored part 0x4070 0 0) chip

/-- The chips of the job set in ascending order. -/
def Device.jobChips (s : Device) (part : Nat) : List Nat := (List.range 4096).filter (s.inJobSet part)

/-- The partition that a flooded cell concerns: its JOB, with its origin in the job chip set (R309). -/
def Device.cellPart? (s : Device) (c : SyncCell) : Option Nat :=
  match s.parts.find? (fun kv => kv.2.state != .absent && kv.2.job == c.job) with
  | some kv => if s.inJobSet kv.1 c.origin then some kv.1 else none
  | none => none

/-- MKIND of a SNAPMARK cell, in STEP (Table 18-1). -/
def markKind (c : SyncCell) : Nat := fld c.step 62 2

/-- A flooded cell of one kind at a door: ignored from another domain or with a reserved bit set; forwarded once; and acted on
once when it concerns a partition (R293, R306, R309). -/
def cellRow (mine : SyncCell → Bool) (door : Nat) (c : SyncCell) (s : Device) (act : Device → Nat → SyncCell → Device) :
    Host.Outcome Device Fault Refusal :=
  let t := s.takeCell door c
  if !mine c || !s.hears door c then .next t
  else if t.fabric.seen.contains (cellIdentity c) then .next t
  else
    let r := t.received door c
    let u := { t with fabric := { t.fabric with seen := t.fabric.seen ++ [cellIdentity c] } }
    let u := u.forwardCell door r
    match u.cellPart? r with
    | some part => .next (act u part r)
    | none => .next u

/-- A cell of this chip for a partition's job. -/
def Device.ownCell (s : Device) (part skind step : Nat) : SyncCell :=
  { skind, domain := s.lintel.domain, origin := s.chip, job := (s.part part).job, step, txtime := s.now }

end Sys2Proof.Machine
end

