-- ==== Sys2Proof/Machine/QueueOps.lean ====
section
/-! DEFINITION. The queue engine's shared operations (R282–R286): reads and writes by virtual address, starting the next
descriptor of a queue, and completing one. -/

namespace Sys2Proof.Machine

/-! ## Memory by virtual address -/

/-- Bytes of the partition's memory, or the status met: the translation's, or POISON. -/
def Device.readVa (s : Device) (part va len : Nat) : Except Nat (List Byte) :=
  (sectorParts va len).foldl (fun acc on =>
    match acc with
    | .error e => .error e
    | .ok l =>
      match s.translate part on.1 .read with
      | .error e => .error e
      | .ok t =>
        let r := s.readTarget part t on.2 0
        if r.2 then .error stPoison else .ok (l ++ r.1)) (.ok [])

/-- What the reading of a range of virtual addresses leaves (R158, R281). -/
def Device.sawVa (s : Device) (part va len : Nat) : Device :=
  (sectorParts va len).foldl (fun t on =>
    match s.translate part on.1 .read with
    | .ok q => t.noteRead part q on.2 0
    | .error _ => t) s

/-- Bytes written to the partition's memory, with the status of the write; a doorbell page ignores them (R281). -/
def Device.writeVa (s : Device) (part va : Nat) (data : List Byte) : Device × Nat :=
  (sectorParts va data.length).foldl (fun (acc : Device × Nat) on =>
    match acc.1.translate part on.1 .write with
    | .error e => (acc.1, firstBad acc.2 e)
    | .ok t =>
      if t.map.kind != 0 then (acc.1.ignoreAccess part t.map.queue, acc.2)
      else
        let r := acc.1.writePool t.owner t.pool t.off ((data.drop (on.1 - va)).take on.2)
        (r.1, firstBad acc.2 r.2)) (s, stOk)

/-- Whether every 64 KiB page of a range is mapped with a right, or the status of the first that is not. -/
def Device.mappedWith (s : Device) (part va len : Nat) (k : AccessKind) : Nat :=
  let pages := if len = 0 then [] else (span (va / 65536) ((va + len - 1) / 65536 + 1))
  pages.foldl (fun st p =>
    if st != stOk then st
    else
      match s.translate part (Nat.max va (p * 65536)) k with
      | .ok _ => stOk
      | .error e => e) stOk

/-- Whether a range is mapped with a right, run by run, or the status of the first byte that is not (R318, R320). -/
def Partition.covered (x : Partition) (write : Bool) : Nat → Nat → Nat → Nat
  | 0, _, _ => stTranslation
  | fuel + 1, va, len =>
    if len = 0 then stOk
    else
      match x.mapping? va with
      | none => stTranslation
      | some m =>
        if write && !m.write then stAccess
        else
          let n := min len (m.va + m.psz * m.count - va)
          x.covered write fuel (va + n) (len - n)

def Device.mapRight (s : Device) (part va len : Nat) (write : Bool) : Nat :=
  (s.part part).covered write ((s.part part).maps.length + 2) va len

/-! ## Completion (R283, R284, Table 12-6) -/

/-- HEAD goes over each unbroken run of written completions. -/
def advanceHead (q : Queue) : Nat → Queue
  | 0 => q
  | fuel + 1 =>
    if q.done.contains q.head then
      advanceHead { q with head := (q.head + 1) % 2 ^ 32, done := q.done.filter (· != q.head) } fuel
    else q

/-- The bookkeeping of a completed descriptor: it no longer runs, HEAD moves, and HALT takes effect. -/
def Queue.finish (q : Queue) (r : Running) (status : Nat) (written : Bool) : Queue :=
  let q1 : Queue := { q with running := q.running.filter (·.n != r.n), total := min (q.total + 1) (2 ^ 64 - 1),
                             done := if written then q.done ++ [r.n] else q.done }
  let q2 := advanceHead q1 (q1.done.length + 1)
  if r.halt && status != stOk && q2.state == .active then { q2 with state := .halted } else q2

/-- The completion entry of a descriptor. -/
def completionEntry (q : Queue) (r : Running) (status faults now : Nat) : Nat :=
  pack [(r.tag, 32), (status, 8), (1 - r.n / 2 ^ q.logsz % 2, 1), (0, 7), (min faults 65535, 16), (now, 64)]

/-- A descriptor completes: its entry is written, its counter incremented, and the queue goes on. An entry that cannot be
written sets ERROR (R282). Log entry 61 (DEDUCED). -/
def Device.completeEntry (s : Device) (part qi : Nat) (r : Running) (status faults : Nat) : Device :=
  match s.queue? part qi with
  | none => s
  | some q =>
    let w := s.writeVa part (q.cq + 16 * (r.n % 2 ^ q.logsz)) (bytesOf (completionEntry q r status faults s.now) 16)
    let t := if w.2 = stOk then w.1 else w.1.queueError part qi w.2
    let t := t.modQueue part qi (fun q => q.finish r status (w.2 == stOk))
    if r.ctr = 0 then t else t.increment part { memory := true, pane := 0, addr := r.ctr } 1 status

/-- A queue is gone, with its doorbell mapping (R280). -/
def Device.removeQueue (s : Device) (part qi : Nat) : Device :=
  s.modPart part (fun x => { x with queues := SMap.del x.queues qi,
                                    maps := x.maps.filter (fun m => !(m.kind == 1 && m.queue == qi)) })

/-- A completed descriptor, and the destruction of its queue or of others that waited for it (QUEUE_DESTROY, R280). -/
def Device.completeWith (s : Device) (part qi : Nat) (r : Running) (status faults : Nat) : Nat → Device
  | 0 => s.completeEntry part qi r status faults
  | fuel + 1 =>
    let t := s.completeEntry part qi r status faults
    match t.queue? part qi with
    | none => t
    | some q =>
      match q.dying with
      | none => t
      | some via =>
        if !q.running.isEmpty then t
        else
          let u := t.removeQueue part qi
          match via with
          | .session m => u.finishAction part m stOk
          | .queue p q2 =>
            match (u.queue? p q2).bind (fun q => q.running.find? (fun r => decide (0x10 ≤ r.opc))) with
            | some r2 => u.completeWith p q2 r2 stOk 0 fuel
            | none => u

def Device.complete (s : Device) (part qi : Nat) (r : Running) (status : Nat) (faults : Nat := 0) : Device :=
  s.completeWith part qi r status faults 64

/-! ## The next descriptor (R284, R286, Table 12-4) -/

/-- The common header of a descriptor. -/
def runningOf (n d : Nat) : Running :=
  { n, opc := fld d 0 8, tag := fld d 32 32, ctr := fld d 64 57, halt := bit d 9 }

/-- Whether a header's counter is none, or aligned and writable. -/
def Device.counterFits (s : Device) (part ctr : Nat) : Bool :=
  ctr == 0 || (ctr % 8 == 0 && (match s.translate part ctr .write with | .ok _ => true | .error _ => false))

/-- Whether the common header passes: no reserved bit, and a counter that fits. -/
def Device.headerFits (s : Device) (part d : Nat) : Bool :=
  fld d 10 22 == 0 && fld d 121 7 == 0 && s.counterFits part (fld d 64 57)

/-- Whether a queue may start a descriptor at all. -/
def Device.engineRuns (s : Device) (part : Nat) (q : Queue) : Bool :=
  q.state == .active && q.dying.isNone && (s.part part).fence == .none && !s.resetting part && decide (s.power.state < 2)
    && q.started != q.tail && q.running.all (fun r => r.opc == 1)

/-- The next descriptor of a queue starts. Its ring slot is read, and a read that fails sets ERROR; a header that fails
completes it with MALFORMED; `own` says which opcodes are the row's, and any other starts nothing here. `k` takes the state with the
descriptor started, what runs it, and its 512 bits. -/
def onDescriptor (own : Nat → Bool) (part qi : Nat) (s : Device) (k : Device → Queue → Running → Nat → Device) : Device :=
  match s.queue? part qi with
  | none => s
  | some q =>
    if !s.engineRuns part q then s
    else
      match s.readVa part (q.ring + 64 * (q.started % 2 ^ q.logsz)) 64 with
      | .error e => s.queueError part qi e
      | .ok b =>
        let d := ofBytes b
        let r := runningOf q.started d
        if !own r.opc || (bit d 8 && q.head != q.started) then s
        else
          let s := s.sawVa part (q.ring + 64 * (q.started % 2 ^ q.logsz)) 64
          let t := s.setQueue part qi { q with started := (q.started + 1) % 2 ^ 32, running := q.running ++ [r] }
          if !s.headerFits part d then t.complete part qi { r with ctr := if s.counterFits part r.ctr then r.ctr else 0 } stMalformed
          else k t q r d

end Sys2Proof.Machine
end

