-- ==== Sys2Proof/Machine/Waits.lean ====
section
/-! DEFINITION. The end of a wait on an arrival counter (R36, R87, R197, R220): a path's wait.ctr, and a queue's WAIT
descriptor, whose completion the caller supplies. -/

namespace Sys2Proof.Machine

/-- A path that waits on a counter: its group, cohort, path, and the counter's place, target, SD and deadline. -/
structure PathWait where
  pane     : Nat
  slot     : Nat
  g        : Group
  part     : Nat
  p        : Path
  c        : CtrLoc
  target   : Nat
  sd       : Nat
  deadline : Nat
  deriving DecidableEq, Repr

/-- The wait of a path named by its lowest lane. -/
def Device.pathWait (s : Device) (pane slot lane : Nat) : Option PathWait :=
  match s.group? pane slot with
  | none => none
  | some g =>
    match g.paths.find? (fun p => p.low == lane && p.st != .ready), s.cohort? g.cohort with
    | some p, some c =>
      match p.st with
      | .counter memory addr target sd deadline =>
        some { pane, slot, g, part := c.part, p, c := { memory, pane, addr }, target, sd, deadline }
      | _ => none
    | _, _ => none

/-- A path's wait completes: SD takes the status, the path runs on, and the wait no longer stands at a sill. An acquire
clears the pane cache (R196, R197). -/
def PathWait.complete (w : PathWait) (s : Device) (status : Nat) (acquire : Bool) : Device :=
  let g := (w.g.setS w.sd (BitVec.ofNat 32 status)).release w.p 8
  let t := (s.setGroup w.pane w.slot g).unregister (.path w.pane w.slot w.p.low)
  if acquire then t.modPane w.pane Pane.clearCache else t

/-- What a waiter finds at its counter: it goes on waiting, or ends with a status, acquiring or not. A poisoned word ends
it with POISON and no acquire; a word that no longer translates leaves it to its timeout (R87, R466). -/
def waitVerdict (word : Option Nat × Bool) (target : Nat) : Option (Nat × Bool) :=
  match word with
  | (_, true) => some (stPoison, false)
  | (none, false) => none
  | (some w, false) => if target ≤ ctrCount w then some (ctrStatus w, true) else none

/-- A wait that polls registers as soon as it finds a registration free (R220). -/
def Device.enroll (s : Device) (w : Waiter) : Device := if s.mem.regs.contains w then s else s.register w

/-- A path's counter has reached its target, or is found poisoned (R87, R220). -/
def Device.wakePath (s : Device) (pane slot lane : Nat) : Device :=
  match s.pathWait pane slot lane with
  | none => s
  | some w =>
    if !s.paneRuns pane || w.g.stopped then s
    else
      match waitVerdict (s.counterWord w.part w.c (sashOf pane)) w.target with
      | some (status, acquire) => w.complete s status acquire
      | none => if w.c.memory then s.enroll (.path pane slot lane) else s

/-- A path's timer wins against the arrival: SD takes TIMEOUT, and nothing is acquired (R36, R87, R197). -/
def Device.timeoutPath (s : Device) (pane slot lane : Nat) : Device :=
  match s.pathWait pane slot lane with
  | none => s
  | some w => if s.now < w.deadline || w.g.stopped || !s.paneRuns pane then s else w.complete s stTimeout false

end Sys2Proof.Machine
end

