-- ==== Sys2Proof/Machine/Queues.lean ====
section
/-! DEFINITION. The rows of the queue engine: doorbell writes (R282–R284), NOP, LAUNCH and WAIT descriptors (R285, R286),
and the ends of waits (R36, R87, R220). -/

namespace Sys2Proof.Machine

/-! ## Doorbells -/

def execDoorbellTailWrite (part queue value : Nat) (s : State) : Host.Outcome State Fault Refusal := onDevice s fun s =>
  .next (s.tailWrite part queue value)

def execDoorbellResume (part queue : Nat) (s : State) : Host.Outcome State Fault Refusal := onDevice s fun s =>
  .next (s.resumeWrite part queue)

def execDoorbellFheadWrite (part queue value : Nat) (s : State) : Host.Outcome State Fault Refusal := onDevice s fun s =>
  .next (s.fheadWrite part queue value)

/-! ## NOP -/

/-- An OPC without a meaning: neither NOP, LAUNCH or WAIT nor a management command (R284). -/
def noOpcode (opc : Nat) : Bool := decide (2 < opc) && !decide (0x10 ≤ opc ∧ opc ≤ 0x17)

/-- A NOP only completes; an OPC without a meaning completes with MALFORMED (R284, R285). Log entry 60 (DEDUCED). -/
def execDescNop (part queue : Nat) (s : State) : Host.Outcome State Fault Refusal := onDevice s fun s =>
  .next (onDescriptor (fun o => o == 0 || noOpcode o) part queue s (fun t _ r _ =>
    t.complete part queue r (if r.opc = 0 then stOk else stMalformed)))

/-! ## LAUNCH (R57, R59, R145, R285) -/

/-- The group width of a WIDTH code (Table 03-3). -/
def widthOf (code : Nat) : Nat := 16 * 2 ^ code

/-- The kernel header's checks (R57, R145, Table 03-3). -/
def kernelOk (h : Nat) : Bool :=
  let width := widthOf (fld h 70 2)
  let gpc := fld h 72 5
  let lsc := fld h 80 10
  let split := fld h 96 4
  fld h 57 7 == 0 && fld h 77 3 == 0 && fld h 90 6 == 0 && fld h 106 6 == 0 && fld h 120 8 == 0 && fld h 160 352 == 0
    && fld h 0 57 % 8 == 0 && decide (1 ≤ fld h 64 6 ∧ fld h 64 6 ≤ 32) && decide (1 ≤ gpc ∧ gpc ≤ 16 ∧ gpc * width ≤ 2048)
    && decide (2 ≤ split ∧ split ≤ 12) && decide (lsc ≤ 768 ∧ lsc ≤ split * 64) && decide (fld h 100 6 ≤ 32)
    && fld h 128 32 % 8 == 0 && decide (8 ≤ fld h 128 32) && (fld h 112 8 == 0 || profileOk (fld h 112 8))

/-- The cohorts of one launch that an empty pane holds (R59). -/
def occupancy (gpc width vreg lsc split : Nat) : Nat :=
  let fitLs := if lsc = 0 then 64 else split * 64 / lsc
  min (min (64 / gpc) (2048 / (gpc * width))) (min (131072 / (gpc * width * vreg * 8)) fitLs)

/-- The panes of a subset that can take cohorts (R274): in the set and not VACANT. -/
def Device.usablePanes (s : Device) (part psel : Nat) : List Nat :=
  let mask := s.odStored part 0x6140 0 psel
  (s.part part).panes.filter (fun a => bit mask a && s.paneState a != .vacant)

/-- The words of a byte list. -/
def wordsOf : Nat → List Byte → List Word
  | 0, _ => []
  | n + 1, b => BitVec.ofNat 32 (ofBytes (b.take 4)) :: wordsOf n (b.drop 4)

/-- A launch from its header and its descriptor (R285), with what it captures: profile, estimate, seed, checked mode and
release policy (R145, R358). -/
def Device.launchOf (s : Device) (part queue : Nat) (r : Running) (d h : Nat) (args : List Word) : Launch :=
  { queue, n := r.n, tag := r.tag, entry := fld h 0 57, codelen := fld h 128 32, vreg := fld h 64 6, width := widthOf (fld h 70 2),
    gpc := fld h 72 5, lsc := fld h 80 10, split := fld h 96 4, args, cohorts := fld d 256 32, psel := fld d 288 4,
    profile := if fld h 112 8 = 0 then s.odGet part 0x7000 1 else fld h 112 8, est0 := s.odInt part 0x7000 2,
    seed := s.odGet part 0x7000 3, checked := s.odGet part 0x8030 1 == 1, policy := s.odGet part 0x8030 2 }

/-- A launch enters the launch table, or the status that completes its descriptor. Log entry 62 (DEDUCED). -/
def Device.tryLaunch (s : Device) (part queue : Nat) (r : Running) (d : Nat) : Except Nat Device :=
  if fld d 185 7 != 0 || fld d 249 7 != 0 || fld d 292 220 != 0 || fld d 128 57 % 64 != 0 then .error stMalformed
  else
    match s.readVa part (fld d 128 57) 64 with
    | .error e => .error e
    | .ok hb =>
      let h := ofBytes hb
      let n := fld h 100 6
      if !kernelOk h || (n != 0 && fld d 192 57 % 4 != 0) then .error stMalformed
      else if occupancy (fld h 72 5) (widthOf (fld h 70 2)) (fld h 64 6) (fld h 80 10) (fld h 96 4) = 0 then .error stResource
      else if fld d 256 32 = 0 then .error stOk
      else
        match (if n = 0 then .ok [] else s.readVa part (fld d 192 57) (4 * n)) with
        | .error e => .error e
        | .ok ab =>
          let l := s.launchOf part queue r d h (wordsOf n ab)
          if (s.usablePanes part l.psel).isEmpty then .error stResource
          else
            let x := s.part part
            .ok ((s.setPart part { x with launches := SMap.put x.launches x.nextId l, nextId := x.nextId + 1 }).modQueue
              part queue (fun q => { q with running := q.running.map (fun k =>
                if k.n = r.n then { k with launch := some x.nextId } else k) }))

/-- What the reading of a launch's kernel header and of the arguments that it asks for leaves (R158). -/
def Device.sawLaunch (s : Device) (part d : Nat) : Device :=
  let t := s.sawVa part (fld d 128 57) 64
  match s.readVa part (fld d 128 57) 64 with
  | .ok hb => if kernelOk (ofBytes hb) then t.sawVa part (fld d 192 57) (4 * fld (ofBytes hb) 100 6) else t
  | .error _ => t

/-- LAUNCH: it waits while the launch table holds 256 (R286). -/
def execDescLaunch (part queue : Nat) (s : State) : Host.Outcome State Fault Refusal := onDevice s fun s =>
  .next (onDescriptor (fun o => o == 1 && decide ((s.part part).launches.length < 256)) part queue s (fun t _ r d =>
    match t.tryLaunch part queue r d with
    | .ok u => u.sawLaunch part d
    | .error e => (t.sawLaunch part d).complete part queue r e))

/-! ## WAIT -/

/-- WAIT: it completes at once when its counter has reached VALUE, is poisoned or is not reached by an address; otherwise it
runs until WAIT_WAKE or WAIT_TIMEOUT (R87, R285). -/
def execDescWait (part queue : Nat) (s : State) : Host.Outcome State Fault Refusal := onDevice s fun s =>
  .next (onDescriptor (· == 2) part queue s (fun t _ r d =>
    let va := fld d 128 57
    if fld d 185 7 != 0 || fld d 228 284 != 0 || va % 8 != 0 then t.complete part queue r stMalformed
    else
      match t.translate part va .read with
      | .error e => t.complete part queue r e
      | .ok _ =>
        let c : CtrLoc := { memory := true, pane := 0, addr := va }
        let t := t.sawWord part c 0
        match waitVerdict (t.counterWord part c 0) (fld d 192 32) with
        | some (status, _) => t.complete part queue r status
        | none =>
          let w : Running := { r with wctr := va, value := fld d 192 32, deadline := t.now + t.timeoutOf part (fld d 224 4) }
          (t.modQueue part queue (fun q => { q with running := q.running.map (fun k => if k.n = r.n then w else k) })).register
            (.queue part queue)))

/-- The WAIT that runs on a queue. -/
def Device.queueWait (s : Device) (part queue : Nat) : Option Running :=
  (s.queue? part queue).bind (fun q => q.running.find? (·.opc == 2))

/-- A queue's WAIT completes with a status, and no longer stands at a sill. -/
def Device.endQueueWait (s : Device) (part queue : Nat) (r : Running) (status : Nat) : Device :=
  (s.unregister (.queue part queue)).complete part queue r status

def Device.wakeQueue (s : Device) (part queue : Nat) : Device :=
  match s.queueWait part queue with
  | none => s
  | some r =>
    match waitVerdict (s.counterWord part { memory := true, pane := 0, addr := r.wctr } 0) r.value with
    | some (status, _) => s.endQueueWait part queue r status
    | none => s.enroll (.queue part queue)

def Device.timeoutQueue (s : Device) (part queue : Nat) : Device :=
  match s.queueWait part queue with
  | none => s
  | some r => if s.now < r.deadline then s else s.endQueueWait part queue r stTimeout

/-- WAIT_WAKE (R220): the waiter's counter has reached its target, or is found poisoned. -/
def execWaitWake (w : Waiter) (s : State) : Host.Outcome State Fault Refusal := onDevice s fun s =>
  match w with
  | .path pane slot lane => .next (s.wakePath pane slot lane)
  | .queue part queue => .next (s.wakeQueue part queue)

/-- WAIT_TIMEOUT (R36): the timer wins against the arrival. -/
def execWaitTimeout (w : Waiter) (s : State) : Host.Outcome State Fault Refusal := onDevice s fun s =>
  match w with
  | .path pane slot lane => .next (s.timeoutPath pane slot lane)
  | .queue part queue => .next (s.timeoutQueue part queue)

end Sys2Proof.Machine
end

