-- ==== Sys2Proof/Machine/Cohorts.lean ====
section
/-! DEFINITION. Scheduling: placing a cohort on a pane (R43, R44, R46, R53, R54, R59, R287), the end of a cohort (R45, R67,
R283) and of a launch (R45). -/

namespace Sys2Proof.Machine

/-! ## Whether a pane holds a cohort (R43, R54, R59) -/

/-- The register entries of a group. -/
def entriesOf (g : Group) : Nat := g.width * g.vcount

/-- The 4 KiB pages that the resident cohorts of a pane hold: a cohort's are free once its last group has ended (R44). -/
def Device.lsTaken (s : Device) (pane : Nat) : List (Nat × Nat) :=
  let p := s.pane pane
  (s.cohorts.filter (fun kv => kv.2.pane == pane && p.groups.any (fun kg => kg.2.cohort == kv.1))).map
    (fun kv => (kv.2.lsBase / 4096, kv.2.lsPages))

/-- The lowest free run of local-store pages (R56); an allocation of no pages has base 0. Log entry 142 (DESIGN CHOICE). -/
def firstFit (taken : List (Nat × Nat)) (pages need : Nat) : Option Nat :=
  if need = 0 then some 0
  else (List.range (pages + 1 - need)).find? (fun b => taken.all (fun t => decide (b + need ≤ t.1 ∨ t.1 + t.2 ≤ b)))

/-- The free group slots of a pane. -/
def Pane.freeSlots (p : Pane) : List Nat := (List.range 64).filter (fun i => (SMap.find p.groups i).isNone)

/-- Whether a pane can hold a cohort of a launch now, and the local-store page it would get. -/
def Device.holds (s : Device) (pane part li : Nat) (l : Launch) : Option Nat :=
  let p := s.pane pane
  let gs := p.groups.map Prod.snd
  let launches := distinct (li :: (s.cohorts.filter (fun kv => kv.2.pane == pane)).map (fun kv => kv.2.launch))
  let ours := p.part == some part
  if !s.paneRuns pane || s.underTest pane then none
  else if !gs.isEmpty && (!ours || p.split != l.split) then none
  else if p.freeSlots.length < l.gpc || decide (2048 < total (gs.map (·.width)) + l.gpc * l.width)
      || decide (131072 < total (gs.map entriesOf) + l.gpc * l.width * l.vreg * 8) || decide (4 < launches.length) then none
  else firstFit (s.lsTaken pane) (l.split * 64) l.lsc

/-! ## Placement -/

/-- The registers of a group at its start (Table 03-2). -/
def startGroup (index part pane ci gic base : Nat) (l : Launch) : Group :=
  let w (n : Nat) : Word := BitVec.ofNat 32 n
  let fixed := [(0, w index), (1, w l.cohorts), (2, w gic), (3, w base), (4, w pane), (5, w l.tag), (6, w part), (7, w l.width)]
  let args := (l.args.zipIdx).map (fun ai => (32 + ai.2, ai.1))
  let g : Group := { cohort := ci, gic, width := l.width, vcount := 8 * l.vreg,
                     paths := [{ mask := widthMask l.width, pc := l.entry }] }
  let g := (fixed ++ args).foldl (fun g nv => g.setS nv.1 nv.2) g
  g.setVs (List.range l.width) 0 (fun lane => w (gic * l.width + lane))

/-- The pane made ready for a cohort: cleared when it last held another partition's work (R46), and its cache emptied when
the split changes (R54). A pane that holds no partition's work has been cleared since it last did, and what remote operations
have stored there since stays. Log entry 64 (DEDUCED). -/
def Pane.readyFor (p : Pane) (part split : Nat) : Pane :=
  let q : Pane := if p.part = some part ∨ p.part = none then { p with part := some part }
    else { part := some part, clears := p.clears + 1, heldOps := p.heldOps, reserved := p.reserved, perf := p.perf }
  if q.split = split then q else { q with split, cache := [], clears := q.clears + 1 }

/-- A cohort is placed whole: its groups become resident together (R44). -/
def Device.placeOn (s : Device) (part li pane page : Nat) (l : Launch) : Device :=
  let id := s.nextCohort
  let c : Cohort := { part, launch := li, index := l.next, pane, lsBase := page * 4096, lsPages := l.lsc, est0 := l.est0 }
  let p := (s.pane pane).readyFor part l.split
  let q := ((p.freeSlots.take l.gpc).zipIdx).foldl (fun p si =>
    p.setGroup si.1 (startGroup l.next part pane id si.2 (page * 4096) l)) p
  let t := { (s.setPane pane q) with cohorts := SMap.put s.cohorts id c, nextCohort := id + 1 }
  let t := t.modSash (sashOf pane) (fun x => { x with idle := false, emptySince := none })
  let t := (s.part part).panes.foldl (fun t a =>
    if (t.pane a).reserved.any (fun r => r.2 == li) then t.modPane a (fun p => { p with reserved := none }) else t) t
  (t.modLaunch part li (fun l => { l with next := l.next + 1, last := some pane })).modQueue part l.queue
    (fun q => { q with turns := q.turns + 1 })

/-- The launches of a queue that have an unplaced cohort, oldest first. -/
def Partition.unplaced (x : Partition) (q : Nat) : List (Nat × Launch) :=
  x.launches.filter (fun kv => kv.2.queue == q && decide (kv.2.next < kv.2.cohorts))

/-- The queues with an unplaced cohort. -/
def Partition.eager (x : Partition) : SMap Queue := x.queues.filter (fun kq => !(x.unplaced kq.1).isEmpty)

/-- The queue whose turn it is among those of a PRIO with an unplaced cohort (R287 2): the lowest index that has turns
left in this round; a new round begins when none has. Log entry 63 (DEDUCED). -/
def Partition.turnQueue (x : Partition) (prio : Nat) : Option (Nat × Queue × Bool) :=
  let mine := x.eager.filter (fun kq => kq.2.prio == prio)
  match mine.find? (fun kq => decide (kq.2.turns < kq.2.weight)) with
  | some kq => some (kq.1, kq.2, false)
  | none => mine.head?.map (fun kq => (kq.1, kq.2, true))

/-- The panes of a launch in the order of R287 4: ascending after the pane of its previous cohort, wrapping round. -/
def placeOrder (panes : List Nat) (last : Option Nat) : List Nat :=
  match last with
  | none => panes
  | some a => panes.filter (fun b => decide (a < b)) ++ panes.filter (fun b => decide (b ≤ a))

/-- The next cohort of a PRIO is placed, or the next pane is reserved for it (R287): the state, and whether it was placed. -/
def Device.placePrio (s : Device) (part prio : Nat) : Device × Bool :=
  let x := s.part part
  match x.turnQueue prio with
  | none => (s, false)
  | some (qi, q, fresh) =>
    match x.unplaced qi with
    | [] => (s, false)
    | (li, l) :: _ =>
      let s := if fresh then s.setPart part { x with queues := x.queues.map (fun kq =>
        if kq.2.prio = q.prio then (kq.1, { kq.2 with turns := 0 }) else kq) } else s
      let order := placeOrder (s.usablePanes part l.psel) l.last
      let open' := order.filter (fun a => match (s.pane a).reserved with
        | some (prio, lr) => lr == li || decide (prio ≤ q.prio)
        | none => true)
      match open'.findSome? (fun a => (s.holds a part li l).map (fun page => (a, page))) with
      | some (a, page) => (s.placeOn part li a page l, true)
      | none =>
        if order.any (fun a => (s.pane a).reserved.any (fun r => r.2 == li)) then (s, false)
        else
          match order.find? (fun a => (s.pane a).reserved.isNone && s.paneState a == .active) with
          | some a => (s.modPane a (fun p => { p with reserved := some (q.prio, li) }), false)
          | none => (s, false)

/-- The scheduler places the next cohort of a partition: that of the highest PRIO, or, while that one waits for a pane, one of a lower PRIO on a
pane that is not reserved (R287). -/
def Device.placeNext (s : Device) (part : Nat) : Device :=
  let x := s.part part
  if x.fence != .none || x.state == .absent || x.state == .destroying then s
  else
    ([3, 2, 1, 0].foldl (fun (acc : Device × Bool) prio => if acc.2 then acc else acc.1.placePrio part prio) (s, false)).1

def execCohortPlace (part : Nat) (s : State) : Host.Outcome State Fault Refusal := onDevice s fun s => .next (s.placeNext part)

/-! ## The end of a cohort -/

/-- The bytes of a fault record (Table 03-5). -/
def recordBytes (f : FaultRec) : List Byte :=
  bytesOf (pack [(f.code, 8), (f.bar, 8), (f.pane, 16), (f.slot, 6), (f.width, 2), (f.gic, 4), (0, 20), (f.pc, 57), (0, 7),
    (f.cohort, 32), (f.tag, 32), (f.time, 64), (f.lanes.toNat, 128)]) 64

/-- A fault record goes to the fault ring of the launching queue, or is dropped where the ring is full (R283). Log entry 46 (DEDUCED). -/
def Device.writeRecord (s : Device) (part qi : Nat) (f : FaultRec) : Device :=
  match s.queue? part qi with
  | none => s
  | some q =>
    let t := s.modQueue part qi (fun q => { q with ftail := (q.ftail + 1) % 2 ^ 32 })
    if (q.ftail + 2 ^ 32 - q.fhead) % 2 ^ 32 < 2 ^ q.flogsz then
      let w := t.writeVa part (q.fring + 64 * (q.ftail % 2 ^ q.flogsz)) (recordBytes f)
      if w.2 = stOk then w.1 else w.1.queueError part qi w.2
    else t.modQueue part qi (fun q => { q with flost := satAdd q.flost 1 })

/-- Nothing of a cohort is left to wait for: its groups have ended, or a fault stops them; its copies and remote operations
are done (R45, R67). -/
def Device.cohortDone (s : Device) (ci : Nat) (c : Cohort) : Bool :=
  let p := s.pane c.pane
  (c.fault.isSome || p.groups.all (fun kg => kg.2.cohort != ci))
    && p.copies.all (fun k => k.cohort != ci)
    && s.fabric.ops.all (fun kv => kv.2.stats || kv.2.pane != c.pane || kv.2.cohort != ci)

/-- The time since when a sash holds no resident cohort (R423). -/
def Device.noteEmpty (s : Device) (k : Nat) : Device :=
  if (s.sash k).emptySince.isNone && s.cohorts.all (fun kv => sashOf kv.2.pane != k) then s.modSash k (fun x => { x with emptySince := some s.now })
  else s

/-- A cohort ends: its fault records are written, its groups and local store are free, and its launch counts it. -/
def Device.endCohort (s : Device) (ci : Nat) (c : Cohort) : Device :=
  let q := ((s.launch? c.part c.launch).map (·.queue)).getD 0
  let t := c.records.foldl (fun t f => t.writeRecord c.part q f) s
  let slots := (((t.pane c.pane).groups.filter (fun kg => kg.2.cohort == ci))).map Prod.fst
  let mine (w : Waiter) : Bool := match w with
    | .path p slot _ => p == c.pane && slots.contains slot
    | .queue _ _ => false
  let t := t.modPane c.pane (fun p => { p with groups := p.groups.filter (fun kg => kg.2.cohort != ci) })
  let t := { t with cohorts := SMap.del t.cohorts ci, mem := { t.mem with regs := t.mem.regs.filter (fun w => !mine w) } }
  let t := t.modLaunch c.part c.launch (fun l =>
    { l with ended := l.ended + 1, faults := l.faults + c.records.length,
             status := if l.status = stOk then c.fault.getD stOk else l.status })
  t.noteEmpty (sashOf c.pane)

/-- COHORT_END (R45, R67); a test that waits for the pane then begins (R376). -/
def execCohortEnd (cohort : Nat) (s : State) : Host.Outcome State Fault Refusal := onDevice s fun s =>
  match s.cohort? cohort with
  | none => .next s
  | some c =>
    if s.cohortDone cohort c && (c.fault.isSome || s.paneState c.pane != .migrating) then .next (s.endCohort cohort c).retryTests
    else .next s

/-! ## The end of a launch -/

/-- A launch leaves the table and its descriptor completes (R45, R283). -/
def Device.endLaunch (s : Device) (part li : Nat) (l : Launch) (status : Nat) : Device :=
  let x := s.part part
  let t := s.setPart part { x with launches := SMap.del x.launches li }
  match (t.queue? part l.queue).bind (fun q => q.running.find? (·.launch == some li)) with
  | some r => t.complete part l.queue r status l.faults
  | none => t

def execLaunchComplete (part launch : Nat) (s : State) : Host.Outcome State Fault Refusal := onDevice s fun s =>
  match s.launch? part launch with
  | none => .next s
  | some l => if l.ended = l.cohorts then .next (s.endLaunch part launch l l.status) else .next s

end Sys2Proof.Machine
end

