-- ==== Sys2Proof/Machine/Manage.lean ====
section
/-! DEFINITION. Management commands (R279, R280, Table 12-3): pools, mappings, queues, and the registration of update shards
(R234, R235, R238). -/

namespace Sys2Proof.Machine

/-! ## The two paths of a command (R279) -/

/-- A command's effect on the state of its partition; it answers a status, or goes on with its path kept by what runs it. -/
abbrev ManageBody := Device → Nat → CmdPath → Nat → Device × Option Nat

/-- A command that was going on completes (R279, R283). -/
def Device.finishCommand (s : Device) (part : Nat) (via : CmdPath) (status : Nat) : Device :=
  match via with
  | .session m => s.finishAction part m status
  | .queue p q =>
    match (s.queue? p q).bind (fun x => x.running.find? (fun r => decide (0x10 ≤ r.opc))) with
    | some r => s.complete p q r status
    | none => s

/-- No other management command of the partition executes. -/
def Device.manageFree (s : Device) (part : Nat) : Bool :=
  !s.queueManages part && (SMap.find s.transom.acting part).all (fun pm => pm.2.index != 0x6010)

/-- A management command of one opcode: the next descriptor of a queue, ACCESS where the queue has ADMIN = 0, or a write of
OD 0x6010, which takes management opcodes only and ignores CTR (R279). -/
def manageRow (opc : Nat) (via : CmdPath) (s : Device) (k : ManageBody) : Host.Outcome Device Fault Refusal :=
  match via with
  | .queue p q =>
    .next (onDescriptor (fun o => o == opc && s.manageFree p) p q s (fun t x r d =>
      if !x.admin then t.complete p q r stAccess
      else
        let u := k t p via d
        match u.2 with
        | some status => u.1.complete p q r status
        | none => u.1))
  | .session m =>
    let o := fld (ofBytes m.value) 0 8
    actionRow 0x6010 (fun _ => o == opc || !decide (0x10 ≤ o ∧ o ≤ 0x17)) m s (fun t part m =>
      let d := ofBytes m.value
      if o != opc || fld d 10 22 != 0 || fld d 121 7 != 0 then (t, some stMalformed) else k t part via d)

/-- Whether a command's body is zero outside its fields (R280). -/
def bodyClear (d : Nat) (fields : List (Nat × Nat)) : Bool :=
  fields.foldl (fun n f => n - fld d f.1 f.2 * 2 ^ f.1) d / 2 ^ 128 == 0

/-! ## Pools (R153, R275) -/

/-- The allocatable granule rows of a stack (R152). -/
def allocatableRows : Nat := 4030464

/-- The rows a pool takes on each of its stacks. -/
def Pool.slabRows (p : Pool) : Nat := if p.mirror then 2 * p.rows else p.rows

/-- The slabs on a stack: first row and length of each. -/
def Device.slabsOn (s : Device) (stack : Nat) : List (Nat × Nat) :=
  s.parts.flatMap (fun kx => kx.2.pools.filterMap (fun kp =>
    (SMap.find kp.2.slab stack).map (fun r => (r, kp.2.slabRows))))

/-- The lowest run of allocatable rows that fits on a stack. -/
def lowestRun (taken : List (Nat × Nat)) (need : Nat) : Option Nat :=
  let starts := 0 :: taken.map (fun t => t.1 + t.2)
  let fits (b : Nat) : Bool := decide (b + need ≤ allocatableRows) && taken.all (fun t => decide (b + need ≤ t.1 ∨ t.1 + t.2 ≤ b))
  match starts.filter fits with
  | [] => none
  | b :: bs => some (bs.foldl min b)

/-- The slab of a pool on every stack of its set, if each has a run. -/
def Device.slabFor (s : Device) (p : Pool) : Option (SMap Nat) :=
  let runs := (stacksOf p.set).map (fun k => (k, lowestRun (s.slabsOn k) p.slabRows))
  if runs.any (fun kr => kr.2.isNone) then none else some (runs.map (fun kr => (kr.1, kr.2.getD 0)))

/-- SET breaks the mirror rule of Table 07-5. -/
def mirrorOk (set : Nat) : Bool := (stacksOf set).all (fun t => bit set (if t < 10 then t + 10 else t - 10))

/-- POOL_CREATE: the pool is zeroed before the command completes (POOL_ZEROED). -/
def poolCreate (s : Device) (part : Nat) (via : CmdPath) (d : Nat) : Device × Option Nat :=
  let number := fld d 128 3
  let set := fld d 132 20
  let shared := bit d 152
  let mir := fld d 153 2
  let size := fld d 160 32
  let n := (stacksOf set).length
  let mirror := if mir = 0 then shared else mir == 1
  let p : Pool := { set, size := size * 2 ^ 21, mirror, shared, readers := fld d 192 32, state := .zeroing, via := some via }
  let x := s.part part
  if !bodyClear d [(128, 3), (132, 20), (152, 1), (153, 2), (160, 32), (192, 32)] || mir == 3 || n == 0 || size == 0
      || size % n != 0 || (!shared && p.readers != 0) || (SMap.find x.pools number).isSome || (mirror && !mirrorOk set) then
    (s, some stMalformed)
  else if fld x.desc 64 16 * 2 ^ 30 < x.consumed + p.size * (if mirror then 2 else 1) then (s, some stResource)
  else
    match s.slabFor p with
    | none => (s, some stResource)
    | some slab => (s.setPart part { x with pools := SMap.put x.pools number { p with slab } }, none)

def execPoolCreate (via : CmdPath) (s : State) : Host.Outcome State Fault Refusal := onDevice s fun s => manageRow 0x10 via s poolCreate

/-- Whether a byte's key belongs to a pool. -/
def keyOfPool (part pool key : Nat) : Bool := key / 2 ^ 44 == part * 8 + pool

/-- Whether a sector's or a range's key belongs to a pool. -/
def sectorOfPool (part pool key : Nat) : Bool := keyOfPool part pool (key * 32)
def rangeOfPool (part pool key : Nat) : Bool := keyOfPool part pool (key * 32768)

/-- A pool's memory is all zero and free of poison, and its order words are zero (R153, R222). -/
def Device.wipePool (s : Device) (part pool : Nat) : Device :=
  let m := s.mem
  let bytes := m.bytes.filter (fun kv => !keyOfPool part pool kv.1)
  let poison := m.poison.filter (fun kv => !sectorOfPool part pool kv.1)
  let order := m.order.filter (fun kv => !rangeOfPool part pool kv.1)
  let stall := m.stall.filter (fun kv => !rangeOfPool part pool kv.1)
  let idle := m.idle.filter (fun kv => !((s.ownerOf (placeOfAddress (kv.1 * 32))).any (fun o => o.1 == part && o.2.1 == pool)))
  ({ s with mem := { m with bytes, poison, order, stall, idle } }).dropBuffer (sectorOfPool part pool)

/-- POOL_ZEROED (R153). -/
def execPoolZeroed (part pool : Nat) (s : State) : Host.Outcome State Fault Refusal := onDevice s fun s =>
  match s.pool? part pool with
  | none => .next s
  | some p =>
    if p.state != .zeroing then .next s
    else
      let t := (s.wipePool part pool).modPart part (fun x =>
        { x with pools := SMap.put x.pools pool { p with state := .ready, via := none } })
      .next (match p.via with
        | some via => t.finishCommand part via stOk
        | none => t)

/-- The mappings of a pool go, of every partition (R280). -/
def Device.unmapPool (s : Device) (part pool : Nat) : Device :=
  { s with parts := s.parts.map (fun kx => (kx.1, { kx.2 with
    maps := kx.2.maps.filter (fun m => !(m.kind == 0 && m.owner == part && m.pool == pool)) })) }

/-- Every pane drops its cached sectors of a pool. -/
def Device.dropPoolLines (s : Device) (part pool : Nat) : Device :=
  { s with panes := s.panes.map (fun kp => (kp.1, { kp.2 with
    cache := kp.2.cache.filter (fun kv => !sectorOfPool part pool kv.1) })) }

/-- A pool leaves its partition with its mappings, held pieces, cached and buffered sectors and forwarded writes (R169). -/
def Device.removePool (s : Device) (part pool : Nat) : Device :=
  let t := (s.unmapPool part pool).dropPoolLines part pool
  let held := t.mem.held.filter (fun q => !(q.part == part && q.pool == pool))
  let stall := t.mem.stall.filter (fun kv => !rangeOfPool part pool kv.1)
  let forwards := t.mem.forwards.filter (fun f => !(f.owner == part && f.pool == pool))
  (({ t with mem := { t.mem with held, stall, forwards } }).dropBuffer (sectorOfPool part pool)).modPart part (fun x => { x with pools := SMap.del x.pools pool })

/-- The rings of a queue: address and bytes. -/
def ringsOf (q : Queue) : List (Nat × Nat) :=
  [(q.ring, 64 * 2 ^ q.logsz), (q.cq, 16 * 2 ^ q.logsz), (q.fring, 64 * 2 ^ q.flogsz)]

/-- The ranges of virtual addresses that a partition's queues and shards hold. -/
def Partition.pinned (x : Partition) : List (Nat × Nat) :=
  x.queues.flatMap (fun kq => ringsOf kq.2) ++ x.shards.map (fun kd => (shardBase kd.2.desc, 16 * shardN kd.2.desc))

/-- Whether a mapping's pages meet a range. -/
def Mapping.meets (m : Mapping) (r : Nat × Nat) : Bool := decide (m.va < r.1 + r.2 ∧ r.1 < m.va + m.psz * m.count)

/-- POOL_RELEASE (R280). Log entry 68 (DESIGN CHOICE). -/
def poolRelease (s : Device) (part : Nat) (_ : CmdPath) (d : Nat) : Device × Option Nat :=
  let number := fld d 128 3
  let x := s.part part
  if !bodyClear d [(128, 3)] || (SMap.find x.pools number).isNone then (s, some stMalformed)
  else if x.maps.any (fun m => m.kind == 0 && m.owner == part && m.pool == number && x.pinned.any m.meets)
      || (x.snap.rows.any (·.state == 0) && x.snap.armed.any (fun h => h.pools.any (·.1 == number))) then (s, some stResource)
  else (s.removePool part number, some stOk)

def execPoolRelease (via : CmdPath) (s : State) : Host.Outcome State Fault Refusal := onDevice s fun s => manageRow 0x11 via s poolRelease

/-! ## Mappings (R154, R280) -/

def pageSize (psz : Nat) : Nat := if psz = 0 then 2 ^ 16 else if psz = 1 then 2 ^ 21 else 2 ^ 30

/-- Whether any page of a run is mapped. -/
def Partition.anyMapped (x : Partition) (va len : Nat) : Bool := x.maps.any (fun m => m.meets (va, len))

/-- The status that refuses a memory mapping, or OK (R280). -/
def Device.mapStatus (s : Device) (part : Nat) (m : Mapping) : Nat :=
  let beyond (p : Pool) : Nat := if p.size < m.poff + m.psz * m.count then stResource else stOk
  if m.owner = part then
    match s.pool? part m.pool with
    | none => stMalformed
    | some p => if p.state != .ready then stResource else beyond p
  else
    match s.pool? m.owner m.pool with
    | none => stAccess
    | some p => if !p.shared || p.state != .ready || !bit p.readers part || m.write then stAccess else beyond p

/-- The system area has table space for some more pages (R152, R275). Log entry 67 (DESIGN CHOICE). -/
def Device.tableRoom (s : Device) (pages : Nat) : Bool :=
  let used := total (s.parts.map (fun kx => total (kx.2.maps.map (·.count)))) + pages
  decide (used ≤ 65536) || decide (used ≤ 65536 + Config.tablePages)

/-- MAP. Log entry 69 (DEDUCED). -/
def mapPages (s : Device) (part : Nat) (_ : CmdPath) (d : Nat) : Device × Option Nat :=
  let x := s.part part
  let size := pageSize (fld d 185 2)
  let va := fld d 128 57
  let count := fld d 288 32
  let kind := fld d 189 2
  let poff := fld d 256 32 * 65536
  let m : Mapping := { va, psz := size, count, write := bit d 187, view := fld d 188 1, kind, owner := fld d 195 5, pool := fld d 192 3,
                       poff := if kind = 0 then poff else 0, queue := fld d 200 14 }
  let doorbell := fld d 185 2 == 0 && count == 1 && m.write && m.view == 0 && (SMap.find x.queues m.queue).isSome
  if !bodyClear d [(128, 57), (185, 2), (187, 1), (188, 1), (189, 2), (192, 3), (195, 5), (200, 14), (256, 32), (288, 32)]
      || fld d 185 2 == 3 || decide (2 ≤ kind) || count == 0 || va % size != 0 || decide (2 ^ 48 < va + count * size)
      || poff % size != 0 || x.anyMapped va (count * size) || (kind == 1 && !doorbell) then (s, some stMalformed)
  else
    let st := if kind = 1 then stOk else s.mapStatus part m
    if st != stOk then (s, some st)
    else if !s.tableRoom count then (s, some stResource)
    else (s.setPart part { x with maps := x.maps ++ [m] }, some stOk)

def execMap (via : CmdPath) (s : State) : Host.Outcome State Fault Refusal := onDevice s fun s => manageRow 0x12 via s mapPages

/-- What is left of a mapping without a run of its pages. -/
def Mapping.without (m : Mapping) (va len : Nat) : List Mapping :=
  if !m.meets (va, len) then [m]
  else
    let stop := m.va + m.psz * m.count
    (if m.va < va then [{ m with count := (va - m.va) / m.psz }] else [])
    ++ (if va + len < stop then
          [{ m with va := va + len, count := (stop - (va + len)) / m.psz, poff := m.poff + (va + len - m.va) }]
        else [])

/-- UNMAP. -/
def unmapPages (s : Device) (part : Nat) (_ : CmdPath) (d : Nat) : Device × Option Nat :=
  let x := s.part part
  let size := pageSize (fld d 185 2)
  let va := fld d 128 57
  let len := fld d 288 32 * size
  let mine := x.maps.filter (fun m => m.meets (va, len))
  let covered := total (mine.map (fun m => min (m.va + m.psz * m.count) (va + len) - Nat.max m.va va))
  if !bodyClear d [(128, 57), (185, 2), (288, 32)] || fld d 185 2 == 3 || len == 0 || va % size != 0
      || decide (2 ^ 48 < va + len) || covered != len || mine.any (fun m => m.psz != size || m.kind == 2) then (s, some stMalformed)
  else if x.pinned.any (fun r => decide (va < r.1 + r.2 ∧ r.1 < va + len)) then (s, some stResource)
  else (s.setPart part { x with maps := x.maps.flatMap (fun m => m.without va len) }, some stOk)

def execUnmap (via : CmdPath) (s : State) : Host.Outcome State Fault Refusal := onDevice s fun s => manageRow 0x13 via s unmapPages

/-! ## Queues (R280) -/

/-- QUEUE_CREATE. -/
def queueCreate (s : Device) (part : Nat) (_ : CmdPath) (d : Nat) : Device × Option Nat :=
  let x := s.part part
  let qi := fld d 128 14
  let q : Queue := { prio := fld d 142 2, admin := bit d 144, logsz := fld d 145 5, flogsz := fld d 150 4, weight := fld d 160 8,
                     ring := fld d 192 57, cq := fld d 256 57, fring := fld d 320 57 }
  let fields := bodyClear d [(128, 14), (142, 2), (144, 1), (145, 5), (150, 4), (160, 8), (192, 57), (256, 57), (320, 57)]
    && decide (6 ≤ q.logsz ∧ q.logsz ≤ 20) && decide (4 ≤ q.flogsz ∧ q.flogsz ≤ 12) && q.weight != 0
    && q.ring % 64 == 0 && q.cq % 16 == 0 && q.fring % 64 == 0 && (ringsOf q).all (fun r => decide (r.1 + r.2 ≤ 2 ^ 48))
    && decide (qi < fld x.desc 32 16) && (SMap.find x.queues qi).isNone
  if !fields then (s, some stMalformed)
  else
    let st := firstBad (s.mappedWith part q.ring (64 * 2 ^ q.logsz) .read)
      (firstBad (s.mappedWith part q.cq (16 * 2 ^ q.logsz) .write) (s.mappedWith part q.fring (64 * 2 ^ q.flogsz) .write))
    if st != stOk then (s, some st) else (s.setQueue part qi q, some stOk)

def execQueueCreate (via : CmdPath) (s : State) : Host.Outcome State Fault Refusal := onDevice s fun s => manageRow 0x14 via s queueCreate

/-- Whether a command came on a queue. -/
def cameOn (via : CmdPath) (part q : Nat) : Bool := via == .queue part q

/-- QUEUE_DESTROY: a running WAIT ends with FENCED, and the queue goes once its launches have completed. -/
def queueDestroy (s : Device) (part : Nat) (via : CmdPath) (d : Nat) : Device × Option Nat :=
  let qi := fld d 128 14
  match s.queue? part qi with
  | none => (s, some stMalformed)
  | some q =>
    if !bodyClear d [(128, 14)] || cameOn via part qi then (s, some stMalformed)
    else
      let t := s.setQueue part qi { q with started := q.tail }
      let t := match q.running.find? (·.opc == 2) with
        | some r => (t.unregister (.queue part qi)).complete part qi r stFenced
        | none => t
      let t := t.modPart part (fun x => { x with maps := x.maps.filter (fun m => !(m.kind == 1 && m.queue == qi)) })
      match t.queue? part qi with
      | none => (t, some stOk)
      | some q' =>
        if q'.running.isEmpty then (t.removeQueue part qi, some stOk)
        else (t.setQueue part qi { q' with dying := some via }, none)

def execQueueDestroy (via : CmdPath) (s : State) : Host.Outcome State Fault Refusal := onDevice s fun s => manageRow 0x15 via s queueDestroy

/-! ## Update shards (R234, R235, R238) -/

/-- The mappings that cover a range of virtual addresses in turn, if all of it is mapped. -/
def Partition.cover (x : Partition) (stop : Nat) : Nat → Nat → Option (List Mapping)
  | 0, va => if stop ≤ va then some [] else none
  | fuel + 1, va =>
    if stop ≤ va then some []
    else
      match x.mapping? va with
      | none => none
      | some m => (x.cover stop fuel (m.va + m.psz * m.count)).map (fun l => m :: l)

/-- The pool offsets of a range of virtual addresses: runs of an offset and a length. -/
def runsOf (maps : List Mapping) (va len : Nat) : List (Nat × Nat) :=
  maps.map (fun m =>
    let lo := Nat.max m.va va
    (m.poff + (lo - m.va), min (m.va + m.psz * m.count) (va + len) - lo))

/-- A pool range of one copy reads as zero and free of poison; covered blocks are first copied (R402). -/
def Device.zeroRun (s : Device) (part pool : Nat) (run : Nat × Nat) : Device :=
  let k := memKey part pool 0 run.1
  let inRun (a : Nat) : Bool := decide (k ≤ a ∧ a < k + run.2)
  let blocks := (s.part part).snap.todo.filter (fun b =>
    b / 2 ^ 27 == pool && decide (run.1 < (b % 2 ^ 27 + 1) * 32768 ∧ b % 2 ^ 27 * 32768 < run.1 + run.2))
  let t := blocks.foldl (fun t b => t.firstTouch part pool (b % 2 ^ 27 * 32768)) s
  let bytes := t.mem.bytes.filter (fun kv => !inRun kv.1)
  let poison := t.mem.poison.filter (fun kv => !inRun (kv.1 * 32))
  ({ t with mem := { t.mem with bytes, poison, forwards := t.mem.forwards.filter (fun f =>
      !(f.owner == part && f.pool == pool && decide (run.1 ≤ f.off ∧ f.off < run.1 + run.2))) } }).dropBuffer (fun key => inRun (key * 32))

/-- A binary32 field that is finite and not negative. -/
def posFinite (b : Nat) : Bool := decide (b < 0x7F800000) || b == 0x80000000

/-- A binary32 field in [0, 1). -/
def unitFraction (b : Nat) : Bool := decide (b < 0x3F800000) || b == 0x80000000

/-- The fields of a shard descriptor (R235 1): those that its optimiser reads. -/
def shardFieldsOk (d : Nat) : Bool :=
  let opt := fld d 112 4
  let stats := fld d 320 64
  fld d 57 7 == 0 && fld d 83 13 == 0 && fld d 117 11 == 0 && fld d 384 128 == 0
    && fld d 0 57 % 65536 == 0 && decide (1 ≤ fld d 64 19 ∧ fld d 64 19 ≤ 262144) && fld d 96 16 != 0 && decide (opt < 4)
    && posFinite (fld d 160 32) && (opt == 0 || unitFraction (fld d 192 32))
    && (decide (opt < 2) || unitFraction (fld d 224 32))
    && (opt != 2 || (posFinite (fld d 256 32) && fld d 256 31 != 0)) && posFinite (fld d 288 32)
    && decide (shardBase d + 16 * shardN d ≤ 2 ^ 48) && (stats == 0 || (stats % 32 == 0 && fld stats 48 4 == 0))

/-- A step is in progress on the chip (R252). -/
def StepSt.inProgress (x : StepSt) : Bool := x.first.isSome || x.nextFirst.isSome || x.doneSent

/-- The order words of a shard's gradient plane of one parity at registration (R238). -/
def Device.orderPlane (s : Device) (part pool : Nat) (runs : List (Nat × Nat)) (next : Nat) : Device :=
  runs.foldl (fun t r =>
    (List.range (r.2 / 32768)).foldl (fun t i => t.setNext (rangeKey part pool (r.1 + 32768 * i)) next) t) s

/-- A registration that has passed its checks (R238): both gradient planes zeroed, their order words set for the expected
step. -/
def Device.registerShard (s : Device) (part pool sill d : Nat) (maps : List Mapping) : Device :=
  let n := shardN d
  let s0 := s.odGet part 0x7110 4
  let cpr := fld d 96 16
  let plane (q : Nat) : List (Nat × Nat) :=
    (runsOf (maps.filter (fun m => m.meets (shardBase d + 8 * n + 4 * n * q, 4 * n))) (shardBase d + 8 * n + 4 * n * q) (4 * n))
  let first (q : Nat) : Nat := if s0 % 2 = q then s0 else s0 + 1
  let t := (plane 0 ++ plane 1).foldl (fun t r => t.zeroRun part pool r) s
  let t := [0, 1].foldl (fun t q => t.orderPlane part pool (plane q) (first q / 2 * cpr)) t
  t.modPart part (fun x => { x with shards := SMap.put x.shards (shardBase d) { desc := d, sill } })

/-- The checks of R235 on a shard descriptor in their order, and the registration. -/
def Device.tryShard (s : Device) (part d : Nat) : Device × Nat :=
  let x := s.part part
  let base := shardBase d
  let len := 16 * shardN d
  let meets (k : Shard) : Bool := decide (base < shardBase k.desc + 16 * shardN k.desc ∧ shardBase k.desc < base + len)
  let entries := [1, 2, 3].all (fun i => s.odGet part 0x7110 i != 0)
  if !shardFieldsOk d || x.shards.any (fun kv => meets kv.2) || !entries then (s, stMalformed)
  else
    match x.cover (base + len) (x.maps.length + 1) base with
    | none => (s, stTranslation)
    | some maps =>
      match maps with
      | [] => (s, stTranslation)
      | m0 :: _ =>
        match s.pool? part m0.pool with
        | none => (s, stAccess)
        | some p =>
          let sites := stacksOf p.set
          let alike := maps.all (fun m => m.kind == 0 && m.owner == part && m.pool == m0.pool && m.write)
          if !alike || sites.length != 1 || p.mirror || p.shared then (s, stAccess)
          else
            let sill := sites.headD 0
            let onSill := total (s.parts.map (fun kx => (kx.2.shards.filter (fun kd => kd.2.sill == sill)).length))
            if 1024 ≤ onSill || x.step.inProgress then (s, stResource)
            else (s.registerShard part m0.pool sill d maps, stOk)

/-- SHARD_REGISTER. -/
def shardRegister (s : Device) (part : Nat) (_ : CmdPath) (d : Nat) : Device × Option Nat :=
  let va := fld d 128 57
  if !bodyClear d [(128, 57)] || va % 64 != 0 then (s, some stMalformed)
  else
    match s.readVa part va 64 with
    | .error e => (s, some e)
    | .ok b => let r := (s.sawVa part va 64).tryShard part (ofBytes b); (r.1, some r.2)

def execShardRegister (via : CmdPath) (s : State) : Host.Outcome State Fault Refusal := onDevice s fun s => manageRow 0x16 via s shardRegister

/-- A shard leaves: its held pieces are discarded, and its planes are ordinary memory (R238). -/
def Device.removeShard (s : Device) (part base : Nat) : Device :=
  let x := s.part part
  match SMap.find x.shards base with
  | none => s
  | some k =>
    let mine (q : Piece) : Bool := q.part == part && (x.shardAt part q.pool q.off).any (fun sp => sp.1 == base)
    let ranges := (s.mem.held.filter mine).map (·.range)
    let held := s.mem.held.filter (fun q => !mine q)
    let stall := s.mem.stall.filter (fun kv => !ranges.contains kv.1)
    let t := ({ s with mem := { s.mem with held, stall } }).setPart part { x with shards := SMap.del x.shards base }
    match k.leaving with
    | some via => t.finishCommand part via stOk
    | none => t

/-- The step in progress that ends first (R252). -/
def Device.runningStep (s : Device) (part : Nat) : Nat :=
  let st := (s.part part).step
  s.odGet part 0x7110 4 + (if st.first.isSome || st.doneSent then 0 else 1)

/-- SHARD_DEREGISTER: at once, or at the commit or skip of the step in progress. Log entry 91 (DEDUCED). -/
def shardDeregister (s : Device) (part : Nat) (via : CmdPath) (d : Nat) : Device × Option Nat :=
  let base := fld d 128 57
  let x := s.part part
  match SMap.find x.shards base with
  | none => (s, some stMalformed)
  | some k =>
    if !bodyClear d [(128, 57)] then (s, some stMalformed)
    else if x.step.inProgress then
      (s.setPart part { x with shards := SMap.put x.shards base { k with leaving := some via, leaveAt := s.runningStep part } }, none)
    else (s.removeShard part base, some stOk)

def execShardDeregister (via : CmdPath) (s : State) : Host.Outcome State Fault Refusal := onDevice s fun s => manageRow 0x17 via s shardDeregister

end Sys2Proof.Machine
end

