-- ==== Sys2Proof/Machine/Restart.lean ====
section
/-! DEFINITION. What is left of the module when it starts again: after a device reset (R380, R392) and after its supply is
lost (R453). -/

namespace Sys2Proof.Machine

/-- The history of a unit over a start: a test that ran is over, and the unit is what it was before (R367). -/
def Device.settledUnit (s : Device) (kn : Nat × Nat) (u : UnitRow) : UnitRow :=
  let v : UnitRow := { u with dueAt := none, judged := false }
  if u.state != .testing then v
  else if kn.1 = 1 && (s.numberOf kn.2).isNone then { v with state := .spare } else { v with state := .good }

/-- What the unit history keeps over a start: rows, retirements, substitutions and vacancies (R16, R19, R367). -/
def Device.keptUnits (s : Device) : UnitsSt :=
  { phys := s.units.phys
    pstate := s.units.pstate.filter (fun kv => kv.2 == .vacant)
    rmask := s.units.remap.foldl (fun m kv => SMap.keep m kv.1 kv.2.1 0) s.units.rmask
    history := s.units.history.map (fun kv => (kv.1, s.settledUnit (unitOfRow kv.1) kv.2))
    retired := s.units.retired
    opsec := s.units.opsec }

/-- The module before a start: memory, partitions, keys, sessions and registers are gone; the MRAM, the fuses and the unit
history stay (R338, R367, R392, R453). -/
def Device.beforeStart (s : Device) (boot : BootSt) : Device :=
  { free := s.free, sent := s.sent, mram := s.mram, units := s.keptUnits, boot }

/-- The length of a stage's watchdog in nanoseconds (OD 0xA120, R382). -/
def Device.watchdog (s : Device) (stage : Nat) : Nat := 1000000 * s.odGet 0 0xA120 0 (stage - 1)

/-- A device reset (R392): every session closes with RETIRED, and the start begins again at stage 1 under the watchdog of
stage 5, which the boot ROM counts from the start of the reset (R382). Log entry 130 (DEDUCED). -/
def Device.deviceReset (s : Device) : Device :=
  let t := s.closeSessions (fun _ => true) stRetired
  let stage : StageSt := { stage := 5, target := 0, start := 0, limit := s.watchdog 5 }
  t.beforeStart { state := 3, vin := s.boot.vin, pwrgd := s.boot.pwrgd, reset5 := true, stages := [stage], escalated := s.boot.escalated }

/-- The supply is lost: nothing but the MRAM, the fuses and the history is left (R453). -/
def Device.powerLoss (s : Device) (vin : Nat) : Device := s.beforeStart { vin, pwrgd := false, resetLow := s.boot.resetLow }

end Sys2Proof.Machine
end

