-- ==== Sys2Proof/Machine/Snap.lean ====
section
/-! DEFINITION. Shared operations of snapshots: SNAPMARK cells (Table 18-1), arming (R400), the life of a row (R401), the
leader's interval (R408), failure, and retracts (R363, R409). -/

namespace Sys2Proof.Machine

/-- A SNAPMARK step field: the kind above STEPV (Table 18-1). -/
def markStep (kind stepv : Nat) : Nat := stepv % 2 ^ 62 + 2 ^ 62 * kind

def markId (c : SyncCell) : Nat := fld c.payload 0 32
def markTarm (c : SyncCell) : Nat := fld c.payload 32 64
def markCost (c : SyncCell) : Nat := fld c.payload 96 32
def markStatus (c : SyncCell) : Nat := fld c.payload 128 8
def markLast (c : SyncCell) : Nat := fld c.payload 152 64

/-- A snapshot of the partition is ARMED on this chip (R401). -/
def Partition.armed (x : Partition) : Bool := x.snap.rows.any (·.state == 0)

/-- The job's leader: the chip with the lowest number of the set (R399). -/
def Device.leads (s : Device) (part : Nat) : Bool := (s.jobChips part).head? == some s.chip

def Device.modSnap (s : Device) (part : Nat) (f : SnapSt → SnapSt) : Device :=
  s.modPart part (fun x => { x with snap := f x.snap })

/-! ## The interval (R408) -/

/-- The integer nearest to the square root. -/
def sqrtNear (n : Nat) : Nat :=
  let r := Nat.sqrt n
  if r * r + r < n then r + 1 else r

/-- I in milliseconds from a cost in microseconds and M in seconds: √(2 · C · M), clamped to 2–600 s. -/
def intervalMs (cost mtbf : Nat) : Nat := min 600000 (Nat.max 2000 (sqrtNear (2 * cost * mtbf)))

/-! ## Rows and copies (R401, R406) -/

/-- The TAKEN cells received for a snapshot: origin, TARM, cost, status. -/
def SnapSt.cellsOf (x : SnapSt) (id : Nat) : List (Nat × Nat × Nat × Nat × Nat) := x.taken.filter (fun c => c.2.1 == id)

/-- What the TAKEN cells say of a snapshot: COMPLETE (2) when every chip of the job has sent OK, FAILED (3) on any other status,
else nothing. -/
def Device.takenVerdict (s : Device) (part id : Nat) : Option Nat :=
  let cells := (s.part part).snap.cellsOf id
  if cells.any (fun c => c.2.2.2.2 != stOk) then some 3
  else if (s.jobChips part).all (fun k => cells.any (fun c => c.1 == k)) then some 2
  else none

/-- C and I of a snapshot that is COMPLETE are reported, and the leader plans its next TAKE (R408). -/
def Device.planNext (s : Device) (part id : Nat) : Device :=
  let cells := (s.part part).snap.cellsOf id
  let cost := greatest (cells.map (fun c => c.2.2.2.1))
  let ms := intervalMs cost ((s.part part).snap.mtbf.getD (s.odGet part 0xA000 3))
  let t := (s.odSet part 0xA000 4 0 ms).odSet part 0xA000 5 0 cost
  if t.leads part then
    let tarm := ((cells.find? (fun c => c.1 == s.chip)).map (fun c => c.2.2.1)).getD s.now
    t.modSnap part (fun x => { x with nextTake := some (tarm + 1000000 * ms) })
  else t

/-- After a FAILED or INVALID snapshot the leader sends the next TAKE 2 s later (R408). -/
def Device.planRetry (s : Device) (part : Nat) : Device :=
  if s.leads part then s.modSnap part (fun x => { x with nextTake := some (s.now + 2000000000) }) else s

/-- The copies of an origin after its snapshot id is judged: COMPLETE drops the older ones that are not held; a failed one is
dropped (R406). -/
def judgeCopies (id verdict : Nat) (copies : List BuddyCopy) : List BuddyCopy :=
  if verdict = 2 then
    let done := copies.map (fun c => if c.id = id && c.state == 0 then { c with state := 2 } else c)
    let origins := (done.filter (fun c => c.id == id && c.state == 2)).map (·.origin)
    done.filter (fun c => !(origins.contains c.origin && decide (c.id < id) && c.held == 0))
  else copies.filter (fun c => !(c.id == id && c.state == 0))

/-- A TAKEN cell has been recorded: the row and the copies of its snapshot are judged (R401, R406). -/
def Device.judgeSnap (s : Device) (part id : Nat) : Device :=
  match s.takenVerdict part id with
  | none => s
  | some v =>
    let was := (s.part part).snap.rows.any (fun r => r.id == id && r.state == 1)
    let t := s.modSnap part (fun x => { x with
      rows := x.rows.map (fun r => if r.id = id && r.state == 1 then { r with state := v } else r)
      copies := judgeCopies id v x.copies })
    if !was then t else if v = 2 then t.planNext part id else t.planRetry part

/-- A TAKEN cell of a chip, this one included. -/
def Device.recordTaken (s : Device) (part origin id tarm cost status : Nat) : Device :=
  (s.modSnap part (fun x => { x with
    taken := x.taken.filter (fun c => decide (id < c.2.1 + 16) && !(c.1 == origin && c.2.1 == id)) ++ [(origin, id, tarm, cost, status)] })).judgeSnap
    part id

/-- This chip floods its TAKEN cell and takes it itself (R401). -/
def Device.sendTaken (s : Device) (part id step tarm cost status : Nat) : Device :=
  let c := s.ownCell part 0x12 (markStep 1 step)
  let payload := id % 2 ^ 32 + 2 ^ 32 * (tarm % 2 ^ 64) + 2 ^ 96 * min cost (2 ^ 32 - 1) + 2 ^ 128 * status
  (s.floodCell { c with payload }).recordTaken part s.chip id tarm cost status

/-- A row enters OD 0xA020, which keeps the last 16. -/
def SnapSt.addRow (x : SnapSt) (r : SnapRow) : SnapSt :=
  { x with rows := (x.rows ++ [r]).drop (x.rows.length + 1 - 16) }

/-- The drain of the ARMED snapshot stops. -/
def SnapSt.stopDrain (x : SnapSt) : SnapSt := { x with armed := none, todo := [], copied := [], sent := [] }

/-- The cost of a drain (R403): the time that writes waited is measured, and its value is free. Log entry 108 (DESIGN CHOICE). -/
def Device.drainCost (s : Device) : Nat × Device := (s.draw.1 % 2 ^ 32, s.draw.2)

/-- SNAPSHOT_FAILED (R400). -/
def Device.raiseSnapFailed (s : Device) (part id status : Nat) : Device :=
  (s.odCount part 0xA050 3 0 1).raisePart part 0xA003 2 [(id, 4), (status, 1)]

/-- This chip's part of the ARMED snapshot fails: its row is FAILED, its drain stops, and its TAKEN cell carries the status
(R401). -/
def Device.failArmed (s : Device) (part status : Nat) : Device :=
  match (s.part part).snap.rows.find? (·.state == 0) with
  | none => s
  | some r =>
    let d := s.drainCost
    let t := d.2.modSnap part (fun x => { x.stopDrain with
      rows := x.rows.map (fun q => if q.id = r.id && q.state == 0 then { q with state := 3, cost := d.1 } else q) })
    ((t.raiseSnapFailed part r.id status).sendTaken part r.id r.step r.tarm d.1 status).planRetry part

/-- This chip's part fails before arming (R400). -/
def Device.failUnarmed (s : Device) (part id step status : Nat) : Device :=
  let row : SnapRow := { id, state := 3, buddy := s.odGet part 0xA000 2, step, tarm := s.now }
  let t := s.modSnap part (fun x => { x.addRow row with takes := x.takes.filter (fun k => k.1 != id) })
  ((t.raiseSnapFailed part id status).sendTaken part id step s.now 0 status).planRetry part

/-! ## Arming (R397, R400) -/

/-- The pools that a snapshot covers now, with their sizes. -/
def Device.coveredPools (s : Device) (part : Nat) : List (Nat × Nat) :=
  ((s.part part).pools.filter (fun kp => bit (s.odGet part 0xA001 0) kp.1)).map (fun kp => (kp.1, kp.2.size))

/-- The covered blocks: those of the gradient planes are left out (R397). -/
def Device.coveredBlocks (s : Device) (part : Nat) : List Nat :=
  let x := s.part part
  (s.coveredPools part).flatMap (fun ps =>
    ((List.range (ps.2 / 32768)).filter (fun b =>
      !(x.shardAt part ps.1 (b * 32768)).any (fun sp => decide (4 ≤ sp.2)))).map (fun b => ps.1 * 2 ^ 27 + b))

/-- Why a chip's part fails at a TAKE or at its arming, or none (R400). -/
def Device.armStatus (s : Device) (part : Nat) : Option Nat :=
  let buddy := s.odGet part 0xA000 2
  if s.odGet part 0xA000 1 = 0 then some stAccess
  else if buddy = 0xFFF || !s.inJobSet part buddy then some stTranslation
  else if (s.part part).armed then some stResource
  else none

/-- The chip arms a snapshot, or its part fails (R400). -/
def Device.arm (s : Device) (part id step : Nat) : Device :=
  match s.armStatus part with
  | some status => s.failUnarmed part id step status
  | none =>
    let kls := s.odInt part 0x7110 5
    let run := s.odGet part 0x7110 8
    let head : SnapHeader := { step, tarm := s.now, kls, run, pools := s.coveredPools part }
    let row : SnapRow := { id, state := 0, buddy := s.odGet part 0xA000 2, step, tarm := s.now, kls, run }
    let todo := s.coveredBlocks part
    s.modSnap part (fun x => { x.addRow row with
      takes := x.takes.filter (fun k => k.1 != id), armed := some head, todo, copied := [], sent := [],
      mtbf := some (s.odGet part 0xA000 3) })

/-- At the commit of a step, the TAKEs that name it arm in the order they came (R400). -/
def Device.armAt (s : Device) (part step : Nat) : Device :=
  ((s.part part).snap.takes.filter (fun k => k.2.1 == step)).foldl (fun t k => t.arm part k.1 step) s

/-! ## Retracts (R362, R363, R409) -/

/-- The sector behind a key of a sill's log. -/
def Device.poisonKey (s : Device) (key : Nat) : Device :=
  let k := key * 32
  s.poisonSector (k / 2 ^ 47) (k / 2 ^ 44 % 8) (k % 2 ^ 43)

/-- The logged sectors of a chip from a time on are written as poison (R363). -/
def Device.poisonLogged (s : Device) (part chip since : Nat) : Device :=
  let mine (e : WLog) : Bool := e.part == part && e.chip == chip && decide (since ≤ e.time)
  let t := ((s.mem.log.filter mine).flatMap (·.sectors)).foldl (fun t k => t.poisonKey k) s
  { t with panes := t.panes.map (fun kp =>
      (kp.1, ((kp.2.log.filter mine).flatMap (·.sectors)).foldl (fun p k => p.setLsPoison k true) kp.2)) }

/-- A retract mark for epochs from e1 on reaches this chip (R362, R363, R409). -/
def Device.applyRetract (s : Device) (part chip e1 : Nat) : Device :=
  let cut := e1 * 256 - 64
  let t := s.poisonLogged part chip cut
  let t := t.modPart part (fun x => { x with refused := if x.refused.contains chip then x.refused else x.refused ++ [chip] })
  let hit := (t.part part).snap.rows.any (fun r => r.state != 4 && decide (cut ≤ r.tarm))
  let stop := (t.part part).snap.rows.any (fun r => r.state == 0 && decide (cut ≤ r.tarm))
  let t := t.modSnap part (fun x =>
    let y := if stop then x.stopDrain else x
    { y with rows := y.rows.map (fun r => if cut ≤ r.tarm then { r with state := 4 } else r)
             copies := (y.copies.filter (fun c => !(decide (cut ≤ c.head.tarm) && c.held == 0))).map (fun c =>
               if cut ≤ c.head.tarm then { c with state := 4 } else c) })
  let t := if hit then t.planRetry part else t
  t.raisePart part 0x8003 2 [(e1, 8)]

/-- A pane withdraws what left it from its check epochs e1 to e2: the mark is flooded and acts here too; a second mark with
the same first epoch is not sent (R362, R409). -/
def Device.sendRetract (s : Device) (part pane e1 e2 : Nat) : Device :=
  if (s.part part).snap.retracts.contains e1 then s
  else
    let c := s.ownCell part 0x12 (markStep 2 e1)
    let payload := 2 ^ 136 * (pane % 2 ^ 16) + 2 ^ 152 * (e2 % 2 ^ 64)
    let t := s.modSnap part (fun x => { x with retracts := x.retracts ++ [e1] })
    (t.floodCell { c with payload }).applyRetract part s.chip e1

end Sys2Proof.Machine
end

