-- ==== Sys2Proof/Machine/Stages.lean ====
section
/-! DEFINITION. The reset ladder (R380–R396): the fence of a partition, the context reset, the reset of a pane and of a sash,
and what a hung stage leads to; with the migration of a pane (R371) that some of them wait for. -/

namespace Sys2Proof.Machine

/-! ## Stages under their watchdogs (R382, R396) -/

/-- A stage starts: its watchdog is armed. -/
def Device.openStage (s : Device) (stage target : Nat) (part : Option Nat) (msg : Option TMsg) : Device :=
  let x : StageSt := { stage, target, start := s.now, limit := s.watchdog stage, msg, part }
  { s with boot := { s.boot with stages := s.boot.stages ++ [x] } }

def Device.dropStage (s : Device) (stage target : Nat) : Device :=
  { s with boot := { s.boot with stages := s.boot.stages.filter (fun x => !x.isFor stage target) } }

def Device.modStage (s : Device) (stage target : Nat) (f : StageSt → StageSt) : Device :=
  { s with boot := { s.boot with stages := s.boot.stages.map (fun x => if x.isFor stage target then f x else x) } }

/-- RESET_DONE, to the device and to the partitions that the stage acted on (R396). -/
def Device.resetDone (s : Device) (stage status : Nat) (parts : List Nat) : Device :=
  let ps := [(stage, 1), (status, 1)]
  parts.foldl (fun t p => t.raisePart p 0xA002 0 ps) (s.raiseDev 0xA002 0 ps)

/-- The partition that holds an active number in its set. -/
def Device.paneOwner (s : Device) (pane : Nat) : Option Nat :=
  (s.parts.find? (fun kv => kv.2.state != .absent && kv.2.hasPane pane)).map Prod.fst

/-! ## Migration (R371) -/

/-- A unit's RUN_TEST that waits is answered (R378). -/
def Device.answerTest (s : Device) (kind number status : Nat) : Device :=
  match SMap.find s.units.pending (unitIndex kind number) with
  | none => s
  | some m =>
    ({ s with units := { s.units with pending := SMap.del s.units.pending (unitIndex kind number) } }).finishAction 0 m status

/-- The copy ends: the number stands for the replacement, which holds the state of the old pane but no cached lines; held
operations are delivered, and the old pane is tested, or retired. -/
def Device.finishMigration (s : Device) (pane : Nat) : Device :=
  match SMap.find s.units.moves pane with
  | some (.migrate q retire) =>
    let old := s.phys pane
    let t := ((s.setPhys pane q).setPaneState pane .active).setMove pane none
    let t := t.modPane pane (fun p => { p with cache := [], icache := [], clears := p.clears + 1 })
    let t := ((t.applyRows old).deliverHeld pane).raiseMigrated pane old q
    match retire with
    | some cause => (t.retireUnit 1 cause old).answerTest 1 old stRetired
    | none => t.modUnit 1 old (fun u => { u with state := .testing })
  | _ => s

/-- The migrations of a partition's panes complete before a reset or a fence acts (Table 16-11). Log entry 100 (DEDUCED). -/
def Device.finishMigrations (s : Device) (part : Nat) : Device :=
  ((s.part part).panes).foldl (fun t a => t.finishMigration a) s

/-! ## The work of a partition ends (R385, R389) -/

/-- The panes that hold a partition's work: its set, and panes that leave it (R272). -/
def Device.panesOf (s : Device) (part : Nat) : List Nat :=
  (List.range 320).filter (fun a => (s.part part).hasPane a || ((s.pane a).part == some part && !(s.pane a).groups.isEmpty))

/-- The cohorts of a partition. -/
def Device.cohortsOf (s : Device) (part : Nat) : List (Nat × Cohort) := s.cohorts.filter (fun kv => kv.2.part == part)

/-- Every running LAUNCH and WAIT of a partition completes with FENCED (R385, R389). -/
def Device.endDescriptors (s : Device) (part : Nat) : Device :=
  let t := (s.part part).launches.foldl (fun t kl =>
    match t.launch? part kl.1 with
    | some l => t.endLaunch part kl.1 l stFenced
    | none => t) s
  (s.part part).queues.foldl (fun t kq =>
    match t.queueWait part kq.1 with
    | some r => t.endQueueWait part kq.1 r stFenced
    | none => t) t

/-- The groups of a fenced partition stop and its cohorts end; the instructions that its matrix queues have not begun go with
them. -/
def Device.stopWork (s : Device) (part : Nat) : Device :=
  let cs := s.cohortsOf part
  let t := cs.foldl (fun t kc => t.modPane kc.2.pane (fun p => { p with mq := p.mq.filter (fun e => e.cohort != kc.1) })) s
  let t := cs.foldl (fun t kc => t.endCohort kc.1 kc.2) t
  t.endDescriptors part

/-! ## The fence (R388–R390) -/

/-- A fence takes hold of a partition's domain and its drain begins; on a partition that is fenced it changes nothing, and while the
partition's context reset runs it waits for that to end (Table 17-7). -/
def Device.startFence (s : Device) (part : Nat) (msg : Option TMsg) : Device :=
  if s.resetting part then s.modStage 1 part (fun x => { x with fence := some (x.fence.getD [] ++ msg.toList) })
  else if (s.part part).fence != .none then s
  else
    let t := s.finishMigrations part
    let t := (t.raiseDev 0xA001 2 [(part, 1)]).raisePart part 0xA001 2 [(part, 1)]
    let t := t.modPart part (fun x => { x with fence := .draining s.now, fenceMsgs := msg.toList })
    let t := (t.openStage 3 part (some part) none).stopWork part
    t.failArmed part stFenced

/-- What is still under way in a fenced partition: operations and copies of its panes, and memory requests already accepted
(R389). -/
def Device.drained (s : Device) (part : Nat) : Bool :=
  s.fabric.ops.all (fun kv => kv.2.part != part || kv.2.stats)
    && (s.panesOf part).all (fun a => (s.pane a).copies.isEmpty || (s.pane a).part != some part)
    && s.mem.reqs.all (fun r => r.part != part || r.served) && s.mem.forwards.all (fun f => f.part != part)

/-- The held accumulate pieces of a partition are discarded and counted (R389). -/
def Device.dropHeld (s : Device) (part : Nat) : Device :=
  let n := (s.mem.held.filter (fun q => q.part == part)).length
  let held := s.mem.held.filter (fun q => q.part != part)
  let stall := s.mem.stall.filter (fun kv => kv.1 * 32768 / 2 ^ 47 != part)
  ({ s with mem := { s.mem with held, stall } }).odCount part 0x6130 6 0 n

/-- The step in progress ends with the fence, and deregistrations that waited on it take effect (R238, R389). -/
def Device.endStep (s : Device) (part : Nat) : Device :=
  let x := s.part part
  let t := s.setPart part { x with step := {} }
  (x.shards.filter (fun kd => kd.2.leaving.isSome)).foldl (fun t kd => t.removeShard part kd.1) t

/-! ## The end of a partition (R273) -/

/-- The pool memory of a partition, its keys and its order words are gone: what its addresses hold later is undefined until a
pool is zeroed again (R169). -/
def Device.dropMemory (s : Device) (part : Nat) : Device :=
  let m := s.mem
  let mine (key : Nat) : Bool := key / 2 ^ 47 == part
  let bytes := m.bytes.filter (fun kv => !mine kv.1)
  let poison := m.poison.filter (fun kv => !mine (kv.1 * 32))
  let order := m.order.filter (fun kv => !mine (kv.1 * 32768))
  let segs := m.segs.filter (fun p => p.job != (s.part part).job)
  let log := m.log.filter (fun e => e.part != part)
  let forwards := m.forwards.filter (fun f => f.owner != part)
  ({ s with mem := { m with bytes, poison, order, segs, log, forwards } }).dropBuffer (fun key => mine (key * 32))

/-- A pane of a destroyed or resized partition is cleared (R46). -/
def Pane.cleared (p : Pane) : Pane := { clears := p.clears + 1, heldOps := p.heldOps, paused := p.paused }

/-- A partition of the destroyed number is gone: its queues and launches, every mapping of its pools, the pools and keys, the
state of its panes, its ranges, its dictionary entries and its sessions (R273, R347, R442). -/
def Device.strip (s : Device) (part : Nat) : Device :=
  let x := s.part part
  let t := x.pools.foldl (fun t kp => t.removePool part kp.1) s
  let t := (t.dropMemory part).closeSessions (fun y => y.part == part) stFenced
  let t := (s.panesOf part ++ x.removing).foldl (fun t a => (t.dropRequests a).modPane a Pane.cleared) t
  let od := t.od.filter (fun kv => !(kv.1 / 2 ^ 40 == part && (entryOfKey kv.1).any (fun e => e.scope == .part)))
  let transom := { t.transom with acting := SMap.del t.transom.acting part,
                                  queued := t.transom.queued.filter (fun pm =>
                                    !(pm.1 == part && (odEntry pm.2.index pm.2.sub).any (fun e => e.scope == .part))) }
  let use := t.use.filter (fun kv => kv.1 / 6 != part)
  ({ t with od, transom, use, parts := SMap.del t.parts part }).odSet 0 0xB040 0 part 0

/-! ## Sash reset (R391) -/

/-- The sill of a registered shard lies on a sash. -/
def Partition.onSash (x : Partition) (sash : Nat) : Bool :=
  x.panes.any (fun a => sashOf a == sash) || x.pools.any (fun kp => (stacksOf kp.2.set).any (fun k => sashOfStack k == sash))
    || x.shards.any (fun kd => sashOfStack kd.2.sill == sash)

/-- The partitions that a sash reset fences. -/
def Device.partsOnSash (s : Device) (sash : Nat) : List Nat :=
  (s.parts.filter (fun kv => kv.2.state != .absent && kv.2.onSash sash)).map Prod.fst

/-- The sills of a sash write their dirty lines back (R391). -/
def Device.writeBack (s : Device) (sash : Nat) : Device :=
  ((distinct (s.mem.buffer.map (fun kv => kv.1 / 4))).filter (fun l => sashOfStack (s.setOfLine l).1 == sash)).foldl Device.evict s

/-- The staged pieces of a sash's sills are discarded (Table 17-1). -/
def Device.dropStaged (s : Device) (sash : Nat) : Device :=
  { s with mem := { s.mem with held := s.mem.held.filter (fun q => sashOfStack (s.place q.part q.pool 0 q.off).stack != sash) } }

/-- A pane is cleared for its reset and its test begins: a number keeps its pane and reads MIGRATING meanwhile (R387). -/
def Device.beginPaneTest (s : Device) (phys : Nat) : Device :=
  if (s.unit 1 phys).state == .retired then s
  else
    let t := s.modUnit 1 phys (fun u => { u with state := .testing })
    match t.numberOf phys with
    | none => t
    | some a => (((t.emptyPane a).modPane a Pane.cleared).setPaneState a .migrating).setMove a (some .held)

/-- Once the fences of a sash reset have completed, the sills write back and the sash's panes are cleared and tested, all in
parallel; a tripped sash first waits until it has cooled, and its watchdog stands still meanwhile (R382, R391, R422). -/
def Device.proceedSash (s : Device) (sash : Nat) : Device :=
  match s.stage? 4 sash with
  | none => s
  | some x =>
    if x.begun || x.paused.isSome || (s.partsOnSash sash).any (fun p => (s.part p).fence != .done) then s
    else if (s.sash sash).tripped then s.modStage 4 sash (fun x => { x with paused := some s.now })
    else
      let t := ((s.modStage 4 sash (fun x => { x with begun := true })).writeBack sash).dropStaged sash
      (span (sash * 169) (sash * 169 + 169)).foldl (fun t p => t.beginPaneTest p) t

/-- A sash reset starts: the partitions with a unit on the sash are fenced, and the device reads RESETTING (R391). Log entry 106 (DEDUCED). -/
def Device.startSash (s : Device) (sash : Nat) (msg : Option TMsg) : Device :=
  match s.stage? 4 sash with
  | some _ => s
  | none =>
    let parts := s.partsOnSash sash
    let t := s.openStage 4 sash none msg
    let t := { t with boot := { t.boot with state := 3 } }
    (parts.foldl (fun t p => t.startFence p none) t).proceedSash sash

/-! ## The end of a fence (R389) -/

/-- The drain has ended, or hung: held pieces go, the step ends, the fence completes with a status, and what waited for it
goes on: its writes, a destruction (R273), and sash resets. -/
def Device.finishFence (s : Device) (part status : Nat) : Device :=
  let x := s.part part
  let t := (s.dropHeld part).endStep part
  let t := (t.modPart part (fun y => { y with fence := .done, fenceMsgs := [] })).dropStage 3 part
  let t := t.resetDone 3 status [part]
  let t := x.fenceMsgs.foldl (fun t m => t.finishAction 0 m status) t
  let t := match x.destroyMsg with
    | some m => (t.strip part).finishAction 0 m status
    | none => t
  [0, 1].foldl (fun t k => t.proceedSash k) t

/-! ## Context reset (R385) -/

/-- A pane after a context reset: local store, the split and what stands at its edge stay (Table 17-1). -/
def Pane.contextReset (p : Pane) : Pane :=
  { part := p.part, split := p.split, ls := p.ls, lsPoison := p.lsPoison, clears := p.clears + 1, icache := p.icache, pend := p.pend,
    log := p.log, heldOps := p.heldOps, perf := p.perf }

/-- The panes of a partition stop and are cleared (R385, 1 to 4), all but those of some numbers, which stand still. -/
def Device.clearContext (s : Device) (part : Nat) (hung : List Nat) : Device :=
  let t := s.finishMigrations part
  let t := (t.panesOf part).foldl (fun t a =>
    let u := (t.abandonOps a).dropRequests a
    if hung.contains a then u.modPane a (fun p => { p with paused := true })
    else (u.modPane a Pane.contextReset).applyRows (u.phys a)) t
  ({ t with cohorts := t.cohorts.filter (fun kv => kv.2.part != part) }.noteEmpty 0).noteEmpty 1

/-- A context reset ends (R385, 5 to 7): descriptors complete, its fence is lifted, and a fence that waited for it takes hold. Log entry 103 (DEDUCED). -/
def Device.endContext (s : Device) (part status : Nat) : Device :=
  let later := (s.stage? 1 part).bind (·.fence)
  let t := (s.dropStage 1 part).endDescriptors part
  let t := if (t.part part).fence != .none && (t.part part).fence != .done then t.finishFence part stOk else t
  let t := t.modPart part (fun x => { x with fence := .none })
  let t := (t.resetDone 1 status [part]).retryTests
  match later with
  | some ms => (t.startFence part none).modPart part (fun x => { x with fenceMsgs := ms })
  | none => t

/-- The context reset of a partition. One that some of its panes do not finish runs on under its watchdog (R382). -/
def Device.contextReset (s : Device) (part : Nat) (m : TMsg) (hung : List Nat) : Device × Option Nat :=
  let stuck := (s.panesOf part).filter hung.contains
  let t := s.clearContext part stuck
  if stuck.isEmpty then (t.endContext part stOk, some stOk)
  else ((t.openStage 1 part (some part) (some m)).modStage 1 part (fun x => { x with panes := stuck.map t.phys }), none)

/-! ## Pane reset (R372, R387) -/

/-- A pane is withdrawn after a handshake-code or stall fault: its number passes without state to a spare, or stays held
until its test decides it; the pane is cleared, restarted and tested. Log entry 133 (DESIGN CHOICE). -/
def Device.withdrawPane (s : Device) (pane : Nat) : Device :=
  if s.paneState pane == .vacant || (s.stage? 2 (s.phys pane)).isSome then s
  else
    let old := s.phys pane
    let owner := s.paneOwner pane
    let t := s.finishMigration pane
    if old != t.phys pane then
      if (t.unit 1 old).state == .retired then t
      else (t.openStage 2 old owner none).modUnit 1 old (fun u => { u with state := .testing, judged := true })
    else
      let t := t.emptyPane pane
      let t := match t.spareFor old with
        | some q => ((t.giveNumber pane q).raiseMigrated pane old q).deliverHeld pane
        | none => (t.setPaneState pane .migrating).setMove pane (some .held)
      let t := t.modPane pane (fun p => { p with paused := false })
      (t.openStage 2 old owner none).modUnit 1 old (fun u => { u with state := .testing, judged := true })

/-- A pane's reset is over with its test (R387, R396). Log entry 104 (DEDUCED). -/
def Device.endPaneReset (s : Device) (phys status : Nat) : Device :=
  match s.stage? 2 phys with
  | none => s
  | some x => (s.dropStage 2 phys).resetDone 2 status x.part.toList

/-! ## Places without a spare (R357) -/

/-- The device stops at FAULT (R357, R393). -/
def Device.toFault (s : Device) : Device := { s with boot := { s.boot with state := 4, stages := [] } }

/-- A dual-rail fault in a place without a spare: it leads to the reset of its domain, and, when it recurs after that, to
FAULT. Log entry 102 (DEDUCED). -/
def Device.escalate (s : Device) (place : Nat) (k : Device → Device) : Device :=
  if s.boot.escalated.contains place then s.toFault
  else k { s with boot := { s.boot with escalated := s.boot.escalated ++ [place] } }

/-! ## Hung stages (R383) -/

/-- The panes of a partition that did not drain. -/
def Device.stuckPanes (s : Device) (part : Nat) : List Nat :=
  (s.panesOf part).filter (fun a => (s.pane a).part == some part && !(s.pane a).copies.isEmpty
    || s.fabric.ops.any (fun kv => kv.2.pane == a && kv.2.part == part && !kv.2.stats))

/-- The sashes of what did not drain: its panes, and the stacks of requests not yet performed. -/
def Device.stuckSashes (s : Device) (part : Nat) : List Nat :=
  let panes := (s.stuckPanes part).map sashOf
  let sites := (s.mem.reqs.filter (fun r => r.part == part && (!r.served || s.forwarding r.id))).map (fun r =>
    sashOfStack (s.place r.owner r.pool 0 r.off).stack)
  distinct (panes ++ sites)

/-- A pane that failed to complete its part of a stage is emptied and retired: its number passes without state to a spare, or becomes
VACANT (R383). -/
def Device.retireHung (s : Device) (phys : Nat) : Device :=
  match s.numberOf phys with
  | none => s.retireUnit 1 4 phys
  | some a => (((s.emptyPane a).setPaneState a .migrating).setMove a (some .held)).retirePane phys 4

/-- A stage has hung: its units are retired, it completes with TIMEOUT, and the next stage starts on the enclosing domain
(R383, R393). Log entry 105 (DEDUCED). -/
def Device.hang (s : Device) (x : StageSt) : Device :=
  match x.stage with
  | 1 =>
    let t := (x.panes.foldl (fun t p => t.retireHung p) s).endContext x.target stTimeout
    let t := match x.msg with
      | some m => t.finishAction x.target m stTimeout
      | none => t
    x.panes.foldl (fun t p => t.openStage 2 p x.part none) t
  | 2 =>
    let t := (s.retireHung x.target).endPaneReset x.target stTimeout
    match x.part with
    | some p => t.startFence p none
    | none => t
  | 3 =>
    let sashes := s.stuckSashes x.target
    let t := (s.stuckPanes x.target).foldl (fun t a => t.retireHung (t.phys a)) s
    sashes.foldl (fun t k => t.startSash k none) (t.finishFence x.target stTimeout)
  | 4 =>
    let slow := (span (x.target * 169) (x.target * 169 + 169)).filter (fun p => (s.unit 1 p).state == .testing)
    let t := slow.foldl (fun t p => t.retireHung p) s
    let t := (t.dropStage 4 x.target).resetDone 4 stTimeout (t.partsOnSash x.target)
    let t := match x.msg with
      | some m => t.finishAction 0 m stTimeout
      | none => t
    t.deviceReset
  | _ => s.toFault

/-! ## The rows -/

/-- Whether the module is shuttered: stages 1 to 4 are then refused (Table 19-5). -/
def Device.shuttered (s : Device) : Bool := decide (2 ≤ s.power.state)

/-- CONTEXT_RESET (R385), with the active numbers of the panes that do not finish their part of it (R383). -/
def execContextReset (m : TMsg) (s : State) (hung : List Nat := []) : Host.Outcome State Fault Refusal := onDevice s fun s =>
  actionRow 0xA110 (fun _ => true) m s (fun t part m =>
    if t.shuttered then (t, some stResource)
    else if (t.part part).state == .destroying then (t, some stFenced)
    else t.contextReset part m hung)

/-- FENCE_PARTITION (R388): a partition already fenced completes at once (Table 17-7); a number without a partition is
refused. -/
def execFencePartition (m : TMsg) (s : State) : Host.Outcome State Fault Refusal := onDevice s fun s =>
  actionRow 0xA101 (fun _ => true) m s (fun t _ m =>
    let p := ofBytes m.value
    if t.shuttered then (t, some stResource)
    else if (t.part p).state == .absent then (t, some stMalformed)
    else if (t.part p).fence != .none then (t, some stOk)
    else (t.startFence p (some m), none))

/-- Forty milliseconds into a fence the outstanding operations of its panes complete with FENCED (R389). -/
def execFenceDrainTimeout (part : Nat) (s : State) : Host.Outcome State Fault Refusal := onDevice s fun s =>
  match (s.part part).fence with
  | .draining since =>
    if s.now < since + 40000000 then .next s
    else
      .next (((s.fabric.ops.map Prod.snd).filter (fun o => o.part == part && !o.stats)).foldl (fun t o => t.completeOp o stFenced) s)
  | _ => .next s

/-- FENCE_COMPLETE (R389). -/
def execFenceComplete (part : Nat) (s : State) : Host.Outcome State Fault Refusal := onDevice s fun s =>
  match (s.part part).fence with
  | .draining _ => .next (if s.drained part then s.finishFence part stOk else s)
  | _ => .next s

/-- SASH_RESET (R391). -/
def execSashReset (m : TMsg) (s : State) : Host.Outcome State Fault Refusal := onDevice s fun s =>
  actionRow 0xA100 (fun m => [1, 2].contains (ofBytes m.value) || !decide (1 ≤ ofBytes m.value ∧ ofBytes m.value ≤ 3)) m s (fun t _ m =>
    let sash := ofBytes m.value - 1
    if t.shuttered then (t, some stResource)
    else
      match t.stage? 4 sash with
      | none => (t.startSash sash (some m), none)
      | some _ => (t.modStage 4 sash (fun x => { x with msg := some m }), none))

/-- The sash has written back, and its panes are cleared and tested: the device is READY again (R391). -/
def execSashResetComplete (sash : Nat) (s : State) : Host.Outcome State Fault Refusal := onDevice s fun s =>
  match s.stage? 4 sash with
  | none => .next s
  | some x =>
    if !x.begun || (s.sash sash).tripped || (span (sash * 169) (sash * 169 + 169)).any (fun p => (s.unit 1 p).state == .testing) then .next s
    else
      let t := s.dropStage 4 sash
      let t := if t.boot.stages.any (fun y => decide (4 ≤ y.stage)) then t else { t with boot := { t.boot with state := 1 } }
      let t := t.resetDone 4 stOk (t.partsOnSash sash)
      .next (match x.msg with
        | some m => (t.finishAction 0 m stOk).flushWaiting
        | none => t.flushWaiting)

/-- DEVICE_RESET (R392): no response is sent. -/
def execDeviceReset (m : TMsg) (s : State) : Host.Outcome State Fault Refusal := onDevice s fun s =>
  actionRow 0xA100 (fun m => ofBytes m.value == 3) m s (fun t _ _ => (t.deviceReset, none))

/-- RESET_WATCHDOG_EXPIRY (R383); the wait of a tripped sash does not count (R382). Log entry 16 (DEDUCED). -/
def execResetWatchdogExpiry (stage target : Nat) (s : State) : Host.Outcome State Fault Refusal := onDevice s fun s =>
  match s.stage? stage target with
  | none => .next s
  | some x => if x.paused.isSome || decide (s.now < x.start + x.limit) then .next s else .next (s.hang x)

end Sys2Proof.Machine
end

