-- ==== Sys2Proof/Machine/Doors.lean ====
section
/-! DEFINITION. Doors: blocks and replay (R295–R301), training and retraining (R291–R294, R300, R303, R305), and the lintel's
cells (R39, R40, R306–R308). -/

namespace Sys2Proof.Machine

/-! ## Routes of MODULE doors (R303) -/

/-- The route bit of a MODULE door in the row of its peer. -/
def Device.setRouteBit (s : Device) (d : Nat) (on : Bool) : Device :=
  match (s.door d).peer with
  | some p =>
    if s.doorKind d = 2 then
      { s with fabric := { s.fabric with route := SMap.keep s.fabric.route p.chip (setBit (s.routeRow p.chip) d on) 0 } }
    else s
  | none => s

/-- A door's bit cleared in every row (R305). -/
def Device.clearRoutes (s : Device) (d : Nat) : Device :=
  let route := (s.fabric.route.map (fun kv => (kv.1, setBit kv.2 d false))).filter (fun kv => kv.2 != 0)
  { s with fabric := { s.fabric with route } }

/-! ## Training (R291–R294) -/

/-- A door trains from the start under the plan's row: nothing of its stream is kept. One whose kind changes keeps no bit of the route table
(R303). With the unassigned chip number it does not train (R293). Log entry 158 (DEDUCED). -/
def Device.trainDoor (s : Device) (d : Nat) : Device :=
  let plan := s.odGet 0 0x4000 0 d
  let old := s.door d
  let t := if fld plan 0 2 = s.doorKind d then s.setRouteBit d false else s.clearRoutes d
  let state : DoorState := if fld plan 0 2 = 0 then .unused else if s.chip = 0xFFF then .down else .training
  let x : Door := { plan, since := s.now, state, bad := old.bad, symbols := old.symbols,
                    discards := old.discards, replays := old.replays, retrains := old.retrains, drops := old.drops }
  let t := t.modDoor d (fun _ => x)
  if state = .training then
    t.emit (.identity d { role := 0, chip := t.chip, door := d, domain := t.lintel.domain, credit0 := 2048, credit1 := 2048 })
  else t

/-- DOOR_MISMATCH with the identity received (Table 15-7). -/
def Device.raiseMismatch (s : Device) (d : Nat) (p : Identity) : Device :=
  s.raiseDev 0x4002 2 [(d, 1), (p.role, 1), (p.chip, 2), (p.door, 1), (p.domain, 2)]

/-- A chip without a number raises DOOR_MISMATCH once; no identity has been received, and what the event names is free (R293). Log entry 159 (DESIGN CHOICE). -/
def Device.noteUnassigned (s : Device) : Device :=
  if s.chip != 0xFFF then { s with fabric := { s.fabric with unassigned := false } }
  else if s.fabric.unassigned then s
  else
    let (n, t) := { s with fabric := { s.fabric with unassigned := true } }.draw
    t.raiseMismatch (fld n 0 8) { role := fld n 8 8, chip := fld n 16 16, door := fld n 32 8, domain := fld n 40 16, credit0 := 0, credit1 := 0 }

/-- Doors train: the chip number of the dictionary is then in force (R292). -/
def Device.trainDoors (s : Device) (doors : List Nat) : Device :=
  (doors.foldl Device.trainDoor { s with fabric := { s.fabric with chip := s.odGet 0 0x4020 0 } }).noteUnassigned

/-- The sync domain of the dictionary is in force, at a start and under a write of OD 0x4024 (R39). -/
def Device.takeDomain (s : Device) : Device := { s with lintel := { s.lintel with domain := s.odGet 0 0x4021 0 } }

/-- A write of OD 0x4024 is answered once every door that it trains has trained, or is DOWN (R292). Log entry 160 (DEDUCED). -/
def Device.answerRetrain (s : Device) : Device :=
  match s.fabric.retrain with
  | none => s
  | some (part, m) =>
    if (List.range 24).any (fun d => (s.door d).state == .training) then s
    else ({ s with fabric := { s.fabric with retrain := none } }).finishAction part m stOk

/-- A door that enters DOWN. -/
def Device.doorDown (s : Device) (d : Nat) : Device :=
  ((s.clearRoutes d).modDoor d (fun x => { x with state := .down, replay := [], waiting := [] })).answerRetrain

/-- IDENTITY_BLOCK (R293, R294). Log entry 84 (DEDUCED). -/
def execIdentityBlock (door : Nat) (peer : Identity) (s : State) : Host.Outcome State Fault Refusal := onDevice s fun s =>
  let x := s.door door
  let kind := s.doorKind door
  if 24 ≤ door || x.state != .training then .next s
  else if s.chip = 0xFFF then
    let t := { s with fabric := { s.fabric with unassigned := true } }.doorDown door
    .next (if s.fabric.unassigned then t else t.raiseMismatch door peer)
  else if (kind == 2) != (peer.role == 0) then .next ((s.doorDown door).raiseMismatch door peer)
  else if kind == 2 && bit x.plan 25 && (peer.chip != fld x.plan 8 12 || peer.door != fld x.plan 20 5) then
    .next ((s.doorDown door).raiseMismatch door peer)
  else if peer.role == 0 && peer.chip == s.chip then .next (s.doorDown door)
  else .next (s.modDoor door (fun x => { x with peer := some peer, credit0 := peer.credit0, credit1 := peer.credit1 }))

/-- A door in service retrains: sequence numbers and the replay buffer stay (R300). -/
def Device.startRetrain (s : Device) (d : Nat) : Device :=
  if s.doorUp d then
    (s.setRouteBit d false).modDoor d (fun x => { x with state := .retraining, since := s.now, retrains := x.retrains + 1 })
  else s

/-- Cells that a full replay buffer kept back leave, and slots freed since are returned (R298, R301). -/
def Device.flushCells (s : Device) (d : Nat) : Device :=
  let cells := (s.door d).waiting
  (cells.foldl (fun t c => t.sendCell d c) (s.modDoor d (fun x => { x with waiting := [] }))).returnCredits d

/-- A RUN_TEST of a door's lanes is answered: OK for a lane that is not retired (R378). -/
def Device.answerLanes (s : Device) (d : Nat) : Device :=
  [0, 1, 2, 3].foldl (fun t i =>
    t.answerTest 3 (d * 4 + i) (if (t.unit 3 (d * 4 + i)).state == .retired then stRetired else stOk)) s

/-- The lanes that fail their test are retired (R305, R369). -/
def Device.judgeLanes (s : Device) (d : Nat) (good : BitVec 4) : Device :=
  [0, 1, 2, 3].foldl (fun (t : Device) i =>
    if (t.door d).bad.getLsbD i then t
    else if good.getLsbD i then t.testPassed 3 (d * 4 + i)
    else (t.modDoor d (fun x => { x with bad := x.bad ||| BitVec.ofNat 4 (2 ^ i) })).retireUnit 3 5 (d * 4 + i)) s

/-- A door that comes into service. A first neighbour in the domain starts the acquisition of its time (R39). -/
def Device.doorService (s : Device) (d : Nat) (lanes : Nat) : Device :=
  let t := s.modDoor d (fun x => { x with state := if lanes = 4 then .up4 else .up3 })
  let t := t.setRouteBit d true
  let t := if t.lintel.state = 0 && t.doorInDomain d then { t with lintel := { t.lintel with state := 1, bestHops := 16, upstream := none } } else t
  (t.flushCells d).flushWaiting.answerRetrain

/-- The lanes of a door that were good before this training and failed in it. -/
def newlyBad (old new : BitVec 4) : List Nat := [0, 1, 2, 3].filter (fun i => new.getLsbD i && !old.getLsbD i)

/-- DOOR_RETRAIN_DONE (R300, R305): a training ends with the lanes that are good. -/
def execDoorRetrainDone (door : Nat) (good : BitVec 4) (s : State) : Host.Outcome State Fault Refusal := onDevice s fun s =>
  let x := s.door door
  let trains := x.state == .retraining || (x.state == .training && x.peer.isSome)
  if 24 ≤ door || !trains then .next s
  else
    let t := s.judgeLanes door good
    let bad := (t.door door).bad
    let lanes := ([0, 1, 2, 3].filter (fun i => !bad.getLsbD i)).length
    if lanes < 3 then .next (((t.doorDown door).raiseDev 0x4004 2 [(door, 1)]).answerLanes door)
    else
      let u := t.doorService door lanes
      let u := (newlyBad x.bad bad).foldl (fun u i => u.raiseDev 0x4003 1 [(door, 1), (i, 1)]) u
      .next (u.answerLanes door)

/-- A training that has failed leaves its door's lanes untested: a RUN_TEST that waits ends with RETIRED. -/
def Device.failLanes (s : Device) (d : Nat) : Device := [0, 1, 2, 3].foldl (fun t i => t.answerTest 3 (d * 4 + i) stRetired) s

/-- DOOR_RETRAIN_LIMIT (R305): 1.5 s have passed. -/
def execDoorRetrainLimit (door : Nat) (s : State) : Host.Outcome State Fault Refusal := onDevice s fun s =>
  let x := s.door door
  if 24 ≤ door || !(x.state == .retraining || x.state == .training) || s.now < x.since + 1500000000 then .next s
  else .next (((s.doorDown door).raiseDev 0x4004 2 [(door, 1)]).failLanes door)

/-- BLOCK_LOCK_LOSS (R300). -/
def execBlockLockLoss (door : Nat) (s : State) : Host.Outcome State Fault Refusal := onDevice s fun s =>
  if door < 24 then .next (s.startRetrain door) else .next s

/-- DOOR_ERROR_WINDOW (R300): the replays and the symbol error rate of one second. -/
def execDoorErrorWindow (door replays : Nat) (symbolErrors : Word) (s : State) : Host.Outcome State Fault Refusal := onDevice s fun s =>
  let limit := fp32.decode (s.odGet 0 0x4050 2)
  if door < 24 && (decide (s.odGet 0 0x4050 1 < replays) || limit.lt (fp32.decode symbolErrors.toNat)) then .next (s.startRetrain door)
  else .next s

/-- DOOR_RETRAIN (R292, R305): changed and DOWN doors train again; the time of the domain is then acquired anew (R39). -/
def execDoorRetrain (m : TMsg) (s : State) : Host.Outcome State Fault Refusal := onDevice s fun s =>
  actionRow 0x4024 anyValue m s (fun t part m =>
    if t.anyPanes then (t, some stResource)
    else
      let doors := (List.range 24).filter (fun d => (t.door d).changed || (t.door d).state == .down)
      if doors.isEmpty then (t, some stOk)
      else
        let u := t.takeDomain.trainDoors doors
        let lintel : LintelSt := if u.lintel.state < 2 then u.lintel
          else { u.lintel with state := 1, stepped := false, upstream := none, bestHops := 16, master := false }
        (({ u with lintel, fabric := { u.fabric with retrain := some (part, m) } }).answerRetrain, none))

/-! ## Blocks (R295, R297, R298, R301) -/

/-- The distance of a block number behind another. -/
def behind (back bseq : Nat) : Nat := (back + 2048 - bseq) % 2048

/-- Blocks that a BACK covers leave the replay buffer; on NAK the rest is sent again in order (R298). -/
def Device.acknowledge (s : Device) (d back : Nat) (nak : Bool) : Device :=
  let x := s.door d
  let replay := x.replay.filter (fun b => !decide (behind back b.bseq < 1024))
  let t := s.modDoor d (fun x => { x with replay, replays := if nak then x.replays + 1 else x.replays })
  let t := if nak then replay.foldl (fun t b => t.emitBlock d b) t else t
  (t.flushCells d).flushWaiting

/-- A packet of an accepted block: a NULL slot goes, CREDIT gives slots back, an illegal packet is counted, and any other waits
at its row. NULL and CREDIT are of the link alone, and their DST is not looked at. -/
def Device.packetIn (s : Device) (d : Nat) (p : Packet) : Device :=
  let q : Packet := { p with via := some d, origin := none, progress := (0, 0), waits := [] }
  if p.type = 0 || p.type = 0xE then
    if !s.accepts { q with dst := s.chip } then s.discard q
    else if p.type = 0 then s
    else s.addCredit d (p.arg % 65536) (p.arg / 65536 % 65536)
  else if s.accepts q then { s with fabric := { s.fabric with arrived := s.fabric.arrived ++ [q] } }
  else (s.takeArrival q).discard q

/-- The block's trailer asks again for the block after the last one accepted. -/
def Device.sendNak (s : Device) (d : Nat) : Device :=
  (s.modDoor d (fun x => { x with nakOut := true })).emit (.back d (((s.door d).rxNext + 2047) % 2048) true)

/-- A block whose trailer the format admits (Table 13-3). -/
def Block.formed (b : Block) : Bool := b.rsv == 0 && [0, 1, 2, 3].all (fun n => fld b.kinds (2 * n) 2 != 3)

/-- A block accepted in its turn. -/
def Device.acceptBlock (s : Device) (d : Nat) (b : Block) : Device :=
  let t := (s.modDoor d (fun x => { x with rxNext := (x.rxNext + 1) % 2048, nakOut := false })).emit (.back d b.bseq false)
  let t := t.acknowledge d b.back b.nak
  if Block.formed b then
    let r := packetsIn (t.door d).rxSlots b
    let t := r.1.foldl (fun t p => t.packetIn d p) (t.modDoor d (fun x => { x with rxSlots := r.2 }))
    let t := { t with fabric := { t.fabric with cells := t.fabric.cells ++ (syncCells b).map (fun c => (d, c)) } }
    t.flushWaiting
  else t.modDoor d (fun x => { x with discards := x.discards + 1 })

/-- BLOCK_RECEIVE (R298). Log entry 82 (DEDUCED). -/
def execBlockReceive (door : Nat) (b : Block) (s : State) : Host.Outcome State Fault Refusal := onDevice s fun s =>
  if 24 ≤ door || !s.doorUp door then .next s
  else
    let t := s.modDoor door (fun x => { x with symbols := x.symbols + b.symbols })
    let x := t.door door
    if !b.fecOk || !crcOk b then .next ((t.modDoor door (fun x => { x with discards := x.discards + 1 })).sendNak door)
    else if b.bseq = x.rxNext then .next (t.acceptBlock door b)
    else if x.nakOut then .next (t.modDoor door (fun x => { x with discards := x.discards + 1 }))
    else .next ((t.modDoor door (fun x => { x with discards := x.discards + 1 })).sendNak door)

/-! ## Time (R39, R40, R306–R308) -/

/-- A TIME, DELAY_REQ or DELAY_RESP cell that this chip heeds (R293, R306). -/
def Device.heeds (s : Device) (door kind : Nat) (c : SyncCell) : Bool :=
  c.skind == kind && s.hears door c && c.payload == 0

/-- Whether this chip has the lowest master rank of the domain, or shares it and has the lowest number (R308). -/
def Device.isMaster (s : Device) (others : List (Nat × Nat)) : Bool :=
  let rank := s.odGet 0 0x4022 0
  others.all (fun cr => decide (rank < cr.2 ∨ (rank = cr.2 ∧ s.chip ≤ cr.1)))

/-- TIME_CELL_SEND (R308): the domain's master sends its time, which is the domain's, every 125 µs. -/
def execTimeCellSend (s : State) (others : List (Nat × Nat) := []) : Host.Outcome State Fault Refusal := onDevice s fun s =>
  let doors := (List.range 24).filter s.doorInDomain
  if doors.isEmpty || s.now < s.lintel.timeNext then .next s
  else if !s.isMaster others then .next { s with lintel := { s.lintel with master := false } }
  else
    let c : SyncCell := { skind := 1, domain := s.lintel.domain, origin := s.chip, txtime := s.now }
    let t := { s with lintel := { s.lintel with
      state := if s.lintel.state < 2 then 2 else s.lintel.state, master := true, timeNext := s.now + 125000 } }
    .next (doors.foldl (fun t d => t.sendCell d c) t)

/-- The offset of the lintel from domain time in picoseconds: a TIME cell is CORR old (R306). -/
def Device.offsetFrom (s : Device) (c : SyncCell) : Int := ((s.now : Int) - c.txtime) * 1000 - c.corr

/-- The secondary frame die's counter is found within 2 ns of the primary's, how far is free (R40). Log entry 161 (DESIGN CHOICE). -/
def Device.measureFrames (s : Device) : Device :=
  let (n, t) := s.draw
  { t with lintel := { t.lintel with frameOff := ((n % 4001 : Nat) : Int) - 2000 } }

/-- The rate correction against an offset: within 500 ppm, its size free (R39). Log entry 80 (DEDUCED). -/
def Device.slewFor (s : Device) (offset : Int) : Device :=
  if offset = 0 then { s with lintel := { s.lintel with domainOff := 0, slew := 0 } }
  else
    let d := s.draw
    let size : Int := (d.1 % 500001 : Nat)
    { d.2 with lintel := { d.2.lintel with domainOff := offset, slew := if 0 < offset then -size else size } }

/-- A time of this module after the counter has stepped from one value to another. -/
def shifted (old new time : Nat) : Nat := ((time : Int) + new - old).toNat

/-- The counter steps, which it does once (R39); what doors and lintel count since a time or up to one goes with it. Log entry 162 (DEDUCED). -/
def Device.setClock (s : Device) (now : Nat) : Device :=
  let move := shifted s.now now
  let doors : SMap Door := s.fabric.doors.map (fun kv =>
    (kv.1, { kv.2 with since := move kv.2.since, reqSent := move kv.2.reqSent, reqNext := move kv.2.reqNext }))
  { s with
    fabric := { s.fabric with doors }
    lintel := { s.lintel with now, stepped := true, lastCell := move s.lintel.lastCell, timeNext := move s.lintel.timeNext } }

/-- The counter steps to the domain's time. -/
def Device.stepTo (s : Device) (c : SyncCell) : Device :=
  if s.lintel.stepped then s else s.setClock (((c.txtime : Int) + c.corr / 1000).toNat % 2 ^ 64)

/-- A TIME cell from a door: while no upstream door is settled, the one with the fewest HOPS becomes it, and its next cell
settles it (R308). -/
def Device.heedTime (s : Device) (door : Nat) (c : SyncCell) : Device :=
  let l := s.lintel
  if l.state = 2 then if l.upstream = some door then s.slewFor (s.offsetFrom c) else s
  else if l.upstream = some door then
    let t := if l.state = 3 then s else s.stepTo c
    let t := { t with lintel := { t.lintel with state := 2, bestHops := 16 } }
    (t.slewFor (t.offsetFrom c)).measureFrames
  else
    let better := decide (c.hops < l.bestHops) || (c.hops == l.bestHops && l.upstream.any (fun u => decide (door < u)))
    if better || l.upstream.isNone then
      { s with lintel := { l with state := if l.state = 3 then 3 else 1, upstream := some door, bestHops := c.hops } }
    else s

/-- TIME_CELL (R308). -/
def execTimeCell (door : Nat) (c : SyncCell) (s : State) : Host.Outcome State Fault Refusal := onDevice s fun s =>
  let t := s.takeCell door c
  if !t.heeds door 1 c || c.origin == t.chip then .next t
  else
    let r := t.received door c
    let u := t.heedTime door r
    .next (if u.lintel.upstream = some door then u.forwardCell door r else u)

/-- DELAY_REQ_SEND (R307). -/
def execDelayReqSend (door : Nat) (s : State) : Host.Outcome State Fault Refusal := onDevice s fun s =>
  if 24 ≤ door || !s.doorInDomain door || s.now < (s.door door).reqNext then .next s
  else
    let t := s.modDoor door (fun x => { x with reqNext := s.now + 10000000 })
    .next (t.sendCell door { skind := 2, domain := s.lintel.domain, origin := s.chip, txtime := s.now })

/-- DELAY_REQ (R307): the answer carries its receive time and its own send time. -/
def execDelayReq (door : Nat) (c : SyncCell) (s : State) : Host.Outcome State Fault Refusal := onDevice s fun s =>
  let t := s.takeCell door c
  if !t.heeds door 2 c then .next t
  else .next (t.sendCell door { skind := 3, domain := t.lintel.domain, origin := t.chip, txtime := t.now, rxtime := t.now })

/-- DELAY_RESP (R307): half the round trip less the responder's turnaround, in picoseconds. -/
def execDelayResp (door : Nat) (c : SyncCell) (s : State) : Host.Outcome State Fault Refusal := onDevice s fun s =>
  let t := s.takeCell door c
  if !t.heeds door 3 c then .next t
  else
    let trip : Int := (t.now : Int) - (t.door door).reqSent
    let turn : Int := (c.txtime : Int) - c.rxtime
    .next (t.modDoor door (fun x => { x with delay := (trip - turn) * 1000 / 2 }))

/-- SYNC_CELL_SILENCE (R40). -/
def execSyncCellSilence (s : State) : Host.Outcome State Fault Refusal := onDevice s fun s =>
  if s.lintel.state != 2 || s.now < s.lintel.lastCell + 10000000 then .next s
  else
    let t := { s with lintel := { s.lintel with state := 3, upstream := none, bestHops := 16 } }
    .next (t.raiseDev 0x4001 1)

end Sys2Proof.Machine
end

