-- ==== Sys2Proof/Machine/HostPort.lean ====
section
/-! DEFINITION. The host port and the sideband node (R313–R330): frames and addresses, RoCEv2 with its queue pairs and
memory keys, PTP, and PLCA. -/

namespace Sys2Proof.Machine

/-! ## The link (R314) -/

def Device.modHost (s : Device) (f : HostSt → HostSt) : Device := { s with host := f s.host }

def Device.hostUp (s : Device) : Bool := decide (2 ≤ s.host.link)

/-- The greatest rate of a link in MB/s (Table 14-1). -/
def HostSt.rate (h : HostSt) : Nat := if h.link = 3 then 100000 else 200000

/-- The link goes down, and trains again or stays off: what waited for it is lost (R314). -/
def Device.linkDown (s : Device) (link : Nat) : Device :=
  let t := s.modHost (fun h => { h with link, lost := h.lost || s.hostUp, pausedUntil := 0, held := [] })
  if s.hostUp then t.raiseDev 0x5001 1 [(s.host.mode, 1)] else t

/-- HOST_LINK_LOSS: the port retrains without further command. -/
def execHostLinkLoss (s : State) : Host.Outcome State Fault Refusal := onDevice s fun s =>
  .next (if s.hostUp then s.linkDown 1 else s)

/-- The mode in which a link comes up: modes 1 and 2 fall back to the 800G type (R314). -/
def linkMode (mode : Nat) (only800 : Bool) : Nat := if only800 && decide (mode ≤ 2) then mode + 3 else mode

/-- HOST_LINK_TRAINED: what the dictionary sets is in force; delivery mode is untagged and link-local (R330, R435). Log entry 118 (DEDUCED). -/
def execHostLinkTrained (only800 : Bool) (s : State) : Host.Outcome State Fault Refusal := onDevice s fun s =>
  let own := s.odGet 0 0x5000 0
  if s.host.link != 1 || (only800 && own == 3) then .next s
  else
    let mode := linkMode own only800
    let plain := s.delivering
    let t := s.modHost (fun h => { h with
      link := if mode ≤ 3 then 2 else 3
      mode
      address := if plain then 0 else s.odGet 0 0x5003 0
      prefixLen := s.odGet 0 0x5004 0
      autoAddress := none
      vlan := if plain then 0 else s.odGet 0 0x5005 0
      pfc := if plain then 255 else s.odGet 0 0x5006 0
      port := s.odGet 0 0x5008 0 })
    .next (if s.host.lost then t.raiseDev 0x5002 0 [(mode, 1)] else t)

/-! ## Addresses (R316, R327) -/

/-- The interface identifier that a MAC address forms: its first octet is the lowest byte of its number. -/
def interfaceId (mac : Nat) : Nat :=
  let o (i : Nat) : Nat := fld mac (8 * i) 8
  ofBytes ([o 5, o 4, o 3, 0xFE, 0xFF, o 2, o 1, o 0 ^^^ 2].map (BitVec.ofNat 8))

/-- The two MAC addresses of OD 0x5002. -/
def macOf (i : Iface) : Nat := fld (Config.factory 0x5002) (match i with | .host => 0 | .sideband => 48) 48

/-- The link-local address of an interface. -/
def linkLocal (i : Iface) : Nat := 0xFE80 * 2 ^ 112 + interfaceId (macOf i)

/-- The 16 bytes of OD 0x5003 as an address, the first byte highest. -/
def addressOf (v : Nat) : Nat := ofBytes (bytesOf v 16).reverse

/-- The global address of the port outside delivery mode: OD 0x5003, or where that is zero the one that autoconfiguration has formed (R316,
R435). -/
def Device.globalAddress (s : Device) : Option Nat :=
  if s.delivering then none else if s.host.address = 0 then s.host.autoAddress else some (addressOf s.host.address)

/-- An address of an interface: its link-local one, and at the host port the global one. Log entry 117 (PRESUMED). -/
def Device.ownsAddress (s : Device) (i : Iface) (target : Nat) : Bool :=
  target == linkLocal i || (i == .host && s.globalAddress == some target)

/-- The address that autoconfiguration forms: the announced prefix, and behind it the interface identifier. -/
def formedAddress (network length : Nat) : Nat :=
  network / 2 ^ (128 - length) * 2 ^ (128 - length) + interfaceId (macOf .host) % 2 ^ (128 - length)

/-- An interface that can send and receive. -/
def Device.ifaceUp (s : Device) (i : Iface) : Bool :=
  match i with
  | .host => s.hostUp
  | .sideband => s.host.sideband != 0

/-- NEIGHBOR_DISCOVERY (R316, R327): an address of the interface is answered; a prefix of OD 0x5004's length that is announced at the host port
gives the global address while autoconfiguration forms it. -/
def execNeighborDiscovery (iface : Iface) (m : Neighbour) (s : State) : Host.Outcome State Fault Refusal := onDevice s fun s =>
  match m with
  | .solicit target => .next (if s.ifaceUp iface && s.ownsAddress iface target then s.sendFrame iface 1 (.nd iface target) else s)
  | .announce network length =>
    .next (if iface = .host && s.hostUp && !s.delivering && length == s.host.prefixLen
      then s.modHost (fun h => { h with autoAddress := some (formedAddress network length) }) else s)

/-- ICMP_ECHO: a service of the host port outside delivery mode (R316, R327, R435). -/
def execIcmpEcho (iface : Iface) (target : Nat) (payload : List Byte) (s : State) : Host.Outcome State Fault Refusal := onDevice s fun s =>
  .next (if iface = .host && s.hostUp && !s.delivering && s.ownsAddress iface target then s.sendFrame iface 1 (.echo iface payload) else s)

/-! ## Frames (R315, R322, R324, R435) -/

/-- Why a frame of the network layer is discarded at the MAC, if it is (R315, R435). -/
def Device.frameRefused (s : Device) (f : Frame) : Bool :=
  !f.fcsOk || decide (9216 < f.length) || !f.ipv6 || !(f.vlan.isNone || (s.host.vlan != 0 && f.vlan == some s.host.vlan))
    || f.kind == .fragment
    || (s.delivering && (match f.kind with
        | .datagram port _ first => port != s.host.port || first != 0x80
        | .neighbour => false
        | _ => true))

/-- A connected queue pair. -/
def Device.qp? (s : Device) (part qidx : Nat) : Option Qp := SMap.find (s.part part).qps qidx

/-- The header of an answer of a queue pair (Table 14-2); the RNR timer code stands in an RNR NAK. -/
def Qp.head (q : Qp) (psn : Nat) (rnr : Bool := false) : RoceHead :=
  { dqpn := fld q.desc 24 24, dgid := fld q.desc 128 128, dscp := fld q.desc 96 6, psn, rnr := if rnr then fld q.desc 104 5 else 0 }

def Device.setQp (s : Device) (part qidx : Nat) (q : Qp) : Device :=
  s.modPart part (fun x => { x with qps := SMap.put x.qps qidx q })

/-- A packet with ECN Congestion Experienced: a CNP to the requester, at most one per queue pair in 50 µs (R322). -/
def Device.congested (s : Device) (qpn : Nat) : Device :=
  match s.qpOf qpn with
  | none => s
  | some (part, qidx) =>
    match s.qp? part qidx with
    | none => s
    | some q =>
      if q.state != 1 || q.cnpSent.any (fun t => decide (s.now < t + 50000)) then s
      else
        ((s.setQp part qidx { q with cnpSent := some s.now }).sendFrame .host 1 (.roce qpn 7 (q.head 0) [])).modHost
          (fun h => { h with cnpOut := min (h.cnpOut + 1) (2 ^ 64 - 1) })

/-- The end of a PAUSE of some quanta, each 512 bit times of the link. -/
def HostSt.pauseEnd (h : HostSt) (now quanta : Nat) : Nat := now + quanta * 64000 / h.rate

/-- A frame that the MAC discards (R315). -/
def Device.dropFrame (s : Device) : Device := s.modHost (fun h => { h with discarded := min (h.discarded + 1) (2 ^ 64 - 1) })

/-- A PAUSE that the MAC accepts: the port honours it for its priority, and a time of zero ends one (R315). Log entry 119 (DEDUCED). -/
def Device.heedPause (s : Device) (f : Frame) (priority quanta : Nat) : Device :=
  if !f.fcsOk || decide (9216 < f.length) || s.host.pfc = 255 || priority != s.host.pfc then s.dropFrame
  else (s.modHost (fun h => { h with pauseIn := min (h.pauseIn + 1) (2 ^ 64 - 1), pausedUntil := h.pauseEnd s.now quanta })).unpause

/-- The port sends PAUSE for its priority when its receive buffer is three-quarters full (R315). -/
def Device.backpressure (s : Device) (buffered : Nat) : Device :=
  if s.host.pfc = 255 || buffered < 3145728 then s
  else (s.sendFrame .host 1 (.pause s.host.pfc)).modHost (fun h => { h with pauseOut := min (h.pauseOut + 1) (2 ^ 64 - 1) })

/-- ETH_FRAME (R315). -/
def execEthFrame (f : Frame) (s : State) : Host.Outcome State Fault Refusal := onDevice s fun s =>
  if !s.hostUp then .next s
  else
    let s := s.backpressure f.buffered
    match f.kind with
    | .pause priority quanta => .next (s.heedPause f priority quanta)
    | kind =>
      if s.frameRefused f then .next s.dropFrame
      else
        let t := s.modHost (fun h => { h with framesIn := min (h.framesIn + 1) (2 ^ 64 - 1) })
        .next (match kind with
          | .roce qpn true => t.congested qpn
          | .datagram port bytes _ =>
            if port = t.host.port && !t.delivering && decide (8192 < bytes) then t.odCount 0 0x1122 0 0 1 else t
          | _ => t)

/-! ## Queue pairs (R318) -/

def qpRlog (d : Nat) : Nat := fld d 313 4
def qpBuffer (d : Nat) : Nat := 2 ^ (fld d 317 3 + 10)
def qpRing (d : Nat) : Nat := fld d 256 57
def qpCounter (d : Nat) : Nat := fld d 320 57
def qpMtu (d : Nat) : Nat := 2 ^ (fld d 16 3 + 7)

/-- The ranges and RSV fields of a connect descriptor (Table 14-2). -/
def connectOk (d qps : Nat) : Bool :=
  [(12, 4), (19, 5), (48, 16), (93, 3), (102, 2), (109, 19), (377, 135)].all (fun f => fld d f.1 f.2 == 0)
    && decide (fld d 0 12 < qps) && decide (3 ≤ fld d 16 3 ∧ fld d 16 3 ≤ 5) && decide (1 ≤ fld d 88 5 ∧ fld d 88 5 ≤ 16)
    && decide (qpRlog d ≤ 12) && fld d 317 3 != 7 && qpRing d % 64 == 0 && qpCounter d % 8 == 0
    && (qpRlog d == 0 || qpCounter d != 0)

/-- QP_CONNECT. -/
def execQpConnect (m : TMsg) (s : State) : Host.Outcome State Fault Refusal := onDevice s fun s =>
  actionRow 0x5110 anyValue m s (atOnce (fun t part m =>
    let d := ofBytes m.value
    let qidx := fld d 0 12
    if !connectOk d (fld (t.part part).desc 144 13) || (t.qp? part qidx).isSome then (t, stMalformed)
    else
      let st := if qpRlog d = 0 then stOk
        else firstBad (t.mapRight part (qpRing d) (2 ^ qpRlog d * qpBuffer d) true) (t.mapRight part (qpCounter d) 8 true)
      if st != stOk then (t, st) else (t.setQp part qidx { desc := d, epsn := fld d 64 24, rate := t.host.rate }, stOk)))

/-- QP_DESTROY: later packets of the pair find none. Log entry 115 (DEDUCED). -/
def execQpDestroy (m : TMsg) (s : State) : Host.Outcome State Fault Refusal := onDevice s fun s =>
  actionRow 0x5111 anyValue m s (atOnce (fun t part m =>
    let qidx := ofBytes m.value
    if (t.qp? part qidx).isNone then (t, stMalformed)
    else (t.modPart part (fun x => { x with qps := SMap.del x.qps qidx }), stOk)))

/-! ## Memory keys (R320) -/

/-- The ranges and RSV fields of a key descriptor (Table 14-3). -/
def keyOk (d : Nat) : Bool :=
  fld d 13 19 == 0 && fld d 89 7 == 0 && fld d 160 96 == 0 && decide (fld d 32 57 < 2 ^ 48) && decide (1 ≤ fld d 96 64)
    && decide (fld d 32 57 + fld d 96 64 ≤ 2 ^ 48)

/-- The status that refuses the pages of a key for its rights. -/
def Device.keyPages (s : Device) (part va len : Nat) (write read : Bool) : Nat :=
  firstBad (if write then s.mapRight part va len true else stOk) (if read || !write then s.mapRight part va len false else stOk)

/-- KEY_CREATE. -/
def execKeyCreate (m : TMsg) (s : State) : Host.Outcome State Fault Refusal := onDevice s fun s =>
  actionRow 0x5120 anyValue m s (atOnce (fun t part m =>
    let d := ofBytes m.value
    let kidx := fld d 0 11
    let va := fld d 32 57
    let len := fld d 96 64
    if !keyOk d || (SMap.find (t.part part).keys kidx).isSome then (t, stMalformed)
    else
      let st := t.keyPages part va len (bit d 11) (bit d 12)
      if st != stOk then (t, st)
      else
        let device := part * 2048 + kidx
        let gen := (SMap.get t.host.keyGen device 0 + 1) % 65536
        let k : MKey := { write := bit d 11, read := bit d 12, va, len, gen }
        let u := t.modHost (fun h => { h with keyGen := SMap.put h.keyGen device gen })
        (u.modPart part (fun x => { x with keys := SMap.put x.keys kidx k }), stOk)))

/-- KEY_DESTROY. -/
def execKeyDestroy (m : TMsg) (s : State) : Host.Outcome State Fault Refusal := onDevice s fun s =>
  actionRow 0x5122 anyValue m s (atOnce (fun t part m =>
    let kidx := ofBytes m.value
    if (SMap.find (t.part part).keys kidx).isNone then (t, stMalformed)
    else (t.modPart part (fun x => { x with keys := SMap.del x.keys kidx }), stOk)))

/-! ## Requests (R201, R317, R319, R321, Table 14-4) -/

/-- The answer and the status of a check that fails: 3 Invalid Request, 4 Remote Access Error, 5 Remote Operational Error, and 2
RNR NAK, which records none. -/
abbrev Refused := Nat × Nat

/-- The packets of a message. -/
def packetsOf (mtu len : Nat) : Nat := Nat.max 1 (ceilDiv len mtu)

/-- An opcode that R317 accepts. -/
def acceptedOp (r : Rdma) : Bool :=
  r.transport == .rc && !r.extra && (r.op == .send || r.op == .write || (r.op == .read && r.place == .only))

/-- Whether a packet goes on with its message: a first or only packet begins one, and the others follow one of their kind (R317). Log entry 164 (PRESUMED). -/
def followsMessage (r : Rdma) (q : Qp) : Bool :=
  match r.place, q.msg with
  | .first, none => true
  | .only, none => true
  | .middle, some m => m.send == (r.op == .send)
  | .last, some m => m.send == (r.op == .send)
  | _, _ => false

/-- The message that a packet belongs to. -/
def messageOf (r : Rdma) (q : Qp) : RdmaMsg := q.msg.getD { send := r.op == .send, rkey := r.rkey, va := r.va, len := r.len }

/-- The payload that the place of a packet admits: whole packets until the last; the packets of a WRITE have the length that its first one names,
and a READ asks with none (R317). -/
def lengthOk (r : Rdma) (q : Qp) : Bool :=
  let mtu := qpMtu q.desc
  let n := r.data.length
  let m := messageOf r q
  let ends : Bool := r.place == .last || r.place == .only
  match r.op with
  | .read => n == 0 && decide (r.len ≤ 2 ^ 31)
  | _ =>
    (if ends then decide (n ≤ mtu) && (r.place == .only || decide (1 ≤ n)) else n == mtu)
      && decide (m.done + n ≤ 2 ^ 31)
      && (r.op == .send || (if ends then m.done + n == m.len else decide (m.done + n < m.len) && decide (m.len ≤ 2 ^ 31)))

/-- The opcode and the lengths of a packet are legal under R317. -/
def legalPacket (r : Rdma) (q : Qp) : Bool := acceptedOp r && followsMessage r q && lengthOk r q

/-- The live key of an rkey, if it belongs to the partition (R320). -/
def Device.keyFor (s : Device) (part rkey : Nat) : Option MKey :=
  if fld rkey 11 5 = part then (SMap.find (s.part part).keys (fld rkey 0 11)).filter (fun k => k.gen == fld rkey 16 16 && decide (rkey < 2 ^ 32))
  else none

/-- The status that refuses the pages of a range, plane by plane of a registered shard (R237); a doorbell page is populated at its first bytes
alone (R281). Log entry 116 (DEDUCED). -/
def Device.pagesFor (s : Device) (part va len : Nat) (k : AccessKind) : Nat :=
  (cutBy 16384 va (len / 16384 + 2) len).foldl (fun st on =>
    if st != stOk then st
    else
      match s.translate part on.1 k with
      | .error e => e
      | .ok t => if t.map.kind = 1 && decide (doorbellBytes < t.off + on.2) then stTranslation else stOk) stOk

/-- The range that the checks look at: all of it as the first packet names it, and then what each packet brings. -/
def checkedRange (r : Rdma) (q : Qp) : Nat × Nat :=
  if q.msg.isNone then (r.va, r.len) else ((messageOf r q).va + (messageOf r q).done, r.data.length)

/-- The checks that a READ and a WRITE share, up to the pages (Table 14-4). -/
def Device.rdmaRefused (s : Device) (part : Nat) (q : Qp) (r : Rdma) (write : Bool) : Option Refused :=
  if !legalPacket r q then some (3, stMalformed)
  else
    match s.keyFor part (messageOf r q).rkey with
    | none => some (4, stAccess)
    | some k =>
      let (va, len) := checkedRange r q
      if !decide (k.va ≤ va ∧ va + len ≤ k.va + k.len) || !(if write then k.write else k.read) then some (4, stAccess)
      else if (s.part part).fence != .none then some (5, stFenced)
      else
        let st := s.pagesFor part va len (if write then .write else .read)
        if st = stOk then none else some (4, st)

/-- The sectors of a message written in turn, up to the first that its memory refuses (R321). -/
def Device.rdmaPut (s : Device) (part va : Nat) (data : List Byte) : Device × Nat :=
  (sectorParts va data.length).foldl (fun (acc : Device × Nat) on =>
    if acc.2 != stOk then acc
    else
      let piece := (data.drop (on.1 - va)).take on.2
      match acc.1.translate part on.1 .write with
      | .error e => (acc.1, e)
      | .ok t =>
        if t.map.kind = 1 then (acc.1.doorbellWrite part t.map.queue t.off on.2 (ofBytes piece), stOk)
        else acc.1.writeSector t.owner t.pool t.off piece t.map.view part) (s, stOk)

/-- The bytes of a range up to the first sector that is poison, and whether there is none. -/
def Device.rdmaGet (s : Device) (part va len : Nat) : Device × List Byte × Bool :=
  (sectorParts va len).foldl (fun (acc : Device × List Byte × Bool) on =>
    if !acc.2.2 then acc
    else
      match acc.1.translate part on.1 .read with
      | .error _ => (acc.1, acc.2.1, false)
      | .ok t =>
        if t.map.kind = 1 then
          let r := acc.1.doorbellRead part t.map.queue t.off on.2
          (r.1, acc.2.1 ++ bytesOf r.2 on.2, true)
        else
          let r := acc.1.readTarget part t on.2 0
          (acc.1.touchRead part t on.2 0, if r.2 then (acc.2.1, false) else (acc.2.1 ++ r.1, true))) (s, [], true)

/-- A request is answered with a NAK: the status is recorded, and every NAK but RNR takes the pair to Error (R321). -/
def Device.nak (s : Device) (part qidx qpn psn : Nat) (q : Qp) (x : Refused) : Device :=
  let t := s.sendFrame .host 1 (.roce qpn x.1 (q.head psn (x.1 == 2)) [])
  if x.1 = 2 then t
  else (t.setQp part qidx { q with state := 2, lstatus := x.2, msg := none }).raisePart part 0x5003 2 [(qidx, 2), (x.2, 1)]

/-- A range that a stack holds back (R171, R174). -/
def Device.vaHeld (s : Device) (part va len : Nat) (write : Bool) : Bool :=
  s.anyHeld && (cutBy 65536 va (len / 65536 + 2) len).any (fun on =>
    match s.translate part on.1 (if write then .write else .read) with
    | .ok t => s.rangeHeld t on.2 write
    | .error _ => false)

/-- A packet at its queue pair: discarded where none takes it, and the PSN rules of Annex A17. A packet seen before is
acknowledged again, a READ answered again; one ahead of its turn is answered with a PSN sequence error, for which the rules name no status. Log entries 113 (PRESUMED), 176 (PRESUMED). -/
def rdmaRow (op : RdmaOp) (r : Rdma) (s : Device) (k : Device → Nat → Nat → Qp → Device) : Host.Outcome Device Fault Refusal :=
  if acceptedOp r && r.op != op then .refused .wordOfAnotherRow
  else if !s.hostUp || s.delivering then .next s
  else
    match s.qpOf r.qpn with
    | none => .next s
    | some (part, qidx) =>
      match s.qp? part qidx with
      | none => .next s
      | some q =>
        let gap := (r.psn + 2 ^ 24 - q.epsn) % 2 ^ 24
        let t := s.serve part 2 r.data.length 0
        if q.state != 1 || s.resetting part || s.sashBusy 0 then .next s
        else if gap = 0 || (acceptedOp r && op == .read && decide (2 ^ 23 ≤ gap)) then .next (k t part qidx q)
        else if 2 ^ 23 ≤ gap then .next (t.sendFrame .host 1 (.roce r.qpn 0 (q.head r.psn) []))
        else .next (t.draw.2.nak part qidx r.qpn q.epsn q (6, t.draw.1 % 256))

/-- The pair after some packets of its turn; a repeated one moves nothing. -/
def Qp.passed (q : Qp) (psn packets : Nat) : Qp := if psn = q.epsn then { q with epsn := (q.epsn + packets) % 2 ^ 24 } else q

/-- The pair after a packet of a message: the message goes on, or is over. -/
def Qp.carry (q : Qp) (r : Rdma) : Qp :=
  let m := messageOf r q
  let more : Bool := r.place == .first || r.place == .middle
  { q.passed r.psn 1 with msg := if more then some { m with done := m.done + r.data.length } else none }

/-- RDMA_WRITE (R321); the last packet of a message is acknowledged once every copy is written. -/
def execRdmaWrite (r : Rdma) (s : State) : Host.Outcome State Fault Refusal := onDevice s fun s =>
  rdmaRow .write r s (fun s part qidx q =>
    match s.rdmaRefused part q r true with
    | some x => s.nak part qidx r.qpn r.psn q x
    | none =>
      let m := messageOf r q
      if s.vaHeld part (m.va + m.done) r.data.length true then s
      else
        let w := s.rdmaPut part (m.va + m.done) r.data
        if w.2 != stOk then w.1.nak part qidx r.qpn r.psn q (5, w.2)
        else
          let p := q.carry r
          let t := w.1.setQp part qidx p
          if p.msg.isSome then t else t.whenWritten (t.newForwards s) (.roce r.qpn (q.head r.psn)))

/-- The READ responses of a queue pair that the port holds. -/
def Device.heldReads (s : Device) (qpn : Nat) : Nat :=
  (s.host.held.filter (fun x => match x.frame with
    | .roce n a _ _ => n == qpn && a == 1
    | _ => false)).length

/-- A READ response leaves at the pair's rate, behind those before it (R322). Log entry 166 (DESIGN CHOICE). -/
def Device.sendRead (s : Device) (part qidx qpn : Nat) (q : Qp) (n : Nat) (h : RoceHead) (data : List Byte) : Device :=
  let start := Nat.max s.now q.free
  let t := s.setQp part qidx { q with free := start + data.length * 1000 / q.rate }
  let e : Emission := .roce qpn 1 h data
  if s.now < start || s.frameWaits e then t.holdFrame start n e
  else (((t.charge 24 part data.length).serve part 2 data.length 0).frameOut n e)

/-- RDMA_READ (R321): all data of earlier messages are performed (R201). More than RDRESP held at once are refused (R318), and what poison cuts
off is the response from the packet that meets it on. Log entry 165 (DEDUCED). -/
def execRdmaRead (r : Rdma) (s : State) : Host.Outcome State Fault Refusal := onDevice s fun s =>
  rdmaRow .read r s (fun s part qidx q =>
    match s.rdmaRefused part q r false with
    | some x => s.nak part qidx r.qpn r.psn q x
    | none =>
      if fld q.desc 88 5 ≤ s.heldReads r.qpn then s.nak part qidx r.qpn r.psn q (3, stMalformed)
      else if s.vaHeld part r.va r.len false then s
      else
        let mtu := qpMtu q.desc
        let (t, data, good) := s.rdmaGet part r.va r.len
        if good then
          let n := packetsOf mtu r.len
          t.sendRead part qidx r.qpn (q.passed r.psn n) n (q.head r.psn) data
        else
          let n := data.length / mtu
          let u := if n = 0 then t else t.sendRead part qidx r.qpn q n (q.head r.psn) (data.take (n * mtu))
          u.nak part qidx r.qpn ((r.psn + n) % 2 ^ 24) q (5, stPoison))

/-- The buffer of SEND message n (R319). Log entry 114 (DEDUCED). -/
def bufferOf (d n : Nat) : Nat := qpRing d + n % 2 ^ qpRlog d * qpBuffer d

/-- A part of a sector that would be written over poison. -/
def Device.partialOverPoison (s : Device) (part va len : Nat) : Bool :=
  (sectorParts va len).any (fun on =>
    on.2 != 32 && (match s.translate part on.1 .write with
      | .ok t => t.map.kind == 0 && (s.copies t.owner t.pool).all (fun c => s.poisonAt t.owner t.pool c t.off)
      | .error _ => false))

/-- The checks on a SEND, in the order of Table 14-4. -/
def Device.sendRefused (s : Device) (part : Nat) (q : Qp) (r : Rdma) : Option Refused :=
  let d := q.desc
  let base := bufferOf d q.sends
  let size := qpBuffer d
  let at_ := (messageOf r q).done
  if !legalPacket r q then some (3, stMalformed)
  else if (s.part part).fence != .none then some (5, stFenced)
  else if qpRlog d = 0 then some (3, stMalformed)
  else
    let st := firstBad (s.pagesFor part base size .write) (s.pagesFor part (qpCounter d + 8) 4 .read)
    if st != stOk then some (4, st)
    else if s.partialOverPoison part (base + at_) (min r.data.length (size - 8 - at_)) || s.partialOverPoison part (base + size - 8) 8 then
      some (5, stPoison)
    else
      match s.readVa part (qpCounter d + 8) 4 with
      | .error _ => some (5, stPoison)
      | .ok w =>
        if size - 8 < at_ + r.data.length then some (3, stMalformed)
        else if 2 ^ qpRlog d ≤ (q.sends % 2 ^ 32 + 2 ^ 32 - ofBytes w) % 2 ^ 32 then some (2, stOk)
        else none

/-- RDMA_SEND (R319). -/
def execRdmaSend (r : Rdma) (s : State) : Host.Outcome State Fault Refusal := onDevice s fun s =>
  rdmaRow .send r s (fun s part qidx q =>
    match s.sendRefused part q r with
    | some x => s.nak part qidx r.qpn r.psn q x
    | none =>
      let base := bufferOf q.desc q.sends
      let done := (messageOf r q).done
      if s.vaHeld part base (qpBuffer q.desc) true then s
      else
        let p := q.carry r
        let w := s.rdmaPut part (base + done) r.data
        if p.msg.isSome then
          (if w.2 != stOk then w.1.nak part qidx r.qpn r.psn q (5, w.2) else w.1.setQp part qidx p)
        else
          let v := w.1.rdmaPut part (base + qpBuffer q.desc - 8) (bytesOf ((done + r.data.length) % 2 ^ 32 + 2 ^ 32 * (q.sends % 2 ^ 32)) 8)
          let st := firstBad w.2 v.2
          if st != stOk then v.1.nak part qidx r.qpn r.psn q (5, st)
          else
            let ids := v.1.newForwards s
            let t := (v.1.setQp part qidx { p with sends := q.sends + 1 }).whenWritten ids (.counter part true 0 (qpCounter q.desc) 1 stOk [])
            t.whenWritten ids (.roce r.qpn (q.head r.psn)))

/-! ## Rates (R322) -/

/-- CNP_RECEIVE: the rate of the pair's READ responses is halved, to no less than 1 GB/s. -/
def execCnpReceive (qpn : Nat) (s : State) : Host.Outcome State Fault Refusal := onDevice s fun s =>
  if !s.hostUp || s.delivering then .next s
  else
    let t := s.modHost (fun h => { h with cnpIn := min (h.cnpIn + 1) (2 ^ 64 - 1) })
    match t.qpOf qpn with
    | none => .next t
    | some (part, qidx) =>
      match t.qp? part qidx with
      | none => .next t
      | some q =>
        if q.state != 1 then .next t
        else .next (t.setQp part qidx { q with rate := Nat.max 1000 (q.rate / 2), cnp := some t.now })

/-- RATE_RECOVERY_STEP: 55 µs without a CNP, or since the last step. -/
def execRateRecoveryStep (qpn : Nat) (s : State) : Host.Outcome State Fault Refusal := onDevice s fun s =>
  match s.qpOf qpn with
  | none => .next s
  | some (part, qidx) =>
    match s.qp? part qidx with
    | none => .next s
    | some q =>
      if q.cnp.all (fun t => decide (s.now < t + 55000)) then .next s
      else
        let rate := min s.host.rate (q.rate + s.odGet 0 0x5030 0)
        .next (s.setQp part qidx { q with rate, cnp := if rate = s.host.rate then none else some s.now })

/-! ## PTP (R325, R326) -/

/-- This chip is the master of its domain: it takes time from no other (R308). Log entry 120 (DEDUCED). -/
def Device.timeMaster (s : Device) : Bool := s.lintel.master || (s.lintel.upstream.isNone && s.lintel.state != 3)

/-- A valid offset of the lintel from PTP time in nanoseconds: the master steps once while it is FREE or ACQUIRING, and else slews
(R326). -/
def Device.takeOffset (s : Device) (offset : Int) : Device :=
  let t := s.modHost (fun h => { h with ptpState := 2, ptpOffset := offset * 1000 })
  if !t.timeMaster then t
  else if t.lintel.state < 2 && !t.lintel.stepped then
    let now := ((t.now : Int) - offset).toNat % 2 ^ 64
    (t.setClock now).modHost (fun h => { h with ptpOffset := 0, ptpLast := now })
  else t.slewFor (offset * 1000)

/-- PTP is active: enabled, on a link that is up (R325). -/
def Device.ptpActive (s : Device) : Bool := s.odGet 0 0x5010 1 == 1 && s.hostUp && !s.delivering

/-- PTP_SYNC. -/
def execPtpSync (m : PtpSync) (s : State) : Host.Outcome State Fault Refusal := onDevice s fun s =>
  if !s.ptpActive || !m.valid || m.domain != s.odGet 0 0x5010 2 then .next s
  else
    let t := s.modHost (fun h => { h with ptpState := if h.ptpState = 2 then 2 else 1, ptpLast := s.now, grandmaster := m.grandmaster % 2 ^ 64 })
    match m.offset with
    | none => .next t
    | some o => .next (t.takeOffset o)

/-- PTP_DELAY_RESP: the path delay is known, and with it the offset of the last Sync. -/
def execPtpDelayResp (offset : Int) (s : State) : Host.Outcome State Fault Refusal := onDevice s fun s =>
  if s.ptpActive && (s.host.ptpState == 1 || s.host.ptpState == 2) then .next (s.takeOffset offset) else .next s

/-- PTP_LOST: 10 s without a valid Sync; a master's lintel then runs on its reference. -/
def execPtpLost (s : State) : Host.Outcome State Fault Refusal := onDevice s fun s =>
  if s.odGet 0 0x5010 1 != 1 || s.host.ptpState == 0 || s.host.ptpState == 3 || decide (s.now < s.host.ptpLast + 10000000000) then .next s
  else
    let t := s.modHost (fun h => { h with ptpState := 3 })
    let t := if t.timeMaster then { t with lintel := { t.lintel with slew := 0 } } else t
    .next (t.raiseDev 0x5004 1)

/-! ## PLCA (R327) -/

/-- PLCA_BEACON_LOSS. -/
def execPlcaBeaconLoss (s : State) : Host.Outcome State Fault Refusal := onDevice s fun s =>
  .next (s.modHost (fun h => { h with plca := false })).setSideband

/-- PLCA_BEACON_RECEIVE. -/
def execPlcaBeaconReceive (s : State) : Host.Outcome State Fault Refusal := onDevice s fun s =>
  .next (s.modHost (fun h => { h with plca := true })).setSideband

end Sys2Proof.Machine
end

