-- ==== Sys2Proof/Machine/Elementary.lean ====
section
/-! DEFINITION. The functions that the spec bounds to 2 ulp without fixing their bits (R79, R113): their values to some 190 bits by series with 200
fraction bits, and a free result held to the bound. -/

namespace Sys2Proof.Machine

/-! ## Numbers with 200 fraction bits -/

/-- 1, ln 2 and π/2. -/
def fixedOne : Nat := 2 ^ 200
def fixedLn2 : Nat := 80260960185991308862233904206310070533990667611589946606122867505419956976171 / 2 ^ 56
def fixedHalfPi : Nat := 363771576891766324280234942777729862653393377328392429958772151117938894466185 / 2 ^ 57

/-- A finite value with 200 fraction bits; the rest of it is cut off. -/
def fixedOf (neg : Bool) (m : Nat) (e : Int) : Int :=
  let n : Nat := if -200 ≤ e then m * 2 ^ (e + 200).toNat else m / 2 ^ (-200 - e).toNat
  if neg then -n else n

def Val.ofFixed (i : Int) : Val := .fin (decide (i < 0)) i.natAbs (-200)

/-- e^t for t between 0 and ln 2. -/
def expSeries (t : Nat) : Nat :=
  ((List.range 50).foldl (fun (acc : Nat × Nat) k => let u := acc.1 * t / fixedOne / (k + 1); (u, acc.2 + u)) (fixedOne, fixedOne)).2

/-- ln of a number between 1 and 2: twice the area tangent of (x − 1) / (x + 1). -/
def lnSeries (x : Nat) : Nat :=
  let z := (x - fixedOne) * fixedOne / (x + fixedOne)
  2 * ((List.range 64).foldl (fun (acc : Nat × Nat) k => (acc.1 * z / fixedOne * z / fixedOne, acc.2 + acc.1 / (2 * k + 1))) (z, 0)).2

/-- The series of the sine from r, or of the cosine from 1, of an angle r of at most π/4. -/
def trigSeries (r first : Int) (d : Nat) : Int :=
  ((List.range 30).foldl (fun (acc : Int × Int) k =>
    let u := -(acc.1 * r / fixedOne * r / fixedOne / ((2 * k + d) * (2 * k + d + 1) : Nat))
    (u, acc.2 + u)) (first, first)).2

/-! ## Values -/

/-- The leading 201 bits of a value. -/
def Val.trim : Val → Val
  | .fin n m e => if Nat.log2 m ≤ 200 then .fin n m e else .fin n (m / 2 ^ (Nat.log2 m - 200)) (e + (Nat.log2 m - 200 : Nat))
  | v => v

/-- The quotient of finite values, the divisor not zero. -/
def Val.over : Val → Val → Val
  | .fin n1 m1 e1, .fin n2 m2 e2 =>
    let k := Nat.log2 m2 + 220
    (Val.fin (n1 != n2) (m1 * 2 ^ k / m2) (e1 - e2 - k)).trim
  | _, _ => .nan

def Val.times (a b : Val) : Val := (a.mul b).trim
def Val.plus (a b : Val) : Val := (a.add .rne b).trim

/-- Whether a finite value is 2^12 or more in magnitude. -/
def isHuge (m : Nat) (e : Int) : Bool := m != 0 && decide (12 ≤ (Nat.log2 m : Int) + e)

/-- 2^a, 0 for a far below zero. -/
def exp2Value : Val → Val
  | .fin n m e =>
    if isHuge m e then (if n then .fin false 0 0 else .inf false)
    else
      let t := fixedOf n m e
      .fin false (expSeries ((t % fixedOne).toNat * fixedLn2 / fixedOne)) (t / fixedOne - 200)
  | v => v

/-- e^a for a not above zero. -/
def expValue : Val → Val
  | .fin n m e =>
    if isHuge m e then .fin false 0 0
    else
      let t := fixedOf n m e
      .fin false (expSeries (t % fixedLn2).toNat) (t / fixedLn2 - 200)
  | v => v

/-- log2 a for a above zero. -/
def log2Value : Val → Val
  | .fin _ m e =>
    let k := Nat.log2 m
    Val.ofFixed (((k : Int) + e) * fixedOne + (lnSeries (m * fixedOne / 2 ^ k) * fixedOne / fixedLn2 : Nat))
  | v => v

/-- 1 / √a for a above zero. -/
def rsqrtValue : Val → Val
  | .fin _ m e =>
    let odd := (e % 2).toNat
    .fin false (isqrt (2 ^ 240 / (m * 2 ^ odd)) 121) (-120 - (e - odd) / 2)
  | v => v

/-- sin a, or cos a, for a up to 2^20 in magnitude: the angle less the nearest multiple of π/2. -/
def trigValue (cosine : Bool) : Val → Val
  | .fin n m e =>
    let t := fixedOf n m e
    let q := (2 * t + fixedHalfPi) / (2 * fixedHalfPi)
    let r := t - q * fixedHalfPi
    let quadrant := ((q + (if cosine then 1 else 0)) % 4).toNat
    let v := if quadrant % 2 = 0 then trigSeries r r 2 else trigSeries r fixedOne 1
    Val.ofFixed (if quadrant < 2 then v else -v)
  | v => v

/-- σ(t) = 1 / (1 + e^−t) (R113). -/
def sigma (t : Val) : Val :=
  let one : Val := .fin false 1 0
  if t.negative then
    let x := expValue t
    x.over (one.plus x)
  else one.over (one.plus (expValue t.neg))

/-- A decimal constant: n / 10^d. -/
def decimal (n d : Nat) : Val := (Val.fin false n 0).over (.fin false (10 ^ d) 0)

/-- 2 u of R113, of which (1 + tanh u) / 2 is the σ. -/
def geluAngle (x : Val) : Val :=
  ((decimal 15957691216 10).times (x.plus ((decimal 44715 6).times (x.times (x.times x)))))

/-- Table 05-6, codes 2, 3, 5 and 6, of finite values; with σ = (1 + v) / 2, 1 − v² is 4 σ (1 − σ). -/
def fuseValue (fuse : Nat) (x z : Val) : Val :=
  let one : Val := .fin false 1 0
  match fuse with
  | 2 => x.times (sigma (geluAngle x))
  | 3 => x.times (sigma x)
  | 5 =>
    let t := geluAngle z
    let slope := (decimal 15957691216 10).times (one.plus ((decimal 134145 6).times (z.times z)))
    x.times ((sigma t).times (one.plus ((z.times slope).times (sigma t.neg))))
  | _ => x.times ((sigma z).times (one.plus (z.times (sigma z.neg))))

/-! ## The bound -/

/-- The exponent of one binary32 unit in the last place of a value. -/
def ulpOf (m : Nat) (e : Int) : Int := if m = 0 then -149 else max ((Nat.log2 m : Int) + e - 23) (-149)

/-- Whether a binary32 result lies within 2 ulp of a value. -/
def within2 (y : Val) (bits : Nat) : Bool :=
  match y, fp32.decode bits with
  | .fin _ m e, .fin n2 m2 e2 =>
    match y.add .rne (.fin (!n2) m2 e2) with
    | .fin _ d k => !(Val.fin false 1 (ulpOf m e + 1)).lt (.fin false d k)
    | _ => false
  | _, .inf _ => bits == (roundVal fp32 .rne y).1
  | _, _ => false

/-- A free result where it lies within 2 ulp of the value, and else the value rounded. Log entry 18 (DESIGN CHOICE). -/
def heldTo2Ulp (y : Val) (free : Nat) : Nat := if within2 y free then free else (roundVal fp32 .rne y).1

end Sys2Proof.Machine
end

