-- ==== Sys2Proof/Machine/MatrixIssue.lean ====
section
/-! DEFINITION. The issue of matrix instructions: the fields of each opcode (R89, R467), the checks of R90, R109, R114 and
R147, and the matrix queue (R104). -/

namespace Sys2Proof.Machine

/-- The fields of a matrix instruction as it issues (R76). -/
def Ctx.mx (x : Ctx) : Mx :=
  mxOf x.w x.w1 (x.g.s (fld x.w1 4 6)).toNat (x.g.s (fld x.w1 10 6)).toNat (x.g.s (fld x.w1 16 6)).toNat
    (x.g.s (fld x.w1 36 6)).toNat

/-- The check of the words of a matrix instruction: the continuation, and the fields that Table 04-17 marks RSV. -/
def matrixUses (x : Ctx) : Uses :=
  let op := opOf x.w
  let fmt := fld x.w 28 4
  let mx := op == 0 && isMx fmt
  let aux := op == 3 && decide (4 ≤ fld x.w1 24 4)
  let sb := op == 0 || aux
  let ok := fld x.w1 0 4 == 0xF && fld x.w 34 6 == 0 && fld x.w 56 8 == 0 && fld x.w1 22 2 == 0 && fld x.w1 42 22 == 0
    && (decide (op ≤ 1) || !bit x.w 25) && (op == 0 || fld x.w 26 2 == 0) && (op == 0 || op == 3 || fmt == 0)
    && (sb || fld x.w1 10 6 == 0) && (mx || fld x.w1 16 6 == 0)
    && (op == 0 || fld x.w1 28 8 == 0) && (op == 0 || op == 3 || fld x.w1 24 4 == 0)
  { ok, s := [(fld x.w1 4 6, 1), (fld x.w1 36 6, 1)] ++ (if sb then [(fld x.w1 10 6, 1)] else [])
      ++ (if mx then [(fld x.w1 16 6, 1)] else []) }

/-- What R90 compares of an open group: ACC, M, N and AM. -/
structure OpenGroup where
  acc : Nat
  m   : Nat
  n   : Nat
  am  : Nat
  deriving DecidableEq, Repr

def Mx.asOpen (x : Mx) : OpenGroup := { acc := x.acc, m := x.m, n := x.n, am := x.am }

/-- What an instruction makes of the open groups: mma and acc.ld open with OPEN = 1, acc.drain closes (R107). -/
def Mx.opens (x : Mx) (gs : SMap OpenGroup) : SMap OpenGroup :=
  if x.op ≤ 1 && x.opn then SMap.put gs x.grp x.asOpen else if x.op = 3 then SMap.del gs x.grp else gs

/-- The open groups as they will stand when the queue has run. -/
def Pane.openAfter (p : Pane) : SMap OpenGroup :=
  p.mq.foldl (fun gs e => e.mx.opens gs)
    (p.accGroups.map (fun kg => (kg.1, { acc := kg.2.acc, m := kg.2.m, n := kg.2.n, am := kg.2.am })))

/-- The matrix exception of R90, R114 and R147. -/
def Mx.badMatrix (x : Mx) (g7 : Bool) (gs : SMap OpenGroup) : Bool :=
  decide (64 < x.acc + x.tiles) || decide (128 < x.m) || decide (128 < x.n) || x.am == 3
    || (x.op == 0 && decide (0xC ≤ x.fmt)) || (x.op == 3 && decide (0xC ≤ x.fmt ∨ (4 ≤ x.fmt ∧ x.fmt ≤ 9)))
    || ((x.op == 0 || x.op == 3) && ((x.am == 2) != (x.fmt == 0xB)))
    || (x.op == 0 && isMx x.fmt && x.k % 32 != 0)
    || (x.op == 0 && g7 && (!([0, 1, 2, 3, 0xB].contains x.fmt) || x.am == 1))
    || (x.op == 3 && (decide (8 ≤ x.fuse) || (x.fmt == 0xB && decide (2 ≤ x.fuse ∧ x.fuse ≤ 6))))
    || (!(decide (x.op ≤ 1) && x.opn) && SMap.find gs x.grp != some x.asOpen)

/-- The bases and row strides that must be multiples of 32 (R89, R90, R108). Log entry 25 (DEDUCED). -/
def Mx.aligned (x : Mx) : List Nat :=
  match x.op with
  | 0 => [x.sa, x.sb, x.ldA, x.ldB] ++ (if isMx x.fmt then [x.ss] else [])
  | 3 => [x.sa, x.ldA] ++ (if 4 ≤ x.fuse && x.fuse ≤ 6 then [x.sb, x.ldB] else if x.fuse = 7 then [x.sb] else [])
  | _ => [x.sa, x.ldA]

/-- The group record of an acc.ld, as bits of Table 05-5. -/
def Pane.recordAt (p : Pane) (x : Mx) : Nat := ofBytes (p.readLs x.record 32)

/-- The matrix exception of an acc.ld with OPEN = 1 for its record (R109). -/
def Mx.badRecord (x : Mx) (r : Nat) : Bool :=
  x.op == 1 && x.opn && (fld r 0 8 != x.am || fld r 32 8 != x.m || fld r 40 8 != x.n)

/-- The exception of a matrix instruction at issue, or none. Log entry 26 (DEDUCED). -/
def Ctx.matrixFault (x : Ctx) : Option Nat :=
  let p := x.s.pane x.pane
  let y := x.mx
  if y.badMatrix (bit x.l.profile 4) p.openAfter then some 0x29
  else if y.aligned.any (fun a => a % 32 != 0) then some 0x23
  else if (y.reads ++ y.writes).any (fun r => !p.populated r.1 r.2) then some 0x24
  else if y.op == 1 && p.lsBad y.record 32 then some 0x27
  else if y.badRecord (p.recordAt y) then some 0x29
  else none

/-- Whether an acc.ld must wait for an acc.drain or acc.st in the queue that will write its record (R104). -/
def Ctx.recordPending (x : Ctx) : Bool :=
  x.mx.op == 1 && (x.s.pane x.pane).mq.any (fun e => e.mx.writes.any (rangesMeet (x.mx.record, 32)))

/-- A matrix instruction issues: checked, it enters the queue of 32 (R90, R104). -/
def Ctx.matrixBody (x : Ctx) : Device :=
  if x.act == 0 then x.finish x.s x.g 16
  else if x.acquiring || x.recordPending then x.hold
  else
    match x.matrixFault with
    | some code => x.raise code (excStatus code) x.act
    | none =>
      let p := x.s.pane x.pane
      if 32 ≤ p.mq.length then x.hold
      else
        let y := x.mx
        let e : MqEntry :=
          { slot := x.slot, cohort := x.g.cohort, part := x.part, w0 := x.w, w1 := x.w1, sa := y.sa, sb := y.sb, ss := y.ss,
            sld := y.ldA + 2 ^ 16 * y.ldB, profile := x.l.profile, seed := x.l.seed, est0 := x.l.est0, tag := x.l.tag,
            cindex := x.c.index, gic := x.g.gic, ordinal := x.g.drains % 2 ^ 32, stamp := x.s.mem.nextReq }
        let g := if y.op = 3 then { x.g with drains := x.g.drains + 1 } else x.g
        x.finish (x.s.setPane x.pane { p with mq := p.mq ++ [e] }) g 16

/-- A matrix instruction of one opcode. -/
def matrixOp (op pane slot : Nat) (w0 w1 : DWord) (s : Device) : Host.Outcome Device Fault Refusal :=
  krycha 16 (isWord 0xA [op]) matrixUses Ctx.matrixBody pane slot w0.toNat w1.toNat s

def execMma (pane slot : Nat) (w0 w1 : DWord) (s : State) : Host.Outcome State Fault Refusal := onDevice s fun s =>
  matrixOp 0 pane slot w0 w1 s

def execAccLd (pane slot : Nat) (w0 w1 : DWord) (s : State) : Host.Outcome State Fault Refusal := onDevice s fun s =>
  matrixOp 1 pane slot w0 w1 s

def execAccSt (pane slot : Nat) (w0 w1 : DWord) (s : State) : Host.Outcome State Fault Refusal := onDevice s fun s =>
  matrixOp 2 pane slot w0 w1 s

def execAccDrain (pane slot : Nat) (w0 w1 : DWord) (s : State) : Host.Outcome State Fault Refusal := onDevice s fun s =>
  matrixOp 3 pane slot w0 w1 s

end Sys2Proof.Machine
end

