-- ==== Sys2Proof/Machine/MatrixMath.lean ====
section
/-! DEFINITION. The arithmetic of the cubes: operand elements and their poison (R89, R121, R468), step sums and the one
rounding (R101, R123–R127), the residue checkers (R116), the A16 scale (R128–R131), and generation-7 mode (R147). -/

namespace Sys2Proof.Machine

/-! ## Accumulator elements -/

/-- The place of element (i, j) of the result in accumulator memory (R101). -/
def Mx.accAt (x : Mx) (i j : Nat) : Nat :=
  4096 * (x.acc + (i / 32) * x.tilesN + j / x.tn) + 128 * (i % 32) + x.e * (j % x.tn)

def Pane.accBytes (p : Pane) (a n : Nat) : Nat := ofBytes ((List.range n).map (fun i => SMap.get p.acc (a + i) 0))

def Pane.setAcc (p : Pane) (a n v : Nat) : Pane :=
  { p with acc := ((bytesOf v n).zipIdx).foldl (fun m bi => SMap.keep m (a + bi.2) bi.1 0) p.acc }

/-- Poison of an element of n bytes at a; marks are kept for each half-word. -/
def Pane.accBad (p : Pane) (a n : Nat) : Bool := (List.range (n / 2)).any (fun i => SMap.get p.accPoison (a / 2 + i) false)

def Pane.setAccBad (p : Pane) (a n : Nat) (b : Bool) : Pane :=
  { p with accPoison := (List.range (n / 2)).foldl (fun m i => SMap.keep m (a / 2 + i) b false) p.accPoison }

/-- The elements of M × N, row by row. -/
def Mx.elements (x : Mx) : List (Nat × Nat) := (List.range x.m).flatMap (fun i => (List.range x.n).map (fun j => (i, j)))

/-! ## Operands -/

/-- Field [b·c + b − 1 : b·c] of a row, with its poison: FP6 and FP4 elements pack low-order bits first (R89). -/
def Pane.element (p : Pane) (row c b : Nat) : Nat × Bool :=
  let off := row + c * b / 8
  let n := (c * b % 8 + b + 7) / 8
  (fld (ofBytes (p.readLs off n)) (c * b % 8) b, p.lsBad off n)

/-- Element (i, k) of A, in either orientation. -/
def Pane.opA (p : Pane) (x : Mx) (i k : Nat) : Nat × Bool :=
  if x.ta then p.element (x.sa + k * x.ldA) i (fmtBits x.fmt) else p.element (x.sa + i * x.ldA) k (fmtBits x.fmt)

/-- Element (k, j) of B, in either orientation. -/
def Pane.opB (p : Pane) (x : Mx) (k j : Nat) : Nat × Bool :=
  if x.tb then p.element (x.sb + j * x.ldB) k (fmtBits x.fmt) else p.element (x.sb + k * x.ldB) j (fmtBits x.fmt)

/-- The formats of A and B (Tables 04-12, 06-1). -/
def operandFmts (fmt : Nat) : Fmt × Fmt :=
  match fmt with
  | 0 => (fp16, fp16)
  | 1 => (bf16, bf16)
  | 2 => (e4m3, e4m3)
  | 3 => (e5m2, e5m2)
  | 4 => (e4m3, e5m2)
  | 5 => (e5m2, e4m3)
  | 6 => (e4m3, e4m3)
  | 7 => (e5m2, e5m2)
  | 8 => (e2m3, e2m3)
  | 9 => (e3m2, e3m2)
  | _ => (e2m1, e2m1)

/-- An MX block scale: 2^(s − 127), NaN for 0xFF (R121). -/
def scaleVal (s : Nat) : Val := if s = 0xFF then .nan else .fin false 1 ((s : Int) - 127)

/-- The MX scale byte of A's row or B's column at k, with its poison (R90, R121). -/
def Pane.scaleByte (p : Pane) (x : Mx) (row k : Nat) : Nat × Bool :=
  let off := x.ss + row * (x.k / 32) + k / 32
  ((SMap.get p.ls off 0).toNat, p.lsBad off 1)

/-- A subnormal read or result becomes zero of its sign in generation-7 mode (R147). -/
def flush (f : Fmt) (g7 : Bool) (bits : Nat) : Nat :=
  if g7 && decide (bits % 2 ^ (f.eb + f.mb) < 2 ^ f.mb) then f.signed (bit bits (f.eb + f.mb)) 0 else bits

/-! ## The operands of an array step (R97, R101) -/

/-- K per rounding: Ks of Table 05-1, halved to the substeps of generation-7 mode (R147). -/
def Mx.kStep (x : Mx) (g7 : Bool) : Nat :=
  let ks := if fmtBits x.fmt = 16 then 8 else if fmtBits x.fmt = 8 then 16 else 32
  if g7 && x.am != 2 then ks / 2 else ks

/-- The rows, columns and products of step kk in tile t; masked rows and columns and the padding of K are left out. -/
def Mx.rowsOf (x : Mx) (t : Nat) : List Nat := span (32 * (t / x.tilesN)) (min x.m (32 * (t / x.tilesN) + 32))
def Mx.colsOf (x : Mx) (t : Nat) : List Nat := span (x.tn * (t % x.tilesN)) (min x.n (x.tn * (t % x.tilesN) + x.tn))
def Mx.ksOf (x : Mx) (g7 : Bool) (kk : Nat) : List Nat := span (kk * x.kStep g7) (min x.k (kk * x.kStep g7 + x.kStep g7))

/-- What the feeders read for step kk of tile t. -/
def Pane.feed (p : Pane) (x : Mx) (g7 : Bool) (kk t : Nat) : Feed :=
  let ks := x.ksOf g7 kk
  let scales (rows : List Nat) := if isMx x.fmt then rows.map (fun r => p.scaleByte x r (kk * x.kStep g7)) else []
  { a := (x.rowsOf t).map (fun i => ks.map (p.opA x i)), b := (x.colsOf t).map (fun j => ks.map (fun k => p.opB x k j))
    sa := scales (x.rowsOf t), sb := scales ((x.colsOf t).map (x.m + ·)) }

/-- The block scales of row r and column c of a step, 1 without MX. -/
def Feed.scale (f : Feed) (r c : Nat) : Val := (scaleVal (f.sa.getD r (127, false)).1).mul (scaleVal (f.sb.getD c (127, false)).1)

/-- The operand pairs of the element at row r and column c of a step. -/
def Feed.pairs (f : Feed) (r c : Nat) : List ((Nat × Bool) × (Nat × Bool)) := (f.a.getD r []).zip (f.b.getD c [])

/-- Whether an operand element or block scale of a step's element lies in a poisoned sector (R468). -/
def Feed.bad (f : Feed) (r c : Nat) : Bool :=
  (f.pairs r c).any (fun ab => ab.1.2 || ab.2.2) || (f.sa.getD r (127, false)).2 || (f.sb.getD c (127, false)).2

/-- The exact products of a step's element, scales applied (R123, R126). -/
def Feed.products (f : Feed) (fmt : Nat) (g7 : Bool) (r c : Nat) : List Val :=
  let (fa, fb) := operandFmts fmt
  (f.pairs r c).map (fun ab => ((fa.decode (flush fa g7 ab.1.1)).mul (fb.decode (flush fb g7 ab.2.1))).mul (f.scale r c))

/-- The exact step sum (R123, R125, R126); INT8 operands are integers. -/
def Feed.sum (f : Feed) (fmt : Nat) (g7 : Bool) (r c : Nat) : Val :=
  if fmt = 0xB then
    let n := ((f.pairs r c).map (fun ab => sfld ab.1.1 0 8 * sfld ab.2.1 0 8)).foldl (· + ·) 0
    .fin (decide (n < 0)) n.natAbs 0
  else
    match f.products fmt g7 r c with
    | [] => .fin false 0 0
    | v :: vs => vs.foldl (Val.add .rne) v

/-! ## The residue checkers (R116) -/

/-- The exponent of the least significant bit of a format, of the exact sums of a step, and of a sum with the aligned accumulator
value. Log entry 143 (DESIGN CHOICE). -/
def Fmt.least (f : Fmt) : Int := f.emin - f.mb
def Mx.sumUnit (x : Mx) : Int :=
  if x.fmt = 0xB then 0 else (operandFmts x.fmt).1.least + (operandFmts x.fmt).2.least - (if isMx x.fmt then 254 else 0)
def Mx.accUnit (x : Mx) (scale : Int) : Int :=
  if x.am = 2 then 0 else if x.am = 1 then min (x.sumUnit - scale) fp16.least else min x.sumUnit fp32.least

/-- A value moved by n units of exponent u, as a fault moves it. -/
def Val.offBy (v : Val) (n u : Int) : Val := if n = 0 then v else v.add .rne (.fin (decide (n < 0)) n.natAbs u)

/-- A finite value as a count of units of exponent u, modulo 127. -/
def Val.residue (v : Val) (u : Int) : Option Int :=
  match v with
  | .fin n m e => some ((if n then -1 else 1) * ((m % 127 * 2 ^ ((e - u).toNat % 7) : Nat) : Int) % 127)
  | _ => none

/-- The residue of a product as the checker predicts it, from its operands' significands and exponent offsets. -/
def productResidue (u : Int) : Val → Val → Val → Option Int
  | .fin n1 m1 e1, .fin n2 m2 e2, .fin _ _ e3 =>
    let m := m1 % 127 * (m2 % 127) % 127 * 2 ^ ((e1 + e2 + e3 - u).toNat % 7)
    some ((if n1 = n2 then 1 else -1) * (m : Int) % 127)
  | _, _, _ => none

/-- The residue of a step's sum as the checker predicts it. -/
def Feed.predicted (f : Feed) (x : Mx) (g7 : Bool) (r c : Nat) : Option Int :=
  let (fa, fb) := operandFmts x.fmt
  (f.pairs r c).foldl (fun acc ab =>
    let p := if x.fmt = 0xB then some (sfld ab.1.1 0 8 % 127 * (sfld ab.2.1 0 8 % 127) % 127)
      else productResidue x.sumUnit (fa.decode (flush fa g7 ab.1.1)) (fb.decode (flush fb g7 ab.2.1)) (f.scale r c)
    acc.bind (fun a => p.map (fun q => (a + q) % 127))) (some 0)

/-- Two residues that agree, or a value that is not finite, which the residue check does not cover. -/
def residuesAgree (a b : Option Int) : Bool :=
  match a, b with
  | some m, some n => m == n
  | _, _ => true

/-! ## One element of one array step (R124, R130, R147) -/

/-- What the accumulate stage finds for an element: the value before its rounding, and whether the checkers of the sum and of the
sum with the accumulator agree. `q` is the value that the accumulator holds and S the exact sum, aligned to it by −SCALE. Generation-7 mode
rounds the sum first. Log entry 30 (DEDUCED). -/
def Feed.accumulate (f : Feed) (x : Mx) (g7 : Bool) (scale : Int) (r c : Nat) (q : Val) (e : CubeError) : Val × Bool :=
  let u1 := x.sumUnit
  let sum := (f.sum x.fmt g7 r c).offBy e.sum u1
  let sumOk := residuesAgree (f.predicted x g7 r c) (sum.residue u1)
  let s := if x.am = 1 then sum.mul (.fin false 1 (-scale))
    else if g7 && x.am != 2 then fp32.decode (roundVal fp32 .rne sum).1 else sum
  let u2 := x.accUnit scale
  let v := q.add .rne s
  (v.offBy e.acc u2, sumOk && residuesAgree (v.residue u2) ((v.offBy e.acc u2).residue u2))

/-- Whether an encoding is finite. -/
def isFinite (f : Fmt) (bits : Nat) : Bool :=
  match f.decode bits with
  | .fin _ _ _ => true
  | _ => false

/-- Whether a finite value would round to an infinite stored value: its magnitude is at least 65,520 (R130). -/
def a16Overflows (v : Val) : Bool :=
  match v with
  | .fin _ m e => decide (fp16.limit ≤ (roundFin fp16 .rne false m e).1)
  | _ => false

/-- Every stored value halved, rounded to nearest even (R130). -/
def a16Halve (q : Nat) : Nat :=
  match fp16.decode q with
  | .fin n m e => (roundFin fp16 .rne n m (e - 1)).1
  | _ => q

/-- The integer that a value is, as INT32 holds it. -/
def Val.toInt (v : Val) : Int :=
  match v with
  | .fin n m e => if n then -((m * 2 ^ e.toNat : Nat) : Int) else ((m * 2 ^ e.toNat : Nat) : Int)
  | _ => 0

/-- The value of an accumulator element of a mode. -/
def accValue (am bits : Nat) : Val :=
  if am = 2 then (let n := sfld bits 0 32; .fin (decide (n < 0)) n.natAbs 0) else if am = 1 then fp16.decode bits else fp32.decode bits

/-- The one rounding into an accumulator element (R124); an A16 value that overflows saturates (R131). -/
def accRound (am : Nat) (g7 : Bool) (v : Val) : Nat :=
  if am = 2 then ofInt 32 v.toInt
  else if am = 1 then
    if a16Overflows v then fp16.signed v.negative (fp16.limit - 1) else (roundVal fp16 .rne v).1
  else flush fp32 g7 (roundVal fp32 .rne v).1

/-- One element of a step: its place, its value before rounding, whether it is poisoned and whether this step
poisons it (R468), the error of its rounding, whether it was finite, and the logical row of the cube that computes it when a checker disagrees. -/
structure StepElement where
  place : Nat
  v     : Val
  bad   : Bool
  hit   : Bool
  round : Int
  was   : Bool
  wrong : Option Nat
  deriving DecidableEq, Repr

/-- The elements of step kk of tile t, computed from the pane as it stands. -/
def Pane.stepElements (p : Pane) (x : Mx) (g7 : Bool) (scale : Int) (errors : List CubeError) (kk : Nat) (tf : Nat × Feed) :
    List StepElement :=
  ((x.rowsOf tf.1).zipIdx).flatMap (fun ir => ((x.colsOf tf.1).zipIdx).map (fun jc =>
    let place := x.accAt ir.1 jc.1
    let old := p.accBytes place x.e
    let hit := tf.2.bad ir.2 jc.2
    let e := (errors.find? (fun e => e.kk == kk && e.i == ir.1 && e.j == jc.1)).getD { kk, i := ir.1, j := jc.1 }
    let r := tf.2.accumulate x g7 scale ir.2 jc.2 (accValue x.am old) e
    { place, v := r.1, bad := p.accBad place x.e || hit, hit, round := e.round
      was := x.am == 2 || isFinite (if x.am = 1 then fp16 else fp32) old
      wrong := if r.2 && e.round == 0 then none else some (ir.2 / 8) }))

/-- A step's elements rounded into the accumulators. A poisoned one stays poisoned (R468), and its overflow in A16 gives an
infinity (R130). Log entry 33 (DEDUCED). -/
def Pane.putElements (p : Pane) (x : Mx) (g7 : Bool) (els : List StepElement) : Pane :=
  els.foldl (fun p el =>
    let bits := if x.am = 1 && el.bad then (roundVal fp16 .rne el.v).1 else accRound x.am g7 el.v
    let q := p.setAcc el.place x.e (ofInt (8 * x.e) ((bits : Int) + el.round))
    if el.bad then q.setAccBad el.place x.e true else q) p

/-- How many of a step's elements become non-finite at the accumulate stage (R127): growth past binary16 from finite inputs is
none. -/
def nonFinite (am : Nat) (g7 : Bool) (els : List StepElement) : Nat :=
  (els.filter (fun el => am != 2 && el.was
    && (if am = 1 then !a16Overflows el.v && !isFinite fp16 (roundVal fp16 .rne el.v).1
        else !isFinite fp32 (accRound 0 g7 el.v)))).length

/-- The elements of a step that overflow and are not poisoned (R130, R468). -/
def overflowing (am : Nat) (els : List StepElement) : List StepElement :=
  els.filter (fun el => am == 1 && !el.bad && a16Overflows el.v)

/-- Every stored value of some tiles halved (R130). -/
def Pane.halve (p : Pane) (tiles : List Nat) : Pane :=
  let halves := distinct ((p.acc.filter (fun kv => tiles.contains (kv.1 / 4096))).map (fun kv => kv.1 / 2 * 2))
  halves.foldl (fun p a => p.setAcc a 2 (a16Halve (p.accBytes a 2))) p

/-! ## A run of array steps -/

/-- What steps leave: the pane, SCALE, the replays left to the instruction and whether it saturates, what was counted, whether an
element was poisoned, and each tile with the logical rows that its checkers name. -/
structure StepRun where
  p       : Pane
  scale   : Int
  left    : Nat
  full    : Bool
  replays : Nat := 0
  sats    : Nat := 0
  nonfin  : Nat := 0
  pois    : Bool := false
  out     : List (Nat × List Nat) := []
  deriving DecidableEq, Repr

/-- The steps of one K step over tiles with their operands. While replays are left and SCALE is below 127, an overflow halves the
group's tiles, raises SCALE and enters the steps again; else it saturates (R130, R131). -/
def StepRun.go (x : Mx) (g7 : Bool) (errors : List CubeError) (kk : Nat) (tfs : List (Nat × Feed)) : Nat → StepRun → StepRun
  | fuel, a =>
    let els := tfs.map (fun tf => (tf.1, a.p.stepElements x g7 a.scale errors kk tf))
    let tops := els.flatMap (fun te => overflowing x.am te.2)
    let put : StepRun :=
      { a with
        p := els.foldl (fun p te => p.putElements x g7 te.2) a.p
        full := a.full || !tops.isEmpty
        sats := a.sats + tops.length
        nonfin := a.nonfin + total (els.map (fun te => nonFinite x.am g7 te.2))
        pois := a.pois || els.any (fun te => te.2.any (·.hit))
        out := els.map (fun te => (x.acc + te.1, distinct (te.2.filterMap (·.wrong)))) }
    match fuel with
    | 0 => put
    | f + 1 =>
      if !tops.isEmpty && !a.full && decide (0 < a.left) && decide (a.scale < 127) then
        StepRun.go x g7 errors kk tfs f
          { a with p := a.p.halve x.tileList, scale := a.scale + 1, left := a.left - 1, replays := a.replays + 1 }
      else put

/-! ## Rounding out of the accumulator (R138–R142) -/

/-- One round of sr_bits. -/
def srRound (s : BitVec 64 × BitVec 64 × BitVec 64) : BitVec 64 × BitVec 64 × BitVec 64 :=
  let x := s.1 + s.2.2
  let x := (x ^^^ (x >>> 31)) * 0xD6E8FEB86659FD93#64
  let y := s.2.1 ^^^ x
  let y := (y ^^^ (y >>> 29)) * 0xBF58476D1CE4E5B9#64
  let z := s.2.2 + y
  let z := (z ^^^ (z >>> 32)) * 0x94D049BB133111EB#64
  (x, y, z)

/-- The 24 random bits of a draw (R141). -/
def srBits (seed site a b : Nat) : Nat :=
  let x : BitVec 64 := BitVec.ofNat 64 seed ^^^ (BitVec.ofNat 64 site * 0x9E3779B97F4A7C15#64)
  let r := srRound (srRound (srRound (srRound (x, BitVec.ofNat 64 a, BitVec.ofNat 64 b))))
  ((r.1 ^^^ r.2.1 ^^^ r.2.2) >>> 40).toNat

/-- The rounding that a profile's DRND selects, its random bits drawn from a site's words (R138, R142). -/
def drnd (profile seed site a b : Nat) : Rm :=
  match profile % 4 with
  | 1 => .sr (srBits seed site a b)
  | 2 => .rtz
  | _ => .rne

/-- A value rounded to an output encoding under NSAT, and whether NSAT clamped it (R138, R139, Table 06-3). -/
def roundOut (f : Fmt) (rm : Rm) (nsat : Bool) (v : Val) : Nat × Bool :=
  match v with
  | .fin n m e =>
    let r := roundFin f rm n m e
    let full := (r.2 &&& fOverflow) != 0
    if full && nsat && f.width == 8 then (f.signed n (f.limit - 1), true) else (r.1, false)
  | v => ((roundVal f rm v).1, false)

end Sys2Proof.Machine
end

