-- ==== Sys2Proof/Machine/MatrixRun.lean ====
section
/-! DEFINITION. The matrix queue at its head (R104): mma (R107, R122, R128, R136, R137), acc.ld and acc.st (R108, R468,
R469), acc.drain (R112–R115, R129), and the verdicts of the residue checkers (R117, R118). -/

namespace Sys2Proof.Machine

/-! ## mma -/

/-- The SCALE of an A16 group opened fresh: E − 13 (R128). -/
def Device.freshScale (s : Device) (e : MqEntry) (x : Mx) : Int :=
  if x.am != 1 then 0
  else if bit e.profile 3 then e.est0 - 13
  else
    match s.cohort? e.cohort with
    | some c => SMap.get c.est x.grp c.est0 - 13
    | none => e.est0 - 13

def clampEst (n : Int) : Int := max (-115) (min 127 n)

/-- A running estimate of the issuing cohort changed (R129). -/
def Device.modEst (s : Device) (cohort grp : Nat) (f : Int → Int) : Device :=
  s.modCohort cohort (fun c => { c with est := SMap.put c.est grp (clampEst (f (SMap.get c.est grp c.est0))) })

/-- The tiles that steps still without a verdict wrote are opened or loaded anew: nothing of those steps is left to repair. -/
def Pane.supersede (p : Pane) (tiles : List Nat) : Pane :=
  let gone (u : CubeStep) : CubeStep := if u.tiles.any tiles.contains then { u with live := false } else u
  { p with steps := p.steps.map gone, redo := p.redo.map gone }

/-- A group opened fresh: every element of its tiles is zero and unpoisoned (R107, R122). Log entry 27 (DEDUCED). -/
def Pane.openFresh (p : Pane) (x : Mx) (scale : Int) : Pane :=
  let g : AccGroup := { acc := x.acc, m := x.m, n := x.n, am := x.am, scale }
  let inTiles (k unit : Nat) : Bool := x.tileList.contains (k * unit / 4096)
  { p.supersede x.tileList with
    acc := p.acc.filter (fun kv => !inTiles kv.1 1)
    accPoison := p.accPoison.filter (fun kv => !inTiles kv.1 2)
    accGroups := SMap.put p.accGroups x.grp g }

def Pane.modGroup8 (p : Pane) (grp : Nat) (f : AccGroup → AccGroup) : Pane :=
  match SMap.find p.accGroups grp with
  | none => p
  | some g => { p with accGroups := SMap.put p.accGroups grp (f g) }

/-- KDONE grows by K and holds at 2^32 − 1 (Table 05-5). -/
def AccGroup.addK (g : AccGroup) (k : Nat) : AccGroup := { g with kdone := min (g.kdone + k) (2 ^ 32 - 1) }

/-- The array steps of an mma (R103, R147). -/
def Mx.arraySteps (x : Mx) (g7 : Bool) : Nat :=
  if x.m = 0 || x.n = 0 || x.k = 0 then 0
  else x.tiles * ceilDiv x.k (x.kStep false) * (if g7 then 2 else 1)

/-! ### Steps, their verdicts and their repeats (R97, R116, R117, R132) -/

/-- A change of the group that an instruction works on, where it is still open as the instruction names it. -/
def Pane.modOpen (p : Pane) (x : Mx) (f : AccGroup → AccGroup) : Pane :=
  p.modGroup8 x.grp (fun g => if g.acc = x.acc ∧ g.m = x.m ∧ g.n = x.n ∧ g.am = x.am then f g else g)

/-- The bytes and poison of some tiles. -/
def Pane.tileBytes (p : Pane) (tiles : List Nat) : SMap Byte := p.acc.filter (fun kv => tiles.contains (kv.1 / 4096))
def Pane.tilePoison (p : Pane) (tiles : List Nat) : SMap Bool := p.accPoison.filter (fun kv => tiles.contains (kv.1 / 2048))

/-- What goes from one set of steps of an instruction to the next: the instruction, SCALE, the replays left and whether it
saturates. -/
structure StepCarry where
  mma   : Nat
  scale : Int
  left  : Nat := 4
  full  : Bool := false
  deriving DecidableEq, Repr

/-- The tiles of a run of steps, each with the physical rows that its checkers name. -/
def Device.namedRows (s : Device) (pane : Nat) (r : StepRun) : List (Nat × List Nat) :=
  let rows := s.logicalRows (s.phys pane)
  r.out.map (fun tr => (tr.1, tr.2.filterMap (fun l => rows[l]?)))

/-- Steps are performed: they keep what they found (R117), round into the accumulators, count what they meet (R127, R130, R131),
and wait for their verdicts. A replay raises the cohort's estimate (R129). -/
def Device.runStep (s : Device) (pane : Nat) (errors : List CubeError) (u : CubeStep) (c : StepCarry) : Device × StepCarry :=
  let p := s.pane pane
  let x := u.e.mx
  let g7 := bit u.e.profile 4
  let sat := (SMap.find p.accGroups x.grp).any (·.sat)
  let r := StepRun.go x g7 errors u.kk ((u.tiles.map (· - x.acc)).zip u.feeds) 5 { p, scale := c.scale, left := c.left, full := c.full }
  let v : CubeStep :=
    { u with acc := p.tileBytes u.tiles, bad := p.tilePoison u.tiles, scale := c.scale, sat, left := c.left, full := c.full
             replays := r.replays, phys := s.phys pane, visible := s.view pane
             out := s.namedRows pane r }
  let q := r.p.modOpen x (fun g => { g with scale := if x.am = 1 then r.scale else g.scale, sat := g.sat || r.full, pois := g.pois || r.pois })
  let q := { q with steps := q.steps ++ [v], tmode := u.tiles.foldl (fun m t => SMap.put m t (x.am, if x.am = 1 then r.scale else 0)) q.tmode }
  let t := s.setPane pane q
  let t := ((t.odCount u.e.part 0x7020 1 0 r.replays).odCount u.e.part 0x7020 2 0 r.sats).odCount u.e.part 0x7020 3 0 r.nonfin
  (if r.replays = 0 then t else t.modEst u.e.cohort x.grp (· + r.replays), { mma := u.mma, scale := r.scale, left := r.left, full := r.full })

/-- The sets of steps of an mma, each with its operands from local store: one for each array step in A32 and INT32, one for each K
step in A16. -/
def Pane.stepsOf (p : Pane) (e : MqEntry) (x : Mx) (first : Nat) (retract : Bool) : List CubeStep :=
  let g7 := bit e.profile 4
  let ts := List.range x.tiles
  let sets := (List.range (ceilDiv x.k (x.kStep g7))).flatMap (fun kk =>
    if x.am = 1 then [(kk, ts)] else ts.map (fun t => (kk, [t])))
  (sets.zipIdx).map (fun si =>
    { id := first + si.2, mma := first, e, kk := si.1.1, tiles := si.1.2.map (x.acc + ·), feeds := si.1.2.map (p.feed x g7 si.1.1), retract })

/-- The first number that no step without a verdict has. -/
def Pane.nextStep (p : Pane) : Nat := greatest ((p.steps ++ p.redo).map (fun u => u.id + 1))

/-- mma at the head of the queue. With M or N zero it writes no element and adds K to KDONE; with K zero it executes no
step (R136, R137). -/
def Device.runMma (s : Device) (pane : Nat) (errors : List CubeError) (e : MqEntry) (x : Mx) : Device :=
  let g7 := bit e.profile 4
  let s1 := if x.opn then s.modPane pane (·.openFresh x (s.freshScale e x)) else s
  let p := s1.pane pane
  let p := { p with perf := { p.perf with mma := p.perf.mma + 1, steps := p.perf.steps + x.arraySteps g7 } }
  if x.m = 0 || x.n = 0 then s1.setPane pane (p.modGroup8 x.grp (·.addK x.k))
  else if x.k = 0 then s1.setPane pane p
  else
    let l := (s.cohort? e.cohort).bind (fun c => s.launch? c.part c.launch)
    let retract := l.any (fun l => l.checked && l.policy == 1)
    let first := p.nextStep
    let scale := ((SMap.find p.accGroups x.grp).map (·.scale)).getD 0
    ((p.stepsOf e x first retract).foldl (fun (tc : Device × StepCarry) u => tc.1.runStep pane errors u tc.2)
      (s1.setPane pane (p.modGroup8 x.grp (·.addK x.k)), { mma := first, scale })).1

/-- The tiles return to what steps found, with SCALE and SAT of their group (R117, R132). -/
def Pane.restore (p : Pane) (u : CubeStep) : Pane :=
  let x := u.e.mx
  let q : Pane :=
    { p with
      acc := u.acc.foldl (fun m kv => SMap.put m kv.1 kv.2) (p.acc.filter (fun kv => !u.tiles.contains (kv.1 / 4096)))
      accPoison := u.bad.foldl (fun m kv => SMap.put m kv.1 kv.2) (p.accPoison.filter (fun kv => !u.tiles.contains (kv.1 / 2048)))
      tmode := if x.am = 1 then u.tiles.foldl (fun m t => SMap.put m t (x.am, u.scale)) p.tmode else p.tmode }
  q.modOpen x (fun g => { g with scale := if x.am = 1 then u.scale else g.scale, sat := u.sat })

/-- Steps are undone, the last first: their tiles, and the replays that they made in the estimate (R132). Log entry 144 (DEDUCED). -/
def Device.undoSteps (s : Device) (pane : Nat) (us : List CubeStep) : Device :=
  us.reverse.foldl (fun t u =>
    let t := t.modPane pane (·.restore u)
    if u.replays = 0 then t else t.modEst u.e.cohort u.e.mx.grp (· - u.replays)) s

/-- Steps whose tiles have been opened or loaded anew are repeated beside the accumulators, for their verdicts alone (R117). -/
def Device.rerun (s : Device) (pane : Nat) (errors : List CubeError) (u : CubeStep) : Device :=
  let x := u.e.mx
  let r := StepRun.go x (bit u.e.profile 4) errors u.kk ((u.tiles.map (· - x.acc)).zip u.feeds) 5
    { p := (s.pane pane).restore u, scale := u.scale, left := u.left, full := u.full }
  let v := { u with out := s.namedRows pane r, phys := s.phys pane, visible := s.view pane }
  (s.modPane pane (fun p => { p with steps := p.steps ++ [v] })).odCount u.e.part 0x7020 1 0 r.replays

/-- Undone steps are repeated in their order from their operands (R117). Steps of one instruction hand on SCALE and the replays left, and an
instruction that continues the group takes SCALE as it stands. -/
def Device.repeatSteps (s : Device) (pane : Nat) (errors : List CubeError) (us : List CubeStep) : Device :=
  (us.foldl (fun (tc : Device × Option (StepCarry × OpenGroup)) u =>
    if !u.live then (tc.1.rerun pane errors u, tc.2) else
    let own : StepCarry := { mma := u.mma, scale := u.scale, left := u.left, full := u.full }
    let c := match tc.2 with
      | some (c, g) => if c.mma = u.mma then c else if g = u.e.mx.asOpen then { own with scale := c.scale } else own
      | none => own
    let r := tc.1.runStep pane errors u c
    (r.1, some (r.2, u.e.mx.asOpen))) (s, none)).1

/-! ## acc.ld and acc.st -/

/-- The group record of an open group (Table 05-5). -/
def AccGroup.record (g : AccGroup) : Nat :=
  g.am + 2 ^ 8 * ofInt 8 g.scale + 2 ^ 16 * g.sat.toNat + 2 ^ 17 * g.pois.toNat + 2 ^ 32 * g.m + 2 ^ 40 * g.n
    + 2 ^ 64 * g.kdone

/-- The local-store place of each native element of the tiles, with its place in accumulator memory (R101, R108). -/
def Mx.nativeMap (x : Mx) : List (Nat × Nat) :=
  (List.range x.tiles).flatMap (fun t => (List.range 32).flatMap (fun r => (List.range x.tn).map (fun c =>
    let acc := 4096 * (x.acc + t) + 128 * r + x.e * c
    let ls :=
      if x.ldA = 0 then x.sa + 4096 * t + 128 * r + x.e * c
      else x.sa + (32 * (t / x.tilesN) + r) * x.ldA + x.e * (x.tn * (t % x.tilesN) + c)
    (ls, acc))))

/-- acc.ld: the tiles take their native encodings and poison, and the group its record (R107, R108, R468). The record's AM, M and N
are looked at with OPEN = 1 only, and its RSV bits never. Log entries 145 (DESIGN CHOICE), 146 (DESIGN CHOICE). -/
def Pane.runLd (p : Pane) (x : Mx) : Pane :=
  let p := p.supersede x.tileList
  let r := ofBytes (p.readLs x.record 32)
  let moved := x.nativeMap.foldl (fun q la =>
    (q.setAcc la.2 x.e (ofBytes (p.readLs la.1 x.e))).setAccBad la.2 x.e (p.lsBad la.1 x.e)) p
  let bad := x.nativeMap.any (fun la => p.lsBad la.1 x.e)
  let g : AccGroup := { acc := x.acc, m := x.m, n := x.n, am := x.am, scale := sfld r 8 8, sat := bit r 16,
                        pois := bit r 17 || bad, kdone := fld r 64 32 }
  { moved with accGroups := SMap.put moved.accGroups x.grp g }

/-- The bytes of a read-out's elements, and its sectors in order. -/
def outPlaces (els : List (Nat × List Byte × Bool)) : List Nat := els.flatMap (fun e => (e.2.1.zipIdx).map (fun bi => e.1 + bi.2))
def outSectors (els : List (Nat × List Byte × Bool)) : List Nat := distinct ((outPlaces els).map (· / 32))

/-- Output of a read-out: elements with their place, bytes and poison, written sector by sector, of which some more go out now (R181). A sector
with a poisoned element is poisoned; one that the output covers whole takes its data; a poisoned one covered in part keeps its bytes
(R111, R469). -/
def Pane.writeOut (p : Pane) (els : List (Nat × List Byte × Bool)) (moved n : Nat) : Pane :=
  let bytes := outPlaces els
  (partsNow (outSectors els) moved n).foldl (fun q k =>
    let mine := els.filter (fun e => e.1 / 32 == k || (e.1 + e.2.1.length - 1) / 32 == k)
    let covered := (distinct (bytes.filter (fun b => b / 32 == k))).length == 32
    if mine.any (·.2.2) then q.setLsPoison k true
    else if !covered && p.lsPoisoned k then q
    else
      let put := mine.foldl (fun r e => r.putLs e.1 e.2.1) q
      if covered then put.setLsPoison k false else put) p

/-- The group that read tiles out is noted with the steps into them whose verdicts are to come (R118). -/
def Pane.noteReader (p : Pane) (e : MqEntry) (tiles : List Nat) : Pane :=
  { p with steps := p.steps.map (fun u =>
      { u with readers := u.readers ++ (u.tiles.filter tiles.contains).map (fun tile =>
          { tile, cohort := e.cohort, slot := e.slot, gic := e.gic }) }) }

/-- What acc.st writes: the tiles in their native encoding and the group record (R107, R108). -/
def Pane.storeOut (p : Pane) (x : Mx) : List (Nat × List Byte × Bool) :=
  let rec32 := match SMap.find p.accGroups x.grp with
    | some g => g.record
    | none => 0xFF
  x.nativeMap.map (fun la => (la.1, bytesOf (p.accBytes la.2 x.e) x.e, p.accBad la.2 x.e)) ++ [(x.record, bytesOf rec32 32, false)]

/-- The rest of an acc.st; the group stays open. -/
def Pane.runSt (p : Pane) (e : MqEntry) (x : Mx) : Pane := (p.writeOut (p.storeOut x) e.moved 0).noteReader e x.tileList

/-! ## acc.drain -/

/-- The output format of acc.drain and that of its auxiliary and bias elements (Table 04-12, R112). -/
def drainFmt (fmt : Nat) : Fmt :=
  match fmt with
  | 0 => fp16
  | 1 => bf16
  | 2 => e4m3
  | 3 => e5m2
  | _ => fp32

def auxFmt (fmt : Nat) : Fmt := if (drainFmt fmt).width = 8 then bf16 else drainFmt fmt

/-- Whether a value is greater than zero. -/
def Val.positive (v : Val) : Bool := (Val.fin false 0 0).lt v

/-- Codes 2, 3, 5 and 6 of FUSE: of finite operands held to 2 ulp; of infinite ones as the factors give it where they do, and else free (R113). -/
def fusedFree (profile fuse x z : Nat) : Nat :=
  let free := (Config.fuse fuse profile (BitVec.ofNat 32 x) (BitVec.ofNat 32 z)).toNat
  match fp32.decode x, fp32.decode z with
  | .fin n m e, .fin n2 m2 e2 => heldTo2Ulp (fuseValue fuse (.fin n m e) (.fin n2 m2 e2)) free
  | .fin n m e, _ => if fuse ≤ 3 then heldTo2Ulp (fuseValue fuse (.fin n m e) (.fin n m e)) free else canonical fp32 free
  | .inf n, .fin n2 m2 e2 =>
    if fuse ≤ 3 then (if n then canonical fp32 free else fp32.ofInf false)
    else
      match fuseValue fuse (.fin false 1 0) (.fin n2 m2 e2) with
      | .fin n3 m3 _ => if m3 = 0 then canonical fp32 free else fp32.ofInf (n != n3)
      | _ => canonical fp32 free
  | .inf n, _ => if fuse ≤ 3 && !n then fp32.ofInf false else canonical fp32 free
  | _, _ => fp32.qnan

/-- FUSE on binary32 bits (R113, Table 05-6); a NaN input gives the canonical NaN. -/
def fused (profile fuse x z : Nat) : Nat :=
  let vx := fp32.decode x
  let vz := fp32.decode z
  match fuse with
  | 0 => x
  | 1 => if vx.isNan then fp32.qnan else if vx.positive then x else 0
  | 4 => if vx.isNan || vz.isNan then fp32.qnan else if vz.positive then x else 0
  | 7 => (roundVal fp32 .rne (vx.add .rne vz)).1
  | f =>
    if vx.isNan || (decide (4 ≤ f) && vz.isNan) then fp32.qnan
    else fusedFree profile f x z

/-- The auxiliary or bias element of an output element, with its poison (R112). -/
def Pane.auxElement (p : Pane) (x : Mx) (i j : Nat) : Nat × Bool :=
  let n := auxBytes x.fmt
  if 4 ≤ x.fuse && x.fuse ≤ 6 then
    let off := x.sb + i * x.ldB + n * j
    (ofBytes (p.readLs off n), p.lsBad off n)
  else if x.fuse = 7 then (ofBytes (p.readLs (x.sb + n * j) n), p.lsBad (x.sb + n * j) n)
  else (0, false)

/-- A NaN as the canonical NaN, exactly converted to binary32 otherwise. -/
def toFp32 (f : Fmt) (bits : Nat) : Nat := (roundVal fp32 .rne (f.decode bits)).1

/-- The value of an accumulator element as binary32 (R112 step 1). -/
def elementFp32 (am : Nat) (scale : Int) (bits : Nat) : Nat :=
  if am = 1 then (roundVal fp32 .rne ((fp16.decode bits).mul (.fin false 1 scale))).1 else bits

/-- One output element of acc.drain: its bits, whether it is poison, and whether NSAT clamped it (R112, R138, R139, R147). -/
def Pane.drainElement (p : Pane) (e : MqEntry) (x : Mx) (scale : Int) (i j : Nat) : Nat × Bool × Bool :=
  let a := x.accAt i j
  let bits := p.accBytes a x.e
  let aux := p.auxElement x i j
  let bad := p.accBad a x.e || aux.2
  if x.am = 2 then
    let v := sfld bits 0 32
    let r : Int := match x.fuse with
      | 0 => v
      | 1 => max v 0
      | _ => v + sfld aux.1 0 32
    (ofInt 32 r, bad, false)
  else
    let f := drainFmt x.fmt
    let g7 := bit e.profile 4
    let y := fused e.profile x.fuse (elementFp32 x.am scale bits) (toFp32 (auxFmt x.fmt) aux.1)
    if f = fp32 then (flush fp32 g7 (canonical fp32 y), bad, false)
    else
      let b := 2 ^ 48 * e.gic + 2 ^ 16 * e.ordinal + 2 ^ 8 * i + j
      let rm := if g7 then .rne else drnd e.profile e.seed 1 (2 ^ 32 * e.tag + e.cindex % 2 ^ 32) b
      let r := roundOut f rm (bit e.profile 2) (fp32.decode y)
      (flush f g7 r.1, bad, r.2)

/-- ⌊log2 |x|⌋ of an A16 element, when it is finite and not zero (R129). -/
def a16Binade (scale : Int) (bits : Nat) : Option Int :=
  match fp16.decode bits with
  | .fin _ m e => if m = 0 then none else some ((Nat.log2 m : Int) + e + scale)
  | _ => none

/-- The greatest binade of a group's elements within M × N, poisoned ones left out (R129, R468). Log entry 28 (DEDUCED). -/
def Pane.greatestBinade (p : Pane) (x : Mx) (scale : Int) : Option Int :=
  let bs := x.elements.filterMap (fun ij =>
    let a := x.accAt ij.1 ij.2
    if p.accBad a 2 then none else a16Binade scale (p.accBytes a 2))
  match bs with
  | [] => none
  | b :: rest => some (rest.foldl max b)

/-- The elements of an acc.drain, each with what drainElement says of it. -/
def Pane.drained (p : Pane) (e : MqEntry) (x : Mx) : List ((Nat × Nat) × Nat × Bool × Bool) :=
  let scale := ((SMap.find p.accGroups x.grp).map (·.scale)).getD 0
  x.elements.map (fun ij => (ij, p.drainElement e x scale ij.1 ij.2))

/-- What acc.drain writes. -/
def Pane.drainOut (p : Pane) (e : MqEntry) (x : Mx) : List (Nat × List Byte × Bool) :=
  let n := outBytes x.fmt
  (p.drained e x).map (fun o => (x.sa + o.1.1 * x.ldA + n * o.1.2, bytesOf o.2.1 n, o.2.2.1))

/-- The rest of an acc.drain: every element is converted and written, the group closes, and its estimate follows (R112–R115, R129). -/
def Device.runDrain (s : Device) (pane : Nat) (e : MqEntry) (x : Mx) : Device :=
  let p := s.pane pane
  let scale := ((SMap.find p.accGroups x.grp).map (·.scale)).getD 0
  let out := p.drained e x
  let q := (p.writeOut (p.drainOut e x) e.moved 0).noteReader e x.tileList
  let s1 := s.setPane pane { q with accGroups := SMap.del q.accGroups x.grp }
  let s2 := s1.odCount e.part 0x7020 4 0 (out.filter (fun o => o.2.2.2)).length
  if x.am = 1 then
    match p.greatestBinade x scale with
    | some mx => s2.modEst e.cohort x.grp (fun old => max mx (old - 1))
    | none => s2
  else s2

/-! ## The head of the queue and the verdicts -/

/-- The tiles of a group keep the AM and SCALE they were last written under. -/
def Pane.noteMode (p : Pane) (x : Mx) : Pane :=
  match SMap.find p.accGroups x.grp with
  | none => p
  | some g => { p with tmode := x.tileList.foldl (fun m t => SMap.put m t (g.am, g.scale)) p.tmode }

/-- The instruction at the head of the queue is carried out and leaves it. Log entry 31 (DEDUCED). -/
def Device.runHead (s : Device) (pane : Nat) (errors : List CubeError) (e : MqEntry) : Device :=
  let x := e.mx
  let s1 := s.modPane pane (fun p => { p with mq := p.mq.drop 1 })
  match x.op with
  | 0 => (s1.runMma pane errors e x).modPane pane (·.noteMode x)
  | 1 => s1.modPane pane (fun p => (p.runLd x).noteMode x)
  | 2 => s1.modPane pane (·.runSt e x)
  | _ => s1.runDrain pane e x

/-- The read-out at the head of the queue writes n of its sectors, and stays there while more are left (R181). -/
def Device.runSome (s : Device) (pane n : Nat) (e : MqEntry) : Option Device :=
  let x := e.mx
  let p := s.pane pane
  let els := if x.op = 2 then p.storeOut x else p.drainOut e x
  if x.op < 2 || n == 0 || decide ((outSectors els).length ≤ e.moved + n) then none
  else some (s.setPane pane { p.writeOut els e.moved n with mq := { e with moved := e.moved + n } :: p.mq.drop 1 })

/-! ## Upsets of a pane's SRAM (R111, R354) -/

/-- A corrected single-bit error is counted in the pane's history row (Table 16-7). -/
def Device.countCorrected (s : Device) (pane : Nat) : Device :=
  s.modUnit 1 (s.phys pane) (fun u => { u with corr := min (u.corr + 1) 65535 })

/-- Whether an open group names the tile of a byte of accumulator memory. -/
def AccGroup.holds (g : AccGroup) (off : Nat) : Bool :=
  let n := ceilDiv g.m 32 * ceilDiv g.n (if g.am = 1 then 64 else 32)
  decide (g.acc ≤ off / 4096 ∧ off / 4096 < g.acc + n)

/-- A double-bit error of an accumulator slot poisons its elements, and sets POIS of a group that holds them (R111). -/
def Pane.strikeAcc (p : Pane) (off : Nat) : Pane :=
  let q := p.setAccBad (off / 4 * 4) 4 true
  { q with accGroups := q.accGroups.map (fun kg => if kg.2.holds off then (kg.1, { kg.2 with pois := true }) else kg) }

/-- A register of a group holds a double-bit error. -/
def Group.strike (g : Group) (r : RegPlace) : Group := { g with struck := g.struck ++ [r] }

/-- An upset of a word of the pane's SRAM (R354): one bit is corrected and counted; two poison the local-store sector or the
accumulator slot, drop the line of a cache, which is fetched again, or wait in a register for the instruction that reads it. Log entry 147 (DESIGN CHOICE). -/
def Device.strike (s : Device) (pane : Nat) (k : Strike) : Device :=
  if !k.double then s.countCorrected pane
  else
    match k.place with
    | .vreg slot lane n => s.modGroup pane slot (·.strike (.v lane n))
    | .sreg slot n => s.modGroup pane slot (·.strike (.s n))
    | .pred slot n => s.modGroup pane slot (·.strike (.p n))
    | .local off => if (s.pane pane).populated off 1 then s.modPane pane (·.setLsPoison (off / 32) true) else s
    | .cached key => s.modPane pane (fun p => { p with cache := p.cache.filter (fun kv => kv.1 / 4 != key / 4) })
    | .code sector => s.modPane pane (fun p => { p with icache := p.icache.filter (· != sector) })
    | .acc off => if off < 262144 then s.modPane pane (·.strikeAcc off) else s

/-- MATRIX_QUEUE_HEAD (R104), after the upsets that the pane's SRAM has met; a cube row that is tested in place, or a row map that
waits for verdicts, holds the queue (R99, Table 16-6). -/
def execMatrixQueueHead (pane : Nat) (s : State) (strikes : List Strike := []) (errors : List CubeError := []) (parts : Nat := 0) :
    Host.Outcome State Fault Refusal :=
  onDevice s fun s =>
  let s := strikes.foldl (fun t k => t.strike pane k) s
  if !s.paneRuns pane || s.queueHeld pane then .next s
  else
    match (s.pane pane).mq with
    | [] => .next s
    | e :: _ => .next ((s.runSome pane parts e).getD (s.runHead pane errors e))

end Sys2Proof.Machine
end

