-- ==== Sys2Proof/Machine/RemoteIssue.lean ====
section
/-! DEFINITION. The remote class at issue (R91, R92, R110, R119, R207–R211, R221, Tables 04-13, 04-14). -/

namespace Sys2Proof.Machine

/-! ## Fields of Table 04-13 -/

def Ctx.rSz (x : Ctx) : Nat := fld x.w 48 3
def Ctx.rOrd (x : Ctx) : Nat := fld x.w 51 2
def Ctx.rBlk (x : Ctx) : Bool := bit x.w 53
def Ctx.rAccSrc (x : Ctx) : Bool := bit x.w 54
def Ctx.rSgn (x : Ctx) : Bool := bit x.w 55
def Ctx.rLenReg (x : Ctx) : Nat := fld x.w1 4 6
def Ctx.rLctrReg (x : Ctx) : Nat := fld x.w1 10 6
def Ctx.rLce (x : Ctx) : Bool := bit x.w1 16
def Ctx.rRctrReg (x : Ctx) : Nat := fld x.w1 17 6
def Ctx.rRce (x : Ctx) : Bool := bit x.w1 23
def Ctx.rSeqReg (x : Ctx) : Nat := fld x.w1 24 6
def Ctx.rTmo (x : Ctx) : Nat := fld x.w1 30 4
def Ctx.rElt (x : Ctx) : Nat := fld x.w1 34 2
def Ctx.rOp (x : Ctx) : Nat := opOf x.w

/-- Bytes of a lane-form datum: SZ 2 four, 3 eight, 4 sixteen. -/
def Ctx.rSize (x : Ctx) : Nat := if x.rSz = 3 then 8 else if x.rSz = 4 then 16 else 4

def isAmo (op : Nat) : Bool := decide (8 ≤ op)

/-- The check of the words of a remote instruction (R73, R74, R92): the fields that its opcode or form does not use are
zero. -/
def remoteUses (x : Ctx) : Uses :=
  let op := x.rOp
  let n := x.rSize / 4
  let blk := x.rBlk
  let laneRead := !blk && (op == 1 || isAmo op)
  let ok := fld x.w 56 8 == 0 && fld x.w1 0 4 == 0xF && fld x.w1 36 28 == 0
    && (laneRead || x.fD == 0) && (op == 0x0F || x.fC == 0) && (op == 0x09 || op == 0x0A || !x.rSgn)
    && (op != 1 || blk || x.fB == 0) && (blk || x.rLenReg == 0) && (op == 2 || x.rSeqReg == 0)
    && (x.rLce || x.rLctrReg == 0) && (x.rRce || x.rRctrReg == 0) && (!(blk && x.rAccSrc) || decide (x.fB < 64))
  let counters := (if x.rLce then [(x.rLctrReg, 1)] else []) ++ (if x.rRce then [(x.rRctrReg, 2)] else [])
    ++ (if op = 2 then [(x.rSeqReg, 1)] else [])
  if blk then
    { ok, s := [(x.fA, 2)] ++ (if x.rAccSrc then [] else [(x.fB, 1)]) ++ (if op = 3 then [] else [(x.rLenReg, 1)]) ++ counters }
  else
    { ok, v := [(x.fA, 2)] ++ (if op = 1 then [] else [(x.fB, n)]) ++ (if op = 0x0F then [(x.fC, n)] else []), s := counters
      wv := if laneRead then [(x.fD, n)] else [] }

/-! ## Values -/

/-- The fabric address of a lane, or of the block. -/
def Ctx.faddr (x : Ctx) (lane : Nat) : Nat := if x.rBlk then x.g.sWide x.fA 2 else x.g.vWide lane x.fA 2

def faChip (a : Nat) : Nat := fld a 52 12
def faSpace (a : Nat) : Nat := fld a 48 4
def faLocal (a : Nat) : Nat := fld a 0 48

def Ctx.rLen (x : Ctx) : Nat := (x.g.s x.rLenReg).toNat
def Ctx.rLctr (x : Ctx) : Nat := (x.g.s x.rLctrReg).toNat
def Ctx.rRctr (x : Ctx) : Nat := x.g.sWide x.rRctrReg 2
def Ctx.rSeq (x : Ctx) : Nat := (x.g.s x.rSeqReg).toNat
def Ctx.rOff (x : Ctx) : Nat := (x.g.s x.fB).toNat

/-- The accumulator tiles that a block names with ACCSRC = 1. -/
def Ctx.rTiles (x : Ctx) : List Nat := span x.fB (x.fB + x.rLen)

/-! ## Checks at issue (R92, R210) -/

/-- ORD, form, SZ, ELT and ACCSRC rules of R91. -/
def Ctx.remoteForm (x : Ctx) : Bool :=
  let op := x.rOp
  let ordOk := isAmo op || (if op = 1 then decide (x.rOrd ≤ 1) else x.rOrd == 0 || x.rOrd == 2)
  let formOk := if op = 2 ∨ op = 3 then x.rBlk else !(isAmo op && x.rBlk)
  let szOk := if x.rBlk then x.rSz == 0 else decide (2 ≤ x.rSz ∧ x.rSz ≤ (if isAmo op then 3 else 4))
  let eltOk := if op = 2 then x.rElt != 3 else x.rElt == 0
  ordOk && formOk && szOk && eltOk && (!x.rAccSrc || (x.rBlk && (op == 0 || op == 2)))

/-- Length, local offset and tile rules of a block form. Log entry 53 (DEDUCED). -/
def Ctx.remoteLength (x : Ctx) : Bool :=
  if !x.rBlk then true
  else if x.rOp = 3 then x.rLenReg == 0 && !x.rRce
  else if x.rAccSrc then decide (1 ≤ x.rLen ∧ x.fB + x.rLen ≤ 64)
  else x.rLen % 32 == 0 && decide (32 ≤ x.rLen ∧ x.rLen ≤ 3145728) && x.rOff % 32 == 0
    && (x.s.pane x.pane).populated x.rOff x.rLen

/-- Counter rules. -/
def Ctx.remoteCounters (x : Ctx) : Bool :=
  (!x.rLce || (x.rLctr % 8 == 0 && (x.s.pane x.pane).populated x.rLctr 8))
    && (!x.rRce || (x.rRctr % 8 == 0 && decide (faSpace x.rRctr ≤ 1))) && (x.rOp != 2 || x.rRce)

/-- Address rules for a lane, or for the block. -/
def Ctx.remoteAddress (x : Ctx) (lane : Nat) : Bool :=
  let a := x.faddr lane
  let unit := if x.rOp = 3 then 8 else if x.rBlk then 32 else x.rSize
  decide (faSpace a ≤ 1) && !(x.rOp == 2 && faSpace a == 1) && a % unit == 0
    && (!x.rRce || faChip x.rRctr == faChip a)

/-- The lanes that raise the remote exception. -/
def Ctx.remoteBad (x : Ctx) : Mask :=
  if !(x.remoteForm && x.remoteLength && x.remoteCounters) then x.act
  else if x.rBlk then (if x.remoteAddress 0 then 0 else x.act)
  else maskOf ((lanesOf x.act).filter (fun l => !x.remoteAddress l))

/-! ## What a block carries -/

/-- The elements of accumulator tiles in tile-major order: place, bytes of an element, AM and SCALE. A tile is read under
the group that is open over it, or as it was last written. Log entry 29 (DEDUCED). -/
def Pane.tileElements (p : Pane) (tiles : List Nat) : List (Nat × Nat × Nat × Int) :=
  tiles.flatMap (fun t =>
    let (am, scale) := SMap.get p.tmode t (0, 0)
    let e := if am = 1 then 2 else 4
    (List.range (4096 / e)).map (fun i => (4096 * t + e * i, e, am, scale)))

/-- Whether an element of a tile lies outside the M × N footprint of the open group that covers the tile (R257). -/
def Pane.outside (p : Pane) (a n am : Nat) : Bool :=
  let t := a / 4096
  let tn := if am = 1 then 64 else 32
  p.accGroups.any (fun kv =>
    let g := kv.2
    let wide := ceilDiv g.n tn
    let k := t - g.acc
    g.am == am && decide (g.acc ≤ t ∧ t < g.acc + ceilDiv g.m 32 * wide)
      && !decide (32 * (k / wide) + a % 4096 / 128 < g.m ∧ tn * (k % wide) + a % 128 / n < g.n))

/-- The group record that follows the tiles of a put (R110). Log entry 174 (DESIGN CHOICE). -/
def Pane.recordOf (p : Pane) (first : Nat) : Nat :=
  match p.accGroups.find? (fun kv => kv.2.acc == first) with
  | some kv => kv.2.record
  | none => 0xFF

/-- The bytes of a block put, and its poisoned data slots (R110, R111). -/
def Ctx.putData (x : Ctx) : List Byte × List Nat :=
  let p := x.s.pane x.pane
  if x.rAccSrc then
    let a := 4096 * x.fB
    ((List.range (4096 * x.rLen)).map (fun i => SMap.get p.acc (a + i) 0) ++ bytesOf (p.recordOf x.fB) 32,
      (List.range (128 * x.rLen)).filter (fun k => p.accBad (a + 32 * k) 32))
  else
    (p.readLs x.rOff x.rLen, (List.range (x.rLen / 32)).filter (fun k => p.lsPoisoned (x.rOff / 32 + k)))

/-- The element format of ELT. -/
def eltFmt (elt : Nat) : Fmt := if elt = 1 then bf16 else if elt = 2 then fp16 else fp32
def eltBytes (elt : Nat) : Nat := if elt = 0 then 4 else 2

/-- An accumulator element converted to ELT with the drain's rounding at stream site 2 (R110, R138, R142). -/
def Ctx.convertElement (x : Ctx) (index am : Nat) (scale : Int) (bits : Nat) : Nat :=
  let f := eltFmt x.rElt
  let g7 := bit x.l.profile 4
  let y := if am = 2 then (roundVal fp32 .rne (Val.ofInt (sfld bits 0 32))).1 else elementFp32 am scale bits
  if f = fp32 then flush fp32 g7 (canonical fp32 y)
  else
    let rm := if g7 then .rne else drnd x.l.profile x.l.seed 2 (x.faddr 0) (2 ^ 32 * x.rSeq + index)
    flush f g7 (roundOut f rm (bit x.l.profile 2) (fp32.decode y)).1

/-- The elements of a contribution in ELT, with their poison (R221, R257). -/
def Ctx.contribution (x : Ctx) : List (Nat × Bool) :=
  let p := x.s.pane x.pane
  if x.rAccSrc then
    ((p.tileElements x.rTiles).zipIdx).map (fun ei =>
      let (a, n, am, scale) := ei.1
      if p.outside a n am then (0, false) else (x.convertElement ei.2 am scale (p.accBytes a n), p.accBad a n))
  else
    let e := eltBytes x.rElt
    (List.range (x.rLen / e)).map (fun i => (ofBytes (p.readLs (x.rOff + e * i) e), p.lsBad (x.rOff + e * i) e))

/-- The bytes that a block covers at its target. -/
def Ctx.targetBytes (x : Ctx) : Nat :=
  if x.rOp = 2 then
    4 * (if x.rAccSrc then ((x.s.pane x.pane).tileElements x.rTiles).length else x.rLen / eltBytes x.rElt)
  else if x.rAccSrc then 4096 * x.rLen + 32
  else x.rLen

/-! ## Packets -/

/-- The parts of a range by aligned unit. -/
def segmentsOf (unit a len : Nat) : List (Nat × Nat) := cutBy unit a (len / unit + 2) len

/-- A request packet of the instruction with what every packet of it carries (R211, R296). -/
def Ctx.packet (x : Ctx) (type tid taddr : Nat) : Packet :=
  { type, dst := faChip (x.faddr 0), src := x.s.chip, job := (x.s.part x.part).job, tid, ord := x.rOrd,
    rce := x.rRce, space := faSpace (x.faddr 0), taddr := taddr % 2 ^ 48, rctr := if x.rRce then x.rRctr else 0, origin := some x.pane }

/-- The packet of a lane-form operation. -/
def Ctx.lanePacket (x : Ctx) (tid lane : Nat) : Packet :=
  let a := x.faddr lane
  let n := x.rSize / 4
  let op := x.rOp
  let base : Packet := { x.packet 0 tid (faLocal a) with dst := faChip a, space := faSpace a, sz := x.rSz, dlen := 1 }
  let b := bytesOf (x.g.vWide lane x.fB n) x.rSize
  let slot := b ++ List.replicate (16 - b.length) 0
  if op = 0 then { base with type := 1, arg := 1, data := slot ++ List.replicate 16 0 }
  else if op = 1 then { base with type := 2, arg := 1 }
  else
    let c := if op = 0x0F then x.g.vWide lane x.fC n else 0
    { base with type := 3, sgn := x.rSgn, aop := op - 8, data := slot ++ bytesOf c 16 }

/-- The segments of a block put. -/
def Ctx.putPackets (x : Ctx) (tid : Nat) : List Packet :=
  let a := faLocal (x.faddr 0)
  let segs := segmentsOf 512 a x.targetBytes
  let (data, bad) := x.putData
  segs.map (fun on =>
    let k := (on.1 - a) / 32
    { x.packet 1 tid on.1 with
      dlen := on.2 / 32, arg := segs.length, data := (data.drop (on.1 - a)).take on.2,
      poison := (bad.filter (fun i => decide (k ≤ i ∧ i < k + on.2 / 32))).map (· - k) })

/-- The segments of a block get. -/
def Ctx.getPackets (x : Ctx) (tid : Nat) : List Packet :=
  let segs := segmentsOf 512 (faLocal (x.faddr 0)) x.rLen
  segs.map (fun on => { x.packet 2 tid on.1 with dlen := on.2 / 32, arg := segs.length })

/-- The pieces of an accput.ord, each with its first address and segments (R208, R221, R296). -/
def Ctx.piecesOf (x : Ctx) (tid : Nat) : List (Nat × List Packet) :=
  let a := faLocal (x.faddr 0)
  let els := x.contribution
  let e := eltBytes x.rElt
  (segmentsOf 32768 a x.targetBytes).map (fun piece =>
    let segs := segmentsOf 512 piece.1 piece.2
    (piece.1, (segs.zipIdx).map (fun oi =>
      let mine := (els.drop ((oi.1.1 - a) / 4)).take (oi.1.2 / 4)
      { x.packet 4 tid oi.1.1 with
        dlen := ceilDiv (mine.length * e) 32, elt := x.rElt, arg := x.rSeq,
        status := oi.2 + (if oi.2 + 1 = segs.length then 64 else 0),
        data := mine.flatMap (fun v => bytesOf v.1 e),
        poison := (List.range (oi.1.2 / 32)).filter (fun k => ((mine.drop (8 * k)).take 8).any (·.2)) })))

/-! ## Issue -/

/-- The verdicts that a put, accput.ord or ctr.inc waits for: with checked mode on and verify-before-release, every cube
step that is visible now (R119). Log entry 43 (DEDUCED). -/
def Ctx.heldBy (x : Ctx) : List Nat :=
  if x.l.checked && x.l.policy == 0 && (x.rOp == 0 || x.rOp == 2 || x.rOp == 3) then
    ((x.s.pane x.pane).steps ++ (x.s.pane x.pane).redo).map (·.id)
  else []

/-- The operation of a lane, or of the block, with its packets. -/
def Ctx.operation (x : Ctx) (s : Device) (first tid lane : Nat) : RemOp :=
  let op := x.rOp
  let base : RemOp :=
    { tid, part := x.part, pane := x.pane, slot := x.slot, cohort := x.g.cohort, kind := op, faddr := x.faddr lane, lane,
      block := x.rBlk, acquire := x.rOrd % 2 == 1, lsOff := x.rOff, len := if x.rBlk then x.targetBytes else x.rSize,
      lctr := if x.rLce then some x.rLctr else none, deadline := s.now + s.timeoutOf x.part x.rTmo, first,
      held := x.heldBy }
  if !x.rBlk then
    let p := x.lanePacket tid lane
    { base with pkts := [p], todo := [p.taddr], cmp := if op = 0x0F then x.g.vWide lane x.fC (x.rSize / 4) else 0 }
  else if op = 2 then
    let ps := x.piecesOf tid
    { base with todo := ps.map Prod.fst, later := ps.foldl (fun m p => SMap.put m p.1 p.2) [] }
  else
    let ps := if op = 0 then x.putPackets tid
      else if op = 1 then x.getPackets tid
      else [{ x.packet 5 tid (faLocal (x.faddr 0)) with arg := x.rOff }]
    { base with pkts := ps, todo := ps.map (·.taddr) }

/-- The instructions of a pane's queue that have not left it (R207). -/
def Device.queuedInstrs (s : Device) (pane : Nat) : Nat := (distinct ((s.unsent pane).map (·.first))).length

/-- A pane's resend buffer is full, or pieces already wait for it (R223). -/
def Device.resendFull (s : Device) (pane : Nat) : Bool :=
  decide (262144 ≤ s.resendBytes pane) || (s.paneOps pane).any (fun o => !o.later.isEmpty)

/-- What holds a remote instruction at issue (R50, R92, R110, R115, R195, R196, R207, R223, R358). -/
def Ctx.remoteHeld (x : Ctx) : Bool :=
  let p := x.s.pane x.pane
  let op := x.rOp
  let n := if x.rBlk then 1 else laneCount x.act
  x.acquiring || x.checkHeld || (op != 1 && x.releasing) || (decide (2 ≤ x.rOrd) && !x.fenceMet 3)
    || decide (512 < (x.s.paneOps x.pane).length + n) || decide (64 ≤ x.s.queuedInstrs x.pane)
    || (op == 1 && decide (16 ≤ x.outstanding))
    || (x.rBlk && op != 3 && op != 1 && !x.rAccSrc && p.drainPending x.slot (x.rOff, x.rLen))
    || (x.rAccSrc && p.mq.any (fun e => decide (e.mx.op ≤ 1) && e.mx.tileList.any x.rTiles.contains))
    || (op == 2 && x.s.resendFull x.pane)

/-- The transaction tags of the operations of one instruction. -/
def Device.tids (s : Device) (n : Nat) : List Nat :=
  (((List.range (s.fabric.ops.length + n)).map (fun i => (s.fabric.nextTid + i) % 2 ^ 20)).filter
    (fun t => (s.op? t).isNone)).take n

/-- A remote instruction issues (R91, R92, R207). -/
def Ctx.remoteBody (x : Ctx) : Device :=
  if x.act == 0 then x.finish x.s x.g 16
  else if x.remoteBad != 0 then x.raise 0x2A stMalformed x.remoteBad
  else if x.remoteHeld then x.hold
  else
    let lanes := if x.rBlk then [0] else lanesOf x.act
    let tids := x.s.tids lanes.length
    let ops := (lanes.zip tids).map (fun lt => x.operation x.s (tids.headD 0) lt.2 lt.1)
    let reads := !x.rBlk && (x.rOp == 1 || isAmo x.rOp)
    let id := x.s.mem.nextReq
    let l : Load :=
      { id, scalar := false, dst := x.fD, size := x.rSize, acquire := x.rOrd % 2 == 1, remote := true,
        amo := isAmo x.rOp, pc := x.p.pc, lanes := x.act, waiting := tids }
    let g := if reads then { x.g with loads := x.g.loads ++ [l] } else x.g
    let s1 := { x.s with mem := { x.s.mem with nextReq := id + 1 } }
    let out := total (ops.map (fun o => pieceSize o.pkts + total (o.later.map (fun kv => pieceSize kv.2))))
    let s2 := (x.finish s1 g 16).modPane x.pane (fun p =>
      { p with perf := { p.perf with remote := p.perf.remote + ops.length, bytesOut := p.perf.bytesOut + out } })
    ops.foldl Device.launchOp s2

/-- A remote instruction of one opcode. -/
def remoteOp (op pane slot : Nat) (w0 w1 : DWord) (s : Device) : Host.Outcome Device Fault Refusal :=
  krycha 16 (isWord 0xB [op]) remoteUses Ctx.remoteBody pane slot w0.toNat w1.toNat s

def execPut (pane slot : Nat) (w0 w1 : DWord) (s : State) : Host.Outcome State Fault Refusal := onDevice s fun s => remoteOp 0x00 pane slot w0 w1 s
def execGet (pane slot : Nat) (w0 w1 : DWord) (s : State) : Host.Outcome State Fault Refusal := onDevice s fun s => remoteOp 0x01 pane slot w0 w1 s
def execAccputOrd (pane slot : Nat) (w0 w1 : DWord) (s : State) : Host.Outcome State Fault Refusal := onDevice s fun s =>
  remoteOp 0x02 pane slot w0 w1 s
def execCtrInc (pane slot : Nat) (w0 w1 : DWord) (s : State) : Host.Outcome State Fault Refusal := onDevice s fun s => remoteOp 0x03 pane slot w0 w1 s
def execAmoAdd (pane slot : Nat) (w0 w1 : DWord) (s : State) : Host.Outcome State Fault Refusal := onDevice s fun s => remoteOp 0x08 pane slot w0 w1 s
def execAmoMin (pane slot : Nat) (w0 w1 : DWord) (s : State) : Host.Outcome State Fault Refusal := onDevice s fun s => remoteOp 0x09 pane slot w0 w1 s
def execAmoMax (pane slot : Nat) (w0 w1 : DWord) (s : State) : Host.Outcome State Fault Refusal := onDevice s fun s => remoteOp 0x0A pane slot w0 w1 s
def execAmoAnd (pane slot : Nat) (w0 w1 : DWord) (s : State) : Host.Outcome State Fault Refusal := onDevice s fun s => remoteOp 0x0B pane slot w0 w1 s
def execAmoOr (pane slot : Nat) (w0 w1 : DWord) (s : State) : Host.Outcome State Fault Refusal := onDevice s fun s => remoteOp 0x0C pane slot w0 w1 s
def execAmoXor (pane slot : Nat) (w0 w1 : DWord) (s : State) : Host.Outcome State Fault Refusal := onDevice s fun s => remoteOp 0x0D pane slot w0 w1 s
def execAmoExch (pane slot : Nat) (w0 w1 : DWord) (s : State) : Host.Outcome State Fault Refusal := onDevice s fun s => remoteOp 0x0E pane slot w0 w1 s
def execAmoCas (pane slot : Nat) (w0 w1 : DWord) (s : State) : Host.Outcome State Fault Refusal := onDevice s fun s => remoteOp 0x0F pane slot w0 w1 s
def execAmoTset (pane slot : Nat) (w0 w1 : DWord) (s : State) : Host.Outcome State Fault Refusal := onDevice s fun s => remoteOp 0x10 pane slot w0 w1 s

end Sys2Proof.Machine
end

