-- ==== Sys2Proof/Machine/Update.lean ====
section
/-! DEFINITION. The weight update in the sill: control blocks, DONE cells, the verdict and the close, the optimisers, the
commit and the stall (R242–R253). -/

namespace Sys2Proof.Machine

def Device.modStep (s : Device) (part : Nat) (f : StepSt → StepSt) : Device :=
  s.modPart part (fun x => { x with step := f x.step })

/-- The expected step of a partition (OD 0x7110.04). -/
def Device.expected (s : Device) (part : Nat) : Nat := s.odGet part 0x7110 4

/-- A partition whose update engine runs: it exists and is not fenced (R389). -/
def Device.updates (s : Device) (part : Nat) : Bool :=
  (s.part part).state != .absent && (s.part part).fence == .none

/-! ## Agreeing on a step (R242–R244) -/

/-- The cause bits of a shard's plane of one parity. -/
def Shard.cause (k : Shard) (parity : Nat) : Nat := if parity = 0 then k.causeE else k.causeO

/-- The control block of the expected step, if its STEP has been written (R242). -/
def Device.controlBlock (s : Device) (part : Nat) : Option Nat :=
  let a := s.odGet part 0x7110 1
  let n := s.expected part
  if a = 0 then none
  else
    match s.readVa part (a + 64 * (n % 2)) 64 with
    | .error _ => none
    | .ok b => if ofBytes b % 2 ^ 64 = n then some (ofBytes b) else none

/-- The fields of a control block that Table 10-3 admits. -/
def controlBlockOk (b : Nat) : Bool := posFinite (fld b 64 32) && fld b 96 32 != 0 && fld b 129 383 == 0

/-- A control block is captured: LRM, T and VETO, a bad field counting as a veto (R242). -/
def Device.capture (s : Device) (part b : Nat) : Device :=
  let ok := controlBlockOk b
  let t := s.modStep part (fun x => { x with
    captured := true, lrm := BitVec.ofNat 32 (fld b 64 32), t := fld b 96 32, veto := bit b 128 || !ok })
  if ok then t else t.raisePart part 0x7001 2 [(s.expected part, 8)]

/-- Log entry 90 (DEDUCED). -/
def execControlBlockCapture (part : Nat) (s : State) : Host.Outcome State Fault Refusal := onDevice s fun s =>
  if !s.updates part || (s.part part).step.captured then .next s
  else
    match s.controlBlock part with
    | none => .next s
    | some b => .next ((s.sawVa part (s.odGet part 0x7110 1 + 64 * (s.expected part % 2)) 64).capture part b)

/-- The pool address of a virtual address of a shard. -/
def Partition.poolAt (x : Partition) (va : Nat) : Nat × Nat :=
  match x.mapping? va with
  | some m => (m.pool, m.poff + (va - m.va))
  | none => (0, 0)

/-- The virtual address of a shard's gradient plane of one parity (Table 10-2). -/
def gradientPlane (d parity : Nat) : Nat := shardBase d + 8 * shardN d + 4 * shardN d * parity

/-- A shard is complete for a step once the order word of each of its ranges has reached the step's count (R240). -/
def Device.shardComplete (s : Device) (part : Nat) (k : Shard) (step : Nat) : Bool :=
  let x := s.part part
  (List.range (fld k.desc 64 19)).all (fun i =>
    let a := x.poolAt (gradientPlane k.desc (step % 2) + 32768 * i)
    decide ((s.nextOf (rangeKey part a.1 a.2) + 2 ^ 32 - (step / 2 + 1) * fld k.desc 96 16 % 2 ^ 32) % 2 ^ 32 < 2 ^ 31))

/-- The key of a DONE cell held: its step and its origin. Log entry 87 (DESIGN CHOICE). -/
def doneKey (step chip : Nat) : Nat := step * 4096 + chip

/-- The verdict of the expected step is formed once a DONE cell of every chip of the job is held (R244). Log entry 86 (DEDUCED). -/
def Device.formVerdict (s : Device) (part : Nat) : Device :=
  let x := s.part part
  let got := (s.jobChips part).filterMap (fun c => SMap.find x.step.done (doneKey (s.expected part) c))
  if x.step.verdict.isSome || !x.step.doneSent || got.length < (s.jobChips part).length then s
  else
    let cause := got.foldl (fun c d => c ||| d.1) 0
    let close := greatest (got.map Prod.snd) + 1000 * x.margin.getD (s.odGet part 0x7110 7)
    let t := s.modStep part (fun y => { y with verdict := some (cause, close) })
    if close < s.now then t.odCount part 0x7130 6 0 1 else t

/-- A DONE cell of a chip, this one included; cells of a step that is behind are not kept. -/
def Device.recordDone (s : Device) (part step chip cause sent : Nat) : Device :=
  if step < s.expected part then s
  else (s.modStep part (fun y => { y with done := SMap.put y.done (doneKey step chip) (cause, sent) })).formVerdict part

def execChipDone (part : Nat) (s : State) : Host.Outcome State Fault Refusal := onDevice s fun s =>
  let x := s.part part
  let n := s.expected part
  if !s.updates part || !x.step.captured || x.step.doneSent || !x.shards.all (fun kd => s.shardComplete part kd.2 n) then
    .next s
  else
    let cause := x.shards.foldl (fun c kd => c ||| kd.2.cause (n % 2)) (if x.step.veto then 4 else 0)
    let c := { s.ownCell part 0x10 n with cause }
    let t := (s.modStep part (fun y => { y with doneSent := true })).floodCell c
    .next (t.recordDone part n s.chip cause s.now)

def execDoneCell (door : Nat) (c : SyncCell) (s : State) : Host.Outcome State Fault Refusal := onDevice s fun s =>
  cellRow (fun c => c.skind == 0x10) door c s (fun t part c =>
    if t.updates part then t.recordDone part c.step c.origin (c.cause % 8) c.txtime else t)

/-! ## The close (R244, R251) -/

/-- KLS and RUN after a close, and the counter of OD 0x7130 that it raises (R251). -/
def lossScale (cause growth : Nat) (kls : Int) (run : Nat) : Int × Nat × Nat :=
  if bit cause 0 then (max (kls - 1) (-64), 0, 2)
  else if cause = 0 then
    if growth != 0 && run + 1 == growth then (min (kls + 1) 64, 0, 1) else (kls, min (run + 1) (2 ^ 32 - 1), 1)
  else (kls, run, if bit cause 1 then 3 else 4)

def execStepClose (part : Nat) (s : State) : Host.Outcome State Fault Refusal := onDevice s fun s =>
  let x := s.part part
  match x.step.verdict with
  | none => .next s
  | some (cause, close) =>
    if !s.updates part || x.step.closed || s.now < close then .next s
    else
      let kls := s.odInt part 0x7110 5
      let r := lossScale cause (s.odGet part 0x7110 6) kls (s.odGet part 0x7110 8)
      let t := s.odCount part 0x4081 0 0 1
      let t := (t.odSet part 0x7110 5 0 (ofInt 64 r.1)).odSet part 0x7110 8 0 r.2.1
      let t := t.odCount part 0x7130 r.2.2 0 1
      let t := t.modPart part (fun x => { x with margin := some (s.odGet part 0x7110 7) })
      .next (t.modStep part (fun y => { y with closed := true, kls, seed := s.odGet part 0x7000 3 }))

/-! ## Binary32 expressions (R246) -/

/-- A value rounded once to binary32. -/
def r32 (v : Val) : Val := fp32.decode (roundVal fp32 .rne v).1

def mul32 (a b : Val) : Val := r32 (a.mul b)
def add32 (a b : Val) : Val := r32 (a.add .rne b)

/-- The correctly rounded quotient. -/
def div32 : Val → Val → Val
  | .nan, _ => .nan
  | _, .nan => .nan
  | .inf _, .inf _ => .nan
  | .inf a, .fin b _ _ => .inf (a != b)
  | .fin a _ _, .inf b => .fin (a != b) 0 0
  | .fin a m1 e1, .fin b m2 e2 =>
    if m2 = 0 then (if m1 = 0 then .nan else .inf (a != b))
    else if m1 = 0 then .fin (a != b) 0 0
    else
      let k := Nat.log2 m2 + 28
      fp32.decode (roundFin fp32 .rne (a != b) (m1 * 2 ^ k / m2) (e1 - e2 - k) (m1 * 2 ^ k % m2 != 0)).1

def sqrt32 (v : Val) : Val := fp32.decode (sqroot fp32 .rne v).1

def one32 : Val := .fin false 1 0

/-- The bits of a binary32 value. -/
def bits32 (v : Val) : Nat := (roundVal fp32 .rne v).1

/-- pow of R246: square and multiply. -/
def pow32 (b : Val) (t : Nat) : Val :=
  (List.range 32).foldl (fun r i => if bit t (31 - i) then mul32 (mul32 r r) b else mul32 r r) one32

/-- sign of R246. -/
def signVal : Val → Val
  | .nan => .nan
  | .inf n => .fin n 1 0
  | .fin n m _ => if m = 0 then .fin false 0 0 else .fin n 1 0

/-! ## The optimisers (R246, R247) -/

/-- What a shard's update takes from its descriptor, the control block and the step. -/
structure Optim where
  desc : Nat
  step : Nat
  seed : Nat
  kls  : Int
  lr   : Val
  c1   : Val
  c2   : Val
  deriving DecidableEq, Repr

/-- A binary32 field of a shard descriptor. -/
def descVal (d lo : Nat) : Val := fp32.decode (fld d lo 32)

def optimOf (d step seed : Nat) (kls : Int) (lrm : Word) (t : Nat) : Optim :=
  { desc := d, step, seed, kls, lr := mul32 (descVal d 160) (fp32.decode lrm.toNat),
    c1 := add32 one32 (pow32 (descVal d 192) t).neg, c2 := add32 one32 (pow32 (descVal d 224) t).neg }

/-- The rounding of plane code p of element i (R247). -/
def Optim.rm (o : Optim) (i p : Nat) : Rm :=
  if bit o.desc 116 then .sr (srBits o.seed 3 (fld o.desc 128 32 * 2 ^ 32 + i) (o.step % 2 ^ 56 * 256 + p)) else .rne

/-- to_bf16 of R246. -/
def Optim.narrow (o : Optim) (v : Val) (i p : Nat) : Nat := (roundVal bf16 (o.rm i p) v).1

/-- direction of R246: the direction and the new M1 and M2. -/
def Optim.direction (o : Optim) (i : Nat) (g : Val) (m1 m2 : Nat) : Val × Nat × Nat :=
  let b1 := descVal o.desc 192
  let b2 := descVal o.desc 224
  let a := bf16.decode m1
  let blend (b x y : Val) : Val := add32 (mul32 b x) (mul32 (add32 one32 b.neg) y)
  match fld o.desc 112 4 with
  | 0 => (g, m1, m2)
  | 1 =>
    let m := add32 (mul32 b1 a) g
    (m, o.narrow m i 2, m2)
  | 2 =>
    let m := blend b1 a g
    let v := blend b2 (bf16.decode m2) (mul32 g g)
    (div32 (div32 m o.c1) (add32 (sqrt32 (div32 v o.c2)) (descVal o.desc 256)), o.narrow m i 2, o.narrow v i 3)
  | _ => (signVal (blend b1 a g), o.narrow (blend b2 a g) i 2, m2)

/-- One element: H, L, M1, M2 as they stand, and after; d and w for the statistics; and how many of the new pair and moments
are non-finite (R246, R248). -/
structure Element where
  h  : Nat
  l  : Nat
  m1 : Nat
  m2 : Nat
  deriving DecidableEq, Repr

def Optim.update (o : Optim) (i : Nat) (x : Element) (grad : Nat) : Element × Val × Val × Nat :=
  let w := pairVal x.h (sfld x.l 0 16)
  let g := r32 ((gradVal grad).mul (if o.kls < 0 then .fin false (2 ^ o.kls.natAbs) 0 else .fin false 1 (-o.kls)))
  let u := o.direction i g x.m1 x.m2
  let d := (mul32 o.lr (add32 u.1 (mul32 (descVal o.desc 288) w))).neg
  let p := formPair (w.add .rne d) (o.rm i 1)
  let opt := fld o.desc 112 4
  let bad := (pairNonFinite p.1).toNat + (if opt = 0 then 0 else (pairNonFinite u.2.1).toNat)
    + (if opt = 2 then (pairNonFinite u.2.2).toNat else 0)
  ({ h := p.1, l := ofInt 16 p.2, m1 := u.2.1, m2 := u.2.2 }, d, w, bad)

/-- What an update of a shard has done so far: SU, SW, the elements left poisoned and the non-finite results. -/
structure Tally where
  su  : Val := .fin false 0 0
  sw  : Val := .fin false 0 0
  bad : Nat := 0
  nf  : Nat := 0
  deriving DecidableEq, Repr

/-- The sector of 16 elements of a plane, k counted in sectors. -/
def planeSector (x : Partition) (d plane k : Nat) : Nat × Nat := x.poolAt (shardBase d + 2 * shardN d * plane + 32 * k)

/-- The 16 16-bit elements of a sector, and whether it is poisoned. -/
def Device.planeElements (s : Device) (part : Nat) (a : Nat × Nat) : List Nat × Bool :=
  let b := s.bytesAt part a.1 0 a.2 32
  ((List.range 16).map (fun j => ofBytes ((b.drop (2 * j)).take 2)), s.poisonAt part a.1 0 a.2)

/-- The 16 elements of sector k of a shard's planes updated, or left where a sector is poisoned (R248). Log entry 88 (DEDUCED). -/
def Device.updateSector (s : Device) (part : Nat) (o : Optim) (acc : Device × Tally) (k : Nat) : Device × Tally :=
  let t := acc.1
  let x := s.part part
  let sec (p : Nat) := planeSector x o.desc p k
  let h := t.planeElements part (sec 0)
  let l := t.planeElements part (sec 1)
  let m1 := t.planeElements part (sec 2)
  let m2 := t.planeElements part (sec 3)
  if h.2 || l.2 || m1.2 || m2.2 then (t, { acc.2 with bad := acc.2.bad + 16 })
  else
    let ga := x.poolAt (gradientPlane o.desc (o.step % 2) + 64 * k)
    let gb := t.bytesAt part ga.1 0 ga.2 64
    let r := (List.range 16).foldl (fun (r : List Element × Tally) j =>
      let e : Element := { h := h.1.getD j 0, l := l.1.getD j 0, m1 := m1.1.getD j 0, m2 := m2.1.getD j 0 }
      let q := o.update (16 * k + j) e (ofBytes ((gb.drop (4 * j)).take 4))
      let d := q.2.1
      let w := q.2.2.1
      (r.1 ++ [q.1], { r.2 with su := add32 r.2.su (mul32 d d), sw := add32 r.2.sw (mul32 w w), nf := r.2.nf + q.2.2.2 }))
      ([], acc.2)
    let put (t : Device) (p : Nat) (f : Element → Nat) : Device :=
      (t.writeBoth part (sec p).1 (sec p).2 (r.1.flatMap (fun e => bytesOf (f e) 2))).1
    let t := put (put t 0 (·.h)) 1 (·.l)
    let opt := fld o.desc 112 4
    let t := if opt = 0 then t else put t 2 (·.m1)
    let t := if opt = 2 then put t 3 (·.m2) else t
    (t, r.2)

/-- The step's gradient plane of a shard zeroed (R245). -/
def Device.zeroGradient (s : Device) (part d parity : Nat) : Device :=
  let x := s.part part
  let va := gradientPlane d parity
  let len := 4 * shardN d
  match x.cover (va + len) (x.maps.length + 1) va with
  | none => s
  | some maps => (runsOf maps va len).foldl (fun t r => t.zeroRun part (x.poolAt va).1 r) s

/-- The statistics put of a shard (R249, Table 10-4). Log entry 89 (DEDUCED). -/
def Device.putStats (s : Device) (part sill : Nat) (d step : Nat) (y : Tally) : Device :=
  let a := fld d 320 64
  let ratio := sqrt32 (div32 y.su y.sw)
  let slot := bits32 y.su + 2 ^ 32 * bits32 y.sw + 2 ^ 64 * bits32 ratio + 2 ^ 128 * step
  let tid := s.freshTid
  let p : Packet := { type := 1, dst := faChip a, src := s.chip, job := (s.part part).job, tid, dlen := 1, arg := 1,
                      taddr := faLocal a, data := bytesOf slot 32 }
  let o : RemOp := { tid, part, pane := 1000 + sill, slot := 0, cohort := 0, kind := 0, faddr := a, lane := 0, block := true,
                     acquire := false, lsOff := 0, len := 32, lctr := none, deadline := s.now + s.timeoutOf part 0,
                     first := tid, pkts := [p], todo := [p.taddr], stats := true }
  (s.modStep part (fun z => { z with puts := z.puts ++ [tid] })).launchOp o

/-- One shard's work in a step (R245–R249). -/
def Device.updateShard (s : Device) (part sill : Nat) (k : Shard) : Device :=
  let st := (s.part part).step
  let n := s.expected part
  let applied := (st.verdict.map Prod.fst) == some 0
  let o := optimOf k.desc n st.seed st.kls st.lrm st.t
  let r := if applied then (List.range (shardN k.desc / 16)).foldl (s.updateSector part o) (s, {}) else (s, {})
  let t := r.1.zeroGradient part k.desc (n % 2)
  let y := r.2
  let t := (t.odCount part 0x7130 5 0 y.bad).odCount part 0x7130 8 0 y.nf
  let t := t.modStep part (fun z => { z with pelem := z.pelem + y.bad, nfelem := z.nfelem + y.nf })
  let t := if y.bad = 0 then t else t.raisePart part 0x7002 2 [(shardBase k.desc, 8), (n, 8)]
  if applied && fld k.desc 320 64 != 0 then t.putStats part sill k.desc n y else t

/-- The shards of a partition on one sill, in ascending BASE order. -/
def Partition.shardsOn (x : Partition) (sill : Nat) : List Shard :=
  (x.shards.map Prod.snd).filter (fun k => k.sill == sill)

def execSillUpdateDone (part sill : Nat) (s : State) : Host.Outcome State Fault Refusal := onDevice s fun s =>
  let x := s.part part
  if !s.updates part || !x.step.closed || x.step.finished.contains sill || (x.shardsOn sill).isEmpty then .next s
  else
    let t := (x.shardsOn sill).foldl (fun t k => t.updateShard part sill k) s
    .next (t.modStep part (fun z => { z with finished := z.finished ++ [sill] }))

/-! ## Commit (R250) -/

/-- The commit record of Table 10-5. -/
def commitRecord (step cause : Nat) (kls : Int) (run pelem nfelem close now : Nat) : Nat :=
  pack [(step, 64), (cause, 3), (0, 5), (ofInt 8 kls, 8), (0, 16), (run, 32), (min pelem (2 ^ 32 - 1), 32),
        (min nfelem (2 ^ 32 - 1), 32), (close, 64), (now, 64), (0, 192)]

/-- The cause bits of one parity are used up with its step. -/
def Shard.spent (k : Shard) (parity : Nat) : Shard := if parity = 0 then { k with causeE := 0 } else { k with causeO := 0 }

/-- The step in progress becomes the next one; shards that leave go, and the next verdict may already be due. -/
def Device.nextStep (s : Device) (part : Nat) : Device :=
  let n := s.expected part
  let t := s.odSet part 0x7110 4 0 ((n + 1) % 2 ^ 64)
  let t := t.modPart part (fun x => { x with
    shards := x.shards.map (fun kd => (kd.1, kd.2.spent (n % 2)))
    step := { first := x.step.nextFirst, stalled := x.step.nextStalled, done := x.step.done.filter (fun kv => decide (doneKey (n + 1) 0 ≤ kv.1)) } })
  ((t.part part).shards.filter (fun kd => kd.2.leaving.isSome && decide (kd.2.leaveAt ≤ n))).foldl (fun t kd => t.removeShard part kd.1) t

def execStepCommit (part : Nat) (s : State) : Host.Outcome State Fault Refusal := onDevice s fun s =>
  let x := s.part part
  match x.step.verdict with
  | none => .next s
  | some (cause, close) =>
    if !s.updates part || !x.step.closed || !x.step.puts.isEmpty
        || !x.shards.all (fun kd => x.step.finished.contains kd.2.sill) then .next s
    else
      let n := s.expected part
      let r := commitRecord n cause (s.odInt part 0x7110 5) (s.odGet part 0x7110 8) x.step.pelem x.step.nfelem close s.now
      let t := (s.writeVa part (s.odGet part 0x7110 2) (bytesOf r 64)).1
      let t := t.armAt part n
      let t := t.increment part { memory := true, pane := 0, addr := s.odGet part 0x7110 3 } 1 (if cause = 0 then stOk else stVetoed)
      .next ((t.floodCell (t.ownCell part 0x11 n)).nextStep part)

def execCommitCell (door : Nat) (c : SyncCell) (s : State) : Host.Outcome State Fault Refusal := onDevice s fun s =>
  cellRow (fun c => c.skind == 0x11) door c s (fun t _ _ => t)

/-- A step that still lacks its verdict one collective watchdog after its first contribution (R253). -/
def Device.stepStalls (s : Device) (part : Nat) (first : Option Nat) (stalled : Bool) : Bool :=
  match first with
  | none => false
  | some t0 => !stalled && decide (t0 + 1000 * s.odGet part 0x6112 0 ≤ s.now)

/-- UPDATE_STALL of a step, once: the expected one, or the one after it when that has had its first contribution (R252, R253). -/
def execUpdateStall (part : Nat) (s : State) : Host.Outcome State Fault Refusal := onDevice s fun s =>
  let st := (s.part part).step
  let n := s.expected part
  if !s.updates part then .next s
  else if st.verdict.isNone && s.stepStalls part st.first st.stalled then
    .next (((s.odCount part 0x7130 7 0 1).modStep part (fun z => { z with stalled := true })).raisePart part 0x7003 2 [(n, 8)])
  else if s.stepStalls part st.nextFirst st.nextStalled then
    .next (((s.odCount part 0x7130 7 0 1).modStep part (fun z => { z with nextStalled := true })).raisePart part 0x7003 2 [(n + 1, 8)])
  else .next s

end Sys2Proof.Machine
end

