-- ==== Sys2Proof/Machine/Snapshots.lean ====
section
/-! DEFINITION. Snapshots and restart (R397–R416): the leader's TAKE, the drain to the buddy, the copies kept as a buddy, retracts,
restores and held copies. -/

namespace Sys2Proof.Machine

/-! ## TAKE (R399, R400, R408) -/

/-- A TAKE reaches this chip: its part fails if the step has been committed, and is else decided at the commit (R400). Log entry 107 (DEDUCED). -/
def Device.takeReceived (s : Device) (part id step : Nat) : Device :=
  if step < s.expected part then s.failUnarmed part id step stLate
  else s.modSnap part (fun x => { x with takes := x.takes ++ [(id, step, s.now)] })

/-- The next id: above every id of OD 0xA020, and of the TAKEs not yet decided. -/
def Partition.nextSnapId (x : Partition) : Nat :=
  Nat.max (greatest (x.snap.rows.map (·.id))) (greatest (x.snap.takes.map Prod.fst)) + 1

/-- The leader floods a TAKE for the step after next, and takes it itself (R399). -/
def Device.sendTake (s : Device) (part : Nat) : Device :=
  let id := (s.part part).nextSnapId % 2 ^ 32
  let step := (s.expected part + 2) % 2 ^ 62
  let c := s.ownCell part 0x12 (markStep 0 step)
  let t := s.modSnap part (fun x => { x with nextTake := none })
  (t.floodCell { c with payload := id }).takeReceived part id step

/-- SNAPSHOT_TAKE_SEND (R408). -/
def execSnapshotTakeSend (part : Nat) (s : State) : Host.Outcome State Fault Refusal := onDevice s fun s =>
  let due := (s.part part).snap.nextTake.any (fun t => decide (t ≤ s.now))
  .next (if due && s.leads part && (s.part part).state != .absent && s.odGet part 0xA000 1 == 1 then s.sendTake part else s)

/-- SNAPSHOT_NOW (R408). -/
def execSnapshotNow (m : TMsg) (s : State) : Host.Outcome State Fault Refusal := onDevice s fun s =>
  actionRow 0xA010 (fun _ => true) m s (atOnce (fun t part _ =>
    if !t.leads part then (t, stAccess)
    else if (t.part part).armed then (t, stResource)
    else (t.sendTake part, stOk)))

/-- Whether the payload of a mark is zero outside the fields of its kind (Table 18-1). -/
def markClear (c : SyncCell) : Bool :=
  match markKind c with
  | 0 => c.payload / 2 ^ 32 == 0
  | 1 => c.payload / 2 ^ 136 == 0
  | _ => c.payload % 2 ^ 136 == 0 && c.payload / 2 ^ 216 == 0

/-- A SNAPMARK cell of a kind. -/
def isMark (kind : Nat) (c : SyncCell) : Bool := c.skind == 0x12 && markKind c == kind && markClear c && c.cause == 0

/-- SNAPMARK_TAKE (R400). -/
def execSnapmarkTake (door : Nat) (c : SyncCell) (s : State) : Host.Outcome State Fault Refusal := onDevice s fun s =>
  cellRow (isMark 0) door c s (fun t part c => t.takeReceived part (markId c) (c.step % 2 ^ 62))

/-- SNAPSHOT_ARM_TIMEOUT: no commit of the step within OD 0x6112 of the TAKE (R400). -/
def execSnapshotArmTimeout (part : Nat) (s : State) : Host.Outcome State Fault Refusal := onDevice s fun s =>
  let late := (s.part part).snap.takes.filter (fun k => decide (k.2.2 + 1000 * s.odGet part 0x6112 0 ≤ s.now))
  .next (late.foldl (fun t k => t.failUnarmed part k.1 k.2.1 stLate) s)

/-! ## The drain (R401, R405) -/

/-- The row of the ARMED snapshot. -/
def Partition.armedRow (x : Partition) : Option SnapRow := x.snap.rows.find? (·.state == 0)

/-- SNAPSHOT_DRAIN_BLOCK: the next block in ascending pool address goes to the buddy with its digest, from its first-touch copy
where there is one (R405). Log entry 110 (DEDUCED). -/
def execSnapshotDrainBlock (part : Nat) (s : State) : Host.Outcome State Fault Refusal := onDevice s fun s =>
  let x := s.part part
  match x.armedRow, x.snap.todo with
  | some row, key :: rest =>
    let pool := key / 2 ^ 27
    let block := key % 2 ^ 27
    let data := (SMap.find x.snap.copied key).getD (s.blockBytes part pool block)
    let t := s.modSnap part (fun y => { y with todo := rest, sent := SMap.put y.sent key s.now })
    let t := if (SMap.find x.snap.copied key).isSome then t else t.serve part 0 32768 0
    .next ((t.serve part 1 32768 0).emit (.snapBlock row.buddy x.job row.id x.snap.armed pool block data (Config.sha3 data)))
  | _, _ => .next s

/-- SNAPSHOT_BLOCK_ACK: the block is done and its first-touch copy freed; a buddy without room fails the part (R405, R406). -/
def execSnapshotBlockAck (part pool block status : Nat) (s : State) : Host.Outcome State Fault Refusal := onDevice s fun s =>
  let x := s.part part
  let key := blockKey pool (block * 32768)
  if !x.armed || (SMap.find x.snap.sent key).isNone then .next s
  else if status != stOk then .next (s.failArmed part status)
  else .next (s.modSnap part (fun y => { y with sent := SMap.del y.sent key, copied := SMap.del y.copied key }))

/-- SNAPSHOT_BLOCK_TIMEOUT (R405). -/
def execSnapshotBlockTimeout (part pool block : Nat) (s : State) : Host.Outcome State Fault Refusal := onDevice s fun s =>
  let late := (SMap.find (s.part part).snap.sent (blockKey pool (block * 32768))).any (fun t =>
    decide (t + 1000 * s.odGet part 0x6111 0 ≤ s.now))
  .next (if late then s.failArmed part stTimeout else s)

/-- SNAPSHOT_DRAIN_END: every block is acknowledged (R401). -/
def execSnapshotDrainEnd (part : Nat) (s : State) : Host.Outcome State Fault Refusal := onDevice s fun s =>
  let x := s.part part
  match x.armedRow with
  | none => .next s
  | some row =>
    if !x.snap.todo.isEmpty || !x.snap.sent.isEmpty then .next s
    else
      let d := s.drainCost
      let t := d.2.modSnap part (fun y => { y.stopDrain with
        rows := y.rows.map (fun r => if r.id = row.id && r.state == 0 then { r with state := 1, cost := d.1 } else r) })
      .next (t.sendTaken part row.id row.step row.tarm d.1 stOk)

/-- SNAPMARK_TAKEN (R401). -/
def execSnapmarkTaken (door : Nat) (c : SyncCell) (s : State) : Host.Outcome State Fault Refusal := onDevice s fun s =>
  cellRow (isMark 1) door c s (fun t part c => t.recordTaken part c.origin (markId c) (markTarm c) (markCost c) (markStatus c))

/-! ## The buddy (R404, R406) -/

/-- The bytes of the reserve that are taken: first-touch copies, and the copies of other chips with their digests. -/
def Partition.reserveUsed (x : Partition) : Nat :=
  x.snap.copied.length * 32768 + total (x.snap.copies.map (fun c => c.blocks.length * 32832))

/-- A copy with a block. -/
def BuddyCopy.addBlock (c : BuddyCopy) (key : Nat) (data : List Byte) (digest : BitVec 512) : BuddyCopy :=
  { c with blocks := SMap.put c.blocks key data, digest := SMap.put c.digest key digest }

/-- A block stored in the buddy's reserve, or the status that refuses it: one copy of an origin is in progress at a time, and the
reserve has an end (R406). -/
def Device.keepBlock (s : Device) (part origin id : Nat) (head : SnapHeader) (key : Nat) (data : List Byte) (digest : BitVec 512) :
    Device × Nat :=
  let x := s.part part
  let mine (c : BuddyCopy) : Bool := c.origin == origin && c.id == id
  if x.snap.copies.any (fun c => c.origin == origin && c.state == 0 && c.id != id)
      || x.snap.copies.any (fun c => mine c && c.state != 0)
      || decide (fld x.desc 80 16 * 2 ^ 30 < x.reserveUsed + 32832) then (s, stResource)
  else
    let old : BuddyCopy := { origin, id, state := 0, head }
    let copies := if x.snap.copies.any mine then x.snap.copies else x.snap.copies ++ [old]
    (s.modSnap part (fun y => { y with copies := copies.map (fun c => if mine c then c.addBlock key data digest else c) }), stOk)

/-- SNAPSHOT_BLOCK_RECEIVE (R406): for the partition of the job, from a chip of its set. -/
def execSnapshotBlockReceive (job origin snapid : Nat) (head : SnapHeader) (pool block : Nat) (data : List Byte) (digest : BitVec 512)
    (s : State) : Host.Outcome State Fault Refusal := onDevice s fun s =>
  match s.jobPart? job with
  | none => .next s
  | some part =>
    if !s.inJobSet part origin || s.takenVerdict part snapid == some 3 then .next s
    else
      let r := s.keepBlock part origin snapid head (blockKey pool (block * 32768)) data digest
      .next (r.1.emit (.snapAck origin job pool block r.2))

/-! ## Retracts (R363, R409) -/

/-- SNAPMARK_RETRACT. -/
def execSnapmarkRetract (door : Nat) (c : SyncCell) (s : State) : Host.Outcome State Fault Refusal := onDevice s fun s =>
  cellRow (isMark 2) door c s (fun t part c => t.applyRetract part c.origin (c.step % 2 ^ 62))

/-! ## Restore (R410–R412) -/

def restId (d : Nat) : Nat := fld d 0 32
def restOrigin (d : Nat) : Nat := fld d 32 12
def restSource (d : Nat) : Nat := fld d 48 12
def restReplica (d : Nat) : Nat := fld d 64 12
def restCheck (d : Nat) : Nat := fld d 80 12

/-- The ranges and RSV fields of a restore descriptor (Table 18-3). -/
def Device.restoreOk (s : Device) (d : Nat) : Bool :=
  fld d 44 4 == 0 && fld d 60 4 == 0 && fld d 76 4 == 0 && fld d 92 36 == 0 && restOrigin d != 0xFFF && restSource d != 0xFFF
    && restSource d != s.chip && (restReplica d == 0xFFF || restCheck d != 0xFFF)

/-- Whether a pool of the copy is missing or smaller here. -/
def Device.poolsFit (s : Device) (part : Nat) (pools : List (Nat × Nat)) : Bool :=
  pools.all (fun ps => (s.pool? part ps.1).any (fun p => decide (ps.2 ≤ p.size)))

/-- The first status of R410 that refuses a restore, or OK. -/
def Device.restoreStatus (s : Device) (part d : Nat) (src : RestoreSource) : Nat :=
  let x := s.part part
  if !s.restoreOk d then stMalformed
  else if x.fence == .none || x.snap.restore.isSome || x.armed then stResource
  else if !s.routed (restSource d) || (restReplica d != 0xFFF && !s.routed (restCheck d)) then stTranslation
  else if !(src.complete || src.invalid) || !s.poolsFit part src.pools then stResource
  else if src.invalid then stRetracted
  else stOk

/-- A restore ends with a status. -/
def Device.endRestore (s : Device) (part status : Nat) : Device :=
  match (s.part part).snap.restore with
  | none => s
  | some m =>
    (s.modSnap part (fun x => { x with restore := none, restSrc := none, restTodo := [] })).finishAction part m status

/-- Every covered block is written: order words, step, KLS and RUN follow the snapshot, and refusals are lifted (R412). -/
def Device.restored (s : Device) (part : Nat) (src : RestoreSource) : Device :=
  let order := s.mem.order.filter (fun kv => !src.pools.any (fun ps => rangeOfPool part ps.1 kv.1))
  let t := { s with mem := { s.mem with order } }
  let t := ((t.odSet part 0x7110 4 0 ((src.step + 1) % 2 ^ 64)).odSet part 0x7110 5 0 (ofInt 64 src.kls)).odSet part 0x7110 8 0 (src.run % 2 ^ 32)
  let t := t.modPart part (fun x => { x with refused := [] })
  (t.odCount part 0xA050 4 0 1).endRestore part stOk

/-- The blocks of a restore are asked for (R410). -/
def Device.fetchCopies (s : Device) (part d : Nat) : Device :=
  let job := (s.part part).job
  let t := s.emit (.fetchCopy (restSource d) job (restOrigin d) (restId d))
  if restReplica d = 0xFFF then t else t.emit (.fetchCopy (restCheck d) job (restReplica d) (restId d))

/-- SNAPSHOT_RESTORE: the shards are deregistered at once, since the fence has ended the step (R238, R412). -/
def execSnapshotRestore (m : TMsg) (src : RestoreSource) (s : State) : Host.Outcome State Fault Refusal := onDevice s fun s =>
  actionRow 0xA030 (fun _ => true) m s (fun t part m =>
    let d := ofBytes m.value
    let st := t.restoreStatus part d src
    if st != stOk then (t, some st)
    else
      let u := (t.part part).shards.foldl (fun u kd => u.removeShard part kd.1) t
      let u := u.modSnap part (fun x => { x with restore := some m, restSrc := some src, restTodo := src.blocks, restTime := t.now })
      let u := u.fetchCopies part d
      (if src.blocks.isEmpty then u.restored part src else u, none))

/-- The bytes of a block as a restore that fails leaves them: undefined (R410). -/
def Device.undefineBlock (s : Device) (part draw key : Nat) : Device :=
  let pool := key / 2 ^ 27
  (List.range 1024).foldl (fun t i =>
    let off := key % 2 ^ 27 * 32768 + 32 * i
    let data := (List.range 32).map (fun j => Config.undefinedByte draw (memKey part pool 0 (off + j)))
    (t.copies part pool).foldl (fun u c =>
      (u.putBytes part pool c off data).setPoison part pool c off (Config.undefinedPoison draw (sectorKey part pool c off))) (t.flushPartners part pool off)) s

/-- A restore that failed after it began to write: the covered memory is undefined (R410). Log entry 111 (DEDUCED). -/
def Device.failRestore (s : Device) (part status : Nat) : Device :=
  match (s.part part).snap.restSrc with
  | none => s
  | some src =>
    let d := s.draw
    (src.blocks.foldl (fun t k => t.undefineBlock part d.1 k) d.2).endRestore part status

/-- RESTORE_BLOCK_RECEIVE: the digest agrees with the stored one and, where CORIG is given, with the replica's (R411). -/
def execRestoreBlockReceive (part pool block : Nat) (data : List Byte) (stored : BitVec 512) (replica : Option (BitVec 512)) (s : State) :
    Host.Outcome State Fault Refusal := onDevice s fun s =>
  let x := s.part part
  let key := blockKey pool (block * 32768)
  match x.snap.restore, x.snap.restSrc with
  | some m, some src =>
    if !x.snap.restTodo.contains key || data.length != 32768 then .next s
    else
      let digest := Config.sha3 data
      let agrees := digest == stored && (restReplica (ofBytes m.value) == 0xFFF || replica == some digest)
      if !agrees then .next (s.failRestore part stPoison)
      else
        let t := (s.writePool part pool (block * 32768) data).1
        let todo := x.snap.restTodo.filter (· != key)
        let t := t.modSnap part (fun y => { y with restTodo := todo, restTime := s.now })
        .next (if todo.isEmpty then t.restored part src else t)
  | _, _ => .next s

/-- RESTORE_BLOCK_TIMEOUT (R410). -/
def execRestoreBlockTimeout (part : Nat) (s : State) : Host.Outcome State Fault Refusal := onDevice s fun s =>
  let x := s.part part
  .next (if x.snap.restore.isSome && decide (x.snap.restTime + 1000 * s.odGet part 0x6111 0 ≤ s.now) then s.failRestore part stTimeout else s)

/-! ## Holding a copy (R414) -/

/-- The bytes of a copy's image. -/
def BuddyCopy.imageBytes (c : BuddyCopy) : Nat := imageDigests c.head.pools + 64 * c.digest.length

/-- The read-only mapping of a copy's image. -/
def BuddyCopy.imageMap (c : BuddyCopy) (va : Nat) : Mapping :=
  { va, psz := gib, count := ceilDiv c.imageBytes gib, write := false, view := 0, kind := 2, owner := c.origin, queue := c.id }

/-- A mapping of the image of a copy. -/
def Mapping.isImage (m : Mapping) (origin id : Nat) : Bool := m.kind == 2 && m.owner == origin && m.queue == id

/-- The copies of an origin that stay once one is no longer held: the latest COMPLETE one, one in progress, and held ones
(R406, R409). -/
def keptCopies (copies : List BuddyCopy) : List BuddyCopy :=
  copies.filter (fun c => c.held != 0 || c.state == 0
    || (c.state == 2 && !copies.any (fun d => d.origin == c.origin && d.state == 2 && decide (c.id < d.id))))

/-- SNAPSHOT_HOLD. Log entry 112 (DEDUCED). -/
def execSnapshotHold (m : TMsg) (s : State) : Host.Outcome State Fault Refusal := onDevice s fun s =>
  actionRow 0xA040 (fun _ => true) m s (atOnce (fun t part m =>
    let d := ofBytes m.value
    let id := fld d 0 32
    let origin := fld d 32 12
    let va := fld d 64 57
    let x := t.part part
    let others := x.maps.filter (fun k => !k.isImage origin id)
    if fld d 44 20 != 0 || fld d 121 7 != 0 || va % gib != 0 || decide (2 ^ 48 ≤ va) then (t, stMalformed)
    else
      match x.snap.copies.find? (fun c => c.origin == origin && c.id == id) with
      | none => (t, stResource)
      | some c =>
        if va = 0 then
          let copies := keptCopies (x.snap.copies.map (fun k => if k.origin = origin && k.id == id then { k with held := 0 } else k))
          (t.setPart part { x with maps := others, snap := { x.snap with copies } }, stOk)
        else
          let map := c.imageMap va
          if 2 ^ 48 < va + gib * map.count then (t, stMalformed)
          else if c.state != 2 || others.any (fun k => k.meets (va, gib * map.count)) then (t, stResource)
          else
            let copies := x.snap.copies.map (fun k => if k.origin = origin && k.id == id then { k with held := va } else k)
            (t.setPart part { x with maps := others ++ [map], snap := { x.snap with copies } }, stOk)))

end Sys2Proof.Machine
end

