-- ==== Sys2Proof/Machine/Power.lean ====
section
/-! DEFINITION. Power, heat and standby (R417–R427): the applied voltage, the cap, the thermal ceilings, trips and the thermal
shutter, idling, and the shuttered states. -/

namespace Sys2Proof.Machine

def Device.modPower (s : Device) (f : PowerSt → PowerSt) : Device := { s with power := f s.power }

/-- The core rails are on: stage 7 of the start has come, and no shuttered state holds (Table 20-6, R425). -/
def Device.railsOn (s : Device) : Bool := decide (7 ≤ s.boot.stage) && s.boot.state != 4 && decide (s.power.state < 2)

/-! ## The applied voltage and the cap (R417, R419, R420) -/

/-- A voltage one step of 5 mV nearer to its target. -/
def slewed (v target : Nat) : Nat :=
  if v < target then min target (v + 5) else Nat.max target (v - 5)

/-- VOLTAGE_SLEW_STEP. -/
def execVoltageSlewStep (sash : Nat) (s : State) : Host.Outcome State Fault Refusal := onDevice s fun s =>
  if 2 ≤ sash || !s.railsOn || (s.sash sash).off then .next s
  else .next (s.modSash sash (fun x => { x with applied := slewed x.applied (s.target sash) }))

/-- The cap reduction after a period of some mean input power (R419). -/
def PowerSt.adjust (p : PowerSt) (now mean cap : Nat) : PowerSt :=
  if cap < mean then { p with cut := p.cut + 5, lastRise := some now }
  else if mean * 100 < cap * 97 && p.lastRise.all (fun t => decide (t + 1000000 ≤ now)) then { p with cut := p.cut - 5 }
  else p

/-- A period above the cap at FLOOR: 250 µs more in OD 0x2070.01, and POWER_LIMIT once for the excursion (R420). Log entry 122 (DEDUCED). -/
def Device.overCap (s : Device) (mean cap : Nat) : Device :=
  let q := s.power.quarters + 1
  let t := s.odCount 0 0x2070 1 0 (q / 4)
  let u := t.modPower (fun p => { p with quarters := q % 4, limited := true })
  if s.power.limited then u else u.raiseDev 0x2002 1 [(cap, 4), (mean, 4)]

/-- CAP_CONTROL_PERIOD. -/
def execCapControlPeriod (meanWatts : Nat) (s : State) : Host.Outcome State Fault Refusal := onDevice s fun s =>
  if !s.railsOn then .next s
  else
    let cap := s.odGet 0 0x2010 0
    let t := s.modPower (fun p => p.adjust s.now meanWatts cap)
    if meanWatts ≤ cap then .next (t.modPower (fun p => { p with limited := false }))
    else if s.atFloor 0 && s.atFloor 1 then .next (t.overCap meanWatts cap)
    else .next t

/-! ## Standby (R423–R426) -/

/-- What refuses a write of 2 or 3 of OD 0x2001 with RESOURCE (R424). -/
def Device.shutterBusy (s : Device) : Bool :=
  let kept := s.odGet 0 0x2050 0
  let named := (List.range 320).filter (bit kept)
  !s.ready || s.shuttered || !s.cohorts.isEmpty
    || s.parts.any (fun kv => kv.2.step.inProgress || kv.2.armed
        || kv.2.queues.any (fun kq => kq.2.running.any (fun r => r.opc == 1 || r.opc == 2)))
    || !s.boot.stages.isEmpty || s.transom.acting.any (fun kv => kv.2.2.index / 256 == 0xA1)
    || decide (16 < named.length) || named.any (fun a => s.paneState a == .vacant) || kept / 2 ^ 320 != 0

/-- The host port and the doors power down (R425). Log entry 124 (DEDUCED). -/
def Device.portsDown (s : Device) : Device :=
  let t := (List.range 24).foldl (fun t d => if (t.door d).state == .unused then t else t.doorDown d) s
  t.linkDown 0

/-- A shuttered state: the sills have written back, the ports and the core rails are off (R425). -/
def Device.enterShutter (s : Device) (state retained : Nat) : Device :=
  let t := ((s.writeBack 0).writeBack 1).portsDown
  let t := (t.modSash 0 (fun x => { x with off := true })).modSash 1 (fun x => { x with off := true })
  let t := t.modPower (fun p => { p with state, retained })
  ({ t with boot := { t.boot with state := 2 } }).odCount 0 0x2070 3 0 1

/-- A power action as a request: one that R424 refuses is refused as it is written, ahead of the actions before it (Table
19-5). Log entry 123 (DEDUCED). -/
def powerRow (mine : Nat → Bool) (refused : Device → Bool) (m : TMsg) (s : Device) (k : ActionBody) : Host.Outcome Device Fault Refusal :=
  if m.index != 0x2001 || !mine (ofBytes m.value) then .refused .wordOfAnotherRow
  else
    match s.transom.queued.find? (fun pm => pm.2 == m), odEntry m.index m.sub with
    | some pm, some e => .next (s.startAction e pm.1 m k)
    | _, _ => .next (s.request 4 m (fun t x =>
        match t.entryFor x m true with
        | .error st => t.answer m 4 st
        | .ok e =>
          if !typeOk e m.value || !decide (ofBytes m.value ∈ [0, 2, 3]) then t.answer m 4 stMalformed
          else if refused t then t.finishAction x.part m stResource
          else t.writeAction x m k))

/-- A value of OD 0x2001 that is a row's own, or no row's. -/
def powerValue (v : Nat) (n : Nat) : Bool := n == v || !decide (n ∈ [0, 2, 3])

/-- The write is answered before the port goes down (R425). -/
def enterBody (state : Nat) (retained : Device → Nat) : ActionBody := fun s part m =>
  if s.shutterBusy then (s, some stResource) else ((s.finishAction part m stOk).enterShutter state (retained s), none)

/-- SHUTTER_RETENTION. -/
def execShutterRetention (m : TMsg) (s : State) : Host.Outcome State Fault Refusal := onDevice s fun s =>
  powerRow (powerValue 2) Device.shutterBusy m s (enterBody 2 (fun s => s.odGet 0 0x2050 0))

/-- SHUTTER_REFRESH_ONLY. -/
def execShutterRefreshOnly (m : TMsg) (s : State) : Host.Outcome State Fault Refusal := onDevice s fun s =>
  powerRow (powerValue 3) Device.shutterBusy m s (enterBody 3 (fun _ => 0))

/-- A pane whose SRAM was retained: its local store is kept, and all else is cleared (Table 19-3). -/
def Pane.retainedStore (p : Pane) : Pane :=
  { p.cleared with part := p.part, split := p.split, ls := p.ls, lsPoison := p.lsPoison }

/-- The panes of a shuttered module as its rails return (R426). -/
def Device.wakePanes (s : Device) (retained : Nat) : Device :=
  (s.panes.map Prod.fst).foldl (fun t a => t.modPane a (fun p => if bit retained a then p.retainedStore else p.cleared)) s

/-- A shuttered state is left: rails, panes, doors and host port (R426). -/
def Device.leaveShutter (s : Device) : Device :=
  let on (x : SashSt) : SashSt := { x with off := x.tripped, emptySince := some s.now }
  let t := ((s.modSash 0 on).modSash 1 on).wakePanes s.power.retained
  let t := t.modPower (fun p => { p with state := 0, retained := 0, thermalShutter := false })
  let t := (t.trainDoors (List.range 24)).modHost (fun h => { h with link := 1 })
  let busy := t.boot.stages.any (fun y => decide (4 ≤ y.stage))
  { t with boot := { t.boot with state := if busy then 3 else 1 } }

/-- The thermal shutter holds until every frame die and the mullion have stayed below 90 °C for 1 s (R422). -/
def Device.tooHot (s : Device) : Bool :=
  s.power.thermalShutter && s.power.frameCoolSince.all (fun t => decide (s.now < t + 1000000000))

/-- SHUTTER_EXIT. -/
def execShutterExit (m : TMsg) (s : State) : Host.Outcome State Fault Refusal := onDevice s fun s =>
  powerRow (powerValue 0) (fun _ => false) m s (atOnce (fun t _ _ =>
    if !t.shuttered then (t, stOk) else if t.tooHot then (t, stResource) else (t.leaveShutter, stOk)))

/-- IDLE_DETECT: 1 ms without a resident cohort (R423). Log entry 125 (DEDUCED). -/
def execIdleDetect (sash : Nat) (s : State) : Host.Outcome State Fault Refusal := onDevice s fun s =>
  if 2 ≤ sash || s.cohorts.any (fun kv => sashOf kv.2.pane == sash) then .next s
  else
    match (s.sash sash).emptySince with
    | none => .next (s.noteEmpty sash)
    | some t => .next (if t + 1000000 ≤ s.now then s.modSash sash (fun x => { x with idle := true }) else s)

/-! ## Heat (R421, R422) -/

/-- THERMAL with a sensor's number, a row of OD 0x2031, and its reading. -/
def Device.raiseThermal (s : Device) (sensor celsius : Nat) : Device :=
  s.raiseDev 0x2003 2 [(sensor, 1), (celsius * 1000 + 273150, 4)]

/-- The hottest and the coolest condition of Table 19-2 of the stacks of a sash. -/
def Device.anyStackAt (s : Device) (sash celsius : Nat) : Bool :=
  (List.range 20).any (fun k => sashOfStack k == sash && decide (celsius ≤ (s.stack k).temp))

/-- The ceiling after a sample: it falls 5 mV a millisecond, rises 5 mV in 10 ms, or is set to 620 mV (Table 19-2). Log entry 121 (DEDUCED). -/
def Device.ceilingStep (s : Device) (sash hot : Nat) (x : SashSt) : SashSt :=
  let tctl := s.odGet 0 0x2060 0
  if 103 ≤ hot then { x with ceiling := 620, lastFall := s.now }
  else if decide (tctl ≤ hot) || s.anyStackAt sash 105 then
    if x.lastFall + 1000000 ≤ s.now || x.lastFall = 0 then { x with ceiling := Nat.max 620 (x.ceiling - 5), lastFall := s.now } else x
  else if decide (hot + 2 ≤ tctl) && !s.anyStackAt sash 103 then
    if x.lastRise + 10000000 ≤ s.now then { x with ceiling := min 800 (x.ceiling + 5), lastRise := s.now } else x
  else x

/-- The hot spot below 90 °C, and since when. -/
def coolFrom (old : Option Nat) (now celsius : Nat) : Option Nat := if celsius < 90 then some (old.getD now) else none

/-- A thermal trip: the rail goes off, and the sash is reset powered off (R422). -/
def Device.tripSash (s : Device) (sash hot : Nat) : Device :=
  let t := (s.raiseThermal sash hot).odCount 0 0x2070 2 0 1
  (t.modSash sash (fun x => { x with off := true, tripped := true, coolSince := none })).startSash sash none

/-- The thermal shutter: every partition is fenced, and the module enters refresh-only shuttering (R422). -/
def Device.thermalShutter (s : Device) (sensor celsius : Nat) : Device :=
  let t := (s.raiseThermal sensor celsius).odCount 0 0x2070 2 0 1
  let t := (t.parts.filter (fun kv => kv.2.state != .absent)).foldl (fun t kv => t.startFence kv.1 none) t
  (t.modPower (fun p => { p with thermalShutter := true, frameCoolSince := none })).enterShutter 3 0

/-- THERMAL_SAMPLE. -/
def execThermalSample (sash hotSpot frameSensor frameOrMullion : Nat) (s : State) : Host.Outcome State Fault Refusal := onDevice s fun s =>
  if 2 ≤ sash then .next s
  else
    let was := s.sash sash
    let t := s.modSash sash (fun x => { s.ceilingStep sash hotSpot x with
      hot := hotSpot, hotSeen := true, forced := decide (103 ≤ hotSpot), coolSince := coolFrom x.coolSince s.now hotSpot })
    let t := t.modPower (fun p => { p with frameCoolSince := coolFrom p.frameCoolSince s.now frameOrMullion })
    let t := if decide (103 ≤ hotSpot) && !was.forced then t.raiseThermal sash hotSpot else t
    let t := if decide (105 ≤ hotSpot) && !was.tripped && s.railsOn then t.tripSash sash hotSpot else t
    .next (if decide (110 ≤ frameOrMullion) && s.railsOn then t.thermalShutter frameSensor frameOrMullion else t)

/-- COOLING_WAIT_DONE: the sash has stayed below 90 °C for 1 s, its rail returns, and its reset continues; the watchdog runs on from
where it stopped (R382, R422). -/
def execCoolingWaitDone (sash : Nat) (s : State) : Host.Outcome State Fault Refusal := onDevice s fun s =>
  let x := s.sash sash
  if 2 ≤ sash || !x.tripped || x.coolSince.all (fun t => decide (s.now < t + 1000000000)) then .next s
  else
    let t := s.modSash sash (fun x => { x with tripped := false, off := s.shuttered })
    let t := t.modStage 4 sash (fun y =>
      match y.paused with
      | some p => { y with paused := none, start := y.start + (s.now - p) }
      | none => y)
    .next (t.proceedSash sash)

end Sys2Proof.Machine
end

