-- ==== Sys2Proof/Machine/Cipher.lean ====
section
/-! DEFINITION. What a stack holds of a sector (R160, R168, R175): its ciphertext under AES-256-XTS (FIPS 197, IEEE Std 1619), its check bits,
and the pattern that marks poison. State holds the plaintext, which the key and the address determine and which alone leaves a sill. -/

namespace Sys2Proof.Machine

/-! ## AES-256 -/

/-- A byte times x in the field of AES. -/
def xTimes (a : Byte) : Byte := (a <<< 1) ^^^ (if a.getLsbD 7 then 0x1B else 0)

/-- The product of two bytes in the field of AES. -/
def fieldMul (a b : Byte) : Byte :=
  ((List.range 8).foldl (fun (acc : Byte × Byte) i => (if b.getLsbD i then acc.1 ^^^ acc.2 else acc.1, xTimes acc.2)) (0, a)).1

/-- The inverse of a byte in the field of AES, 0 for 0: its power 254. -/
def fieldInverse (a : Byte) : Byte :=
  ((List.range 7).foldl (fun (acc : Byte × Byte) _ => let q := fieldMul acc.2 acc.2; (fieldMul acc.1 q, q)) (1, a)).1

/-- SubBytes of one byte. -/
def subByte (a : Byte) : Byte :=
  let b := fieldInverse a
  b ^^^ b.rotateLeft 1 ^^^ b.rotateLeft 2 ^^^ b.rotateLeft 3 ^^^ b.rotateLeft 4 ^^^ 0x63

def xorBytes (a b : List Byte) : List Byte := a.zipWith (· ^^^ ·) b

/-- The round constant of a word whose index is 8 j. -/
def roundConstant (j : Nat) : Byte := (List.range (j - 1)).foldl (fun a _ => xTimes a) 1

/-- The next word of the key schedule of a 256-bit key. -/
def nextWord (ws : List (List Byte)) : List Byte :=
  let i := ws.length
  let last := ws.getD (i - 1) []
  let t :=
    if i % 8 = 0 then
      match (last.drop 1 ++ last.take 1).map subByte with
      | b :: rest => (b ^^^ roundConstant (i / 8)) :: rest
      | [] => []
    else if i % 8 = 4 then last.map subByte
    else last
  xorBytes (ws.getD (i - 8) []) t

/-- The 15 round keys of a 256-bit key. -/
def roundKeys (key : List Byte) : List (List Byte) :=
  let first := (List.range 8).map (fun i => (key.drop (4 * i)).take 4)
  let ws := (List.range 52).foldl (fun ws _ => ws ++ [nextWord ws]) first
  (List.range 15).map (fun r => ((ws.drop (4 * r)).take 4).flatten)

/-- ShiftRows of a block, whose bytes run down its columns. -/
def shiftRows (b : List Byte) : List Byte := (List.range 16).map (fun i => b.getD ((i + 4 * (i % 4)) % 16) 0)

/-- MixColumns of a block. -/
def mixColumns (b : List Byte) : List Byte :=
  (List.range 16).map (fun i =>
    let at' (k : Nat) : Byte := b.getD (i / 4 * 4 + (i + k) % 4) 0
    xTimes (at' 0) ^^^ (xTimes (at' 1) ^^^ at' 1) ^^^ at' 2 ^^^ at' 3)

/-- A block of 16 bytes encrypted under round keys. -/
def encryptBlock (keys : List (List Byte)) (block : List Byte) : List Byte :=
  let start := xorBytes block (keys.getD 0 [])
  let mid := (List.range 13).foldl (fun b r => xorBytes (mixColumns (shiftRows (b.map subByte))) (keys.getD (r + 1) [])) start
  xorBytes (shiftRows (mid.map subByte)) (keys.getD 14 [])

/-! ## XTS -/

/-- A tweak times α: its 16 bytes are a little-endian number. -/
def nextTweak (t : List Byte) : List Byte :=
  let n := ofBytes t
  bytesOf ((2 * n % 2 ^ 128) ^^^ (if 2 ^ 127 ≤ n then 0x87 else 0)) 16

/-- A sector of 32 bytes under a key of 512 bits and a tweak: the first half of the key encrypts the data, the second the tweak. -/
def encryptSector (key tweak : Nat) (data : List Byte) : List Byte :=
  let bytes := bytesOf key 64
  let keys := roundKeys (bytes.take 32)
  let t0 := encryptBlock (roundKeys (bytes.drop 32)) (bytesOf tweak 16)
  let block (t p : List Byte) : List Byte := xorBytes (encryptBlock keys (xorBytes p t)) t
  block t0 (data.take 16) ++ block (nextTweak t0) (data.drop 16)

/-! ## A sector in its stack -/

/-- The tweak of a copy's sector: its view-0 stack-linear address shifted right by 5 (R168). A retired pseudo-channel's sectors keep it (R175). -/
def Device.tweakOf (s : Device) (part pool copy off : Nat) : Nat := (s.place part pool copy off).address off / 32

/-- The ciphertext of a copy's sector, under the key of the partition that owns its pool (R168). -/
def Device.ciphertext (s : Device) (part pool copy off : Nat) : List Byte :=
  encryptSector (s.part part).xtsKey (s.tweakOf part pool copy off) (s.bytesAt part pool copy (off / 32 * 32) 32)

/-- The check bits stored with it, which cover its address as well; a poisoned sector's carry the pattern (R160). -/
def Device.checkBits (s : Device) (part pool copy off : Nat) : BitVec 32 :=
  let code := Config.sectorCode (s.tweakOf part pool copy off) (s.ciphertext part pool copy off)
  if SMap.get s.mem.poison (sectorKey part pool copy off) false then code ^^^ Config.poisonPattern else code

end Sys2Proof.Machine
end

