-- ==== Sys2Proof/Machine/Sills.lean ====
section
/-! DEFINITION. A sill and its stack: requests of panes (R158–R167, R184–R186), scrub (R164), temperature (R170, R171),
imbalance (R172) and the retirement of pseudo-channels (R174–R176). -/

namespace Sys2Proof.Machine

/-! ## Counts (OD 0x3020) -/

/-- One of the four counts of a stack raised by one: 0 corrected sectors, 1 uncorrectable sectors, 2 mirror repairs, 3 buffer
corrections. -/
def Device.countEcc (s : Device) (stack col : Nat) : Device :=
  let row := s.odGet 0 0x3020 0 stack
  let n := fld row (64 * col) 64
  s.odSet 0 0x3020 0 stack (row + 2 ^ (64 * col) * (min (n + 1) (2 ^ 64 - 1) - n))

/-! ## Errors (R159–R161, R166, R174) -/

/-- Errors that persist in a repeated access start the recovery of a pseudo-channel: its channel retrains (R174). Log entry 93 (DEDUCED). -/
def Device.startRecovery (s : Device) (stack pc : Nat) : Device :=
  let k := s.stack stack
  if k.retrain.isSome || k.suspect.isSome || k.unrep.contains pc then s
  else s.modStack stack (fun k => { k with retrain := some (pc / 2), suspect := some pc })

/-- The symbols of a sector that an error changes. -/
def wrongSymbols (e : CodeError) : Nat :=
  (distinct ((e.symbols.filter (fun b => decide (b.1 < 36) && b.2 != 0)).map Prod.fst)).length

/-- The verdict of the sector code (R160), and whether the data that it leaves differ from what was stored. It says nothing of errors of more than
three symbols: what it makes of them is free. Log entry 154 (DESIGN CHOICE). -/
def Device.verdict (s : Device) (e : CodeError) : Device × Ecc × Bool :=
  if e.address then (s, .uncorrectable, false)
  else if wrongSymbols e = 0 then (s, .good, false)
  else if wrongSymbols e = 1 then (s, .correctable, false)
  else if wrongSymbols e ≤ 3 then (s, .uncorrectable, false)
  else
    let (n, t) := s.draw
    if n % 3 = 0 then (t, .good, true) else if n % 3 = 1 then (t, .correctable, true) else (t, .uncorrectable, false)

/-- A sector takes bytes that no rule gives. -/
def Device.garble (s : Device) (part pool copy base : Nat) : Device :=
  let (n, t) := s.draw
  t.putBytes part pool copy base ((List.range 32).map (fun j => Config.undefinedByte n (memKey part pool copy (base + j))))

/-- A sector of a copy that its sill does not hold, and that is not known to be poison: its stack is read. -/
def Device.fresh (s : Device) (part pool copy base : Nat) : Bool :=
  (SMap.find s.mem.buffer (sectorKey part pool copy base)).isNone && !s.poisonAt part pool copy base

/-- A sector of one copy as its sill finds it, with the errors of its code or the verdict of the buffer's SRAM: whether it is poison
(R159–R161). -/
def Device.probe (s : Device) (part pool copy base : Nat) (code : CodeError) (sram : Ecc) : Device × Bool :=
  let key := sectorKey part pool copy base
  let ch := s.channelOf part pool copy base
  match SMap.find s.mem.buffer key with
  | some b =>
    let dead := s.deadAt part pool copy base
    match sram with
    | .good => (s, b.bad || dead)
    | .correctable => (s.countEcc ch.1 3, b.bad || dead)
    | .uncorrectable => ({ s with mem := { s.mem with buffer := SMap.put s.mem.buffer key { b with bad := true } } }, true)
  | none =>
    if s.poisonAt part pool copy base then (s, true)
    else
      let (t, v, garbled) := s.verdict code
      let t := if garbled then t.garble part pool copy base else t
      match v with
      | .good => (t, false)
      | .correctable => (t.countEcc ch.1 0, false)
      | .uncorrectable => (t.startRecovery ch.1 ch.2, true)

/-- A sector of one copy is read, `other` being the errors of the other copy of a mirrored sector, which lacks no forwarded write by then. An
uncorrectable copy of a mirrored sector is repaired where the other is good. Answers whether the sector is poison at the end (R161, R166, R202). Log entry 95 (DEDUCED). -/
def Device.checkSector (s : Device) (part pool copy base : Nat) (code other : CodeError) (sram : Ecc) : Device × Bool :=
  let ch := s.channelOf part pool copy base
  let fresh := s.fresh part pool copy base
  let r := s.probe part pool copy base code sram
  let poisoned (t : Device) (any : Bool) : Device :=
    let t := if any then t.poisonSector part pool base else t
    (if fresh then t.countEcc ch.1 1 else t).noteShared part pool base s
  if !r.2 then (r.1, false)
  else if (s.copies part pool).length = 2 then
    let t := r.1.flushPartners part pool base
    let fresh2 := t.fresh part pool (1 - copy) base
    let u := t.probe part pool (1 - copy) base other .good
    if u.2 then (poisoned u.1 (fresh || fresh2), true)
    else if u.1.deadAt part pool copy base then (u.1, false)
    else ((u.1.repairCopy part pool (1 - copy) copy base).countEcc ch.1 2, false)
  else (poisoned r.1 fresh, true)

/-- The bytes of a sector after its check: those of the copy, or of the other where that one is dead. -/
def Device.sectorBytes (s : Device) (part pool copy base : Nat) : List Byte :=
  s.bytesAt part pool (if s.deadAt part pool copy base then 1 - copy else copy) base 32

/-! ## Requests of panes (R163, R184) -/

/-- The copy at which a request is served: a load's is that of the pane's sash, a store's the home copy (R165). -/
def MemReq.copyAt (r : MemReq) (s : Device) : Nat := if r.load.isSome then s.copyFor r.owner r.pool r.off (sashOf r.pane) else 0

/-- The stack and pseudo-channel of a request. -/
def MemReq.channel (r : MemReq) (s : Device) : Nat × Nat := s.channelOf r.owner r.pool (r.copyAt s) r.off

/-- A mirrored load is served from the other copy while its channel retrains (R174). -/
def MemReq.servedAt (r : MemReq) (s : Device) : Nat :=
  let c := r.copyAt s
  if r.load.isSome && (s.copies r.owner r.pool).length == 2 && (s.stack (r.channel s).1).retrain == some ((r.channel s).2 / 2) then 1 - c
  else c

/-- A request waits for an earlier one of its pane at the same stack (R17, R184); requests of different panes are served as they come
(R163, R187). -/
def Device.reqBehind (s : Device) (r : MemReq) : Bool :=
  (s.mem.reqs.takeWhile (fun q => q.id != r.id)).any (fun q => !q.served && q.pane == r.pane && (q.channel s).1 == (r.channel s).1)

def Device.modReq (s : Device) (id : Nat) (f : MemReq → MemReq) : Device :=
  { s with mem := { s.mem with reqs := s.mem.reqs.map (fun r => if r.id = id then f r else r) } }

def Device.dropReq (s : Device) (id : Nat) : Device :=
  { s with mem := { s.mem with reqs := s.mem.reqs.filter (fun r => r.id != id) } }

/-- A load served at its sill. -/
def Device.serveLoad (s : Device) (r : MemReq) (code other : CodeError) (sram : Ecc) : Device :=
  let c := r.servedAt s
  let q := s.checkSector r.owner r.pool c r.off code other sram
  let t := q.1.touch r.part r.view (sectorKey r.owner r.pool c r.off) false
  let result := if q.2 then none else some (t.sectorBytes r.owner r.pool c r.off)
  t.modReq r.id (fun x => { x with served := true, result })

/-- A store served at the home copy behind the block check; a mirrored one is then forwarded (R149, R162, R165, R402). Log entry 40 (DEDUCED). -/
def Device.serveStore (s : Device) (r : MemReq) (code other : CodeError) (sram : Ecc) : Device :=
  let whole := (distinct (r.writes.map Prod.fst)).length == 32
  let t := s.firstTouch r.owner r.pool r.off
  let t := r.writes.foldl (fun t w => t.clearLost r.owner r.pool (r.off + w.1) 1) t
  let t := if whole then t else (t.checkSector r.owner r.pool 0 r.off code other sram).1
  let w := t.storeCopy r.owner r.pool 0 r.off r.writes
  if w.2 = stPoison then w.1.modReq r.id (fun x => { x with served := true, status := stPoison })
  else
    let t := w.1.touch r.part r.view (sectorKey r.owner r.pool 0 r.off) true
    let t := t.logMem r.part t.chip r.owner r.pool r.off 32
    let t := t.forwardAs { id := r.id, part := r.part, owner := r.owner, pool := r.pool, off := r.off, writes := some r.writes, view := r.view }
    t.modReq r.id (fun x => { x with served := true, status := firstBad w.2 (t.partnerStatus r.owner r.pool r.off) })

/-- SILL_ACCESS (R163). A request to a pool that has gone is answered as poison. Log entry 41 (DEDUCED). -/
def execSillAccess (req : Nat) (code other : CodeError) (s : State) (sram : Ecc := .good) : Host.Outcome State Fault Refusal := onDevice s fun s =>
  match s.mem.reqs.find? (fun r => r.id == req) with
  | none => .next s
  | some r =>
    if r.served || s.reqBehind r then .next s
    else if (s.pool? r.owner r.pool).isNone then .next (s.modReq req (fun x => { x with served := true }))
    else if s.channelHeld (s.channelOf r.owner r.pool (r.servedAt s) r.off) then .next s
    else
      let t := s.serve r.part 0 0 (s.now - r.since)
      .next (if r.load.isSome then t.serveLoad r code other sram else t.serveStore r code other sram)

/-- What waits for writes that every partner copy has taken by now follows, in order (R165). -/
def Device.endings (s : Device) : Device :=
  let due (e : List Nat × Ending) : Bool := e.1.all (fun id => !s.forwarding id)
  (s.mem.after.filter due).foldl (fun t e => t.endWrite e.2) { s with mem := { s.mem with after := s.mem.after.filter (fun e => !due e) } }

/-- MIRROR_PARTNER_WRITE (R165): forwarded writes of a sector are performed at the partner in the home copy's order. -/
def execMirrorPartnerWrite (req : Nat) (s : State) : Host.Outcome State Fault Refusal := onDevice s fun s =>
  match s.mem.forwards.find? (fun f => f.id == req) with
  | none => .next s.endings
  | some f =>
    let earlier := (s.mem.forwards.takeWhile (fun g => g != f)).any (fun g => g.isOf f.owner f.pool f.off)
    if earlier || s.channelHeld (s.channelOf f.owner f.pool 1 f.off) then .next s
    else
      let t := s.performForward f
      .next { t with mem := { t.mem with forwards := t.mem.forwards.erase f } }.endings

/-- Earlier loads of a sector by the same pane, which hold older data, no longer fill its cache (R180). -/
def Device.supersedeFills (s : Device) (r : MemReq) : Device :=
  { s with mem := { s.mem with reqs := s.mem.reqs.map (fun q =>
      if q.pane == r.pane && q.load.isSome && decide (q.id < r.id) && q.owner == r.owner && q.pool == r.pool && q.off == r.off then { q with stale := true } else q) } }

/-- LINE_FILL (R184, R186): the data goes to its load, and into the pane cache unless a clearing, a later store of the pane or a later
fill came between. -/
def execLineFill (req : Nat) (s : State) : Host.Outcome State Fault Refusal := onDevice s fun s =>
  match s.mem.reqs.find? (fun r => r.id == req) with
  | none => .next s
  | some r =>
    match r.load with
    | none => .next s
    | some load =>
      if !r.served then .next s
      else
        let t := (s.dropReq req).supersedeFills r
        let t := match r.result with
          | some data =>
            if r.stale || (t.pane r.pane).clears != r.gen then t else t.install r.pane (sectorKey r.owner r.pool 0 r.off) data
          | none => t
        .next (t.modLoad r.pane r.slot load (fun l =>
          let l1 : Load := { l with waiting := l.waiting.filter (· != req) }
          match r.result with
          | some data => r.lanes.foldl (fun l q => { l with got := SMap.put l.got q.1 (ofBytes ((data.drop q.2.1).take q.2.2)) }) l1
          | none => { l1 with bad := l1.bad ||| maskOf (r.lanes.map Prod.fst) }))

/-- A group that has issued a store, or what it left when it ended, learns that the store is acknowledged; a store that met poison raises the
poison exception of its lanes (R93, R162, R190). -/
def Device.ackStore (s : Device) (r : MemReq) : Device :=
  let less (g : Group) : Group := { g with stores := g.stores.filter (· != r.id) }
  let ended (t : Device) (g : Group) : Device :=
    if r.status = stPoison then t.except r.pane r.slot g 0x27 stPoison r.pc (maskOf (r.lanes.map Prod.fst)) else t
  match (s.group? r.pane r.slot).filter (fun g => g.stores.contains r.id) with
  | some g => ended (s.setGroup r.pane r.slot (less g)) (less g)
  | none =>
    let has (e : Nat × Group) : Bool := e.1 == r.slot && e.2.stores.contains r.id
    match s.cohorts.findSome? (fun kv => if kv.2.pane == r.pane then (kv.2.left.find? has).map (fun e => (kv.1, e.2)) else none) with
    | none => s
    | some (ci, g) =>
      ended (s.modCohort ci (fun c => { c with left := (c.left.map (fun e => if has e then (e.1, less e.2) else e)).filter (fun e => !e.2.isStub) }))
        (less g)

/-- STORE_ACK (R184, R190): the store is performed at every copy. -/
def execStoreAck (req : Nat) (s : State) : Host.Outcome State Fault Refusal := onDevice s fun s =>
  match s.mem.reqs.find? (fun r => r.id == req) with
  | none => .next s
  | some r => if r.load.isSome || !r.served || s.forwarding req then .next s else .next ((s.dropReq req).ackStore r)

/-! ## Scrub (R164) -/

/-- The place whose rows a granule row of a pseudo-channel holds now: a retired pseudo-channel's rows lie in the reserve of the others, and
its own rows hold nothing (R175). -/
def Stack.holds (k : Stack) (stack pc row : Nat) : Option Place :=
  match k.spent with
  | none => some { stack, pc, row }
  | some d =>
    if pc = d then none
    else if row < reserveRow then some { stack, pc, row }
    else
      let i := (row - reserveRow) * 63 + (if pc < d then pc else pc - 1)
      if i < reserveRow then some { stack, pc := d, row := i } else some { stack, pc, row }

/-- A sector in no pool is read by scrub: its error is corrected and counted, or it is poison from then on. -/
def Device.scrubIdle (s : Device) (q : Place) (sector : Nat) (code : CodeError) : Device :=
  let key := q.address (32 * sector) / 32
  if SMap.get s.mem.idle key false || (s.stack q.stack).unrep.contains q.pc then s
  else
    let (t, v, _) := s.verdict code
    match v with
    | .good => t
    | .correctable => t.countEcc q.stack 0
    | .uncorrectable => ({ t with mem := { t.mem with idle := SMap.put t.mem.idle key true } }.countEcc q.stack 1).startRecovery q.stack q.pc

/-- SCRUB_READ: one sector of a stack is read without a requester, whatever it belongs to. -/
def execScrubRead (stack pc row sector : Nat) (code other : CodeError) (s : State) : Host.Outcome State Fault Refusal := onDevice s fun s =>
  if 20 ≤ stack || 64 ≤ pc || 2 ^ 22 ≤ row || 16 ≤ sector || s.channelHeld (stack, pc) then .next s
  else
    match (s.stack stack).holds stack pc row with
    | none => .next s
    | some q =>
      match s.ownerOf q with
      | none => .next (s.scrubIdle q sector code)
      | some (part, pool, copy, off) =>
        let base := off + 32 * sector
        if s.fresh part pool copy base then .next (s.checkSector part pool copy base code other .good).1 else .next s

/-! ## Temperature (R170, R171) -/

/-- The lower thresholds of the rows of Table 07-6 in °C. -/
def stackThresholds : List Nat := [85, 95, 105, 108, 110]

/-- A sample: a rise takes effect at once; a threshold is left when the temperature has stayed 2 °C or more below it for
100 ms. -/
def Stack.sample (k : Stack) (temp now : Nat) : Stack :=
  let rise := (stackThresholds.filter (fun t => decide (t ≤ temp))).length
  let below := ((stackThresholds.zipIdx).filter (fun ti => decide (temp + 2 ≤ ti.1))).map (fun ti =>
    (ti.2, SMap.get k.below ti.2 now))
  let left := (below.filter (fun kv => decide (kv.2 + 100000000 ≤ now))).map Prod.fst
  let fall := (left.foldl Nat.min k.level)
  { k with temp, below, level := Nat.max rise fall }

/-- REFRESH_SAMPLE (R170): the hotter of the two readings; STACK_HOT once as throttling begins (R171). -/
def execRefreshSample (stack report : Nat) (s : State) (sensor : Nat := 0) : Host.Outcome State Fault Refusal := onDevice s fun s =>
  if 20 ≤ stack then .next s
  else
    let temp := Nat.max report sensor
    let was := (s.stack stack).level
    let t := s.modStack stack (fun k => k.sample temp s.now)
    if was < 3 && 3 ≤ (t.stack stack).level then .next (t.raiseDev 0x3001 1 [(stack, 1), (temp, 1)]) else .next t

/-! ## Imbalance (R172) -/

/-- The accesses of a pseudo-channel in the window, by partition. -/
def Device.accesses (s : Device) (stack pc part : Nat) : Nat := SMap.get s.mem.traffic ((64 * stack + pc) * 32 + part) 0

/-- The sector accesses of a pseudo-channel in the window, of all partitions (R172). -/
def Device.pcCount (s : Device) (stack pc : Nat) : Nat := total ((List.range 32).map (s.accesses stack pc))

/-- The sector accesses of a stack in the window. -/
def Device.stackCount (s : Device) (stack : Nat) : Nat := total ((List.range 64).map (s.pcCount stack))

/-- Whether a pseudo-channel, a partition and a ratio are those of the window: no pseudo-channel has a higher count, no partition has issued
more of it, and the ratio of the count to the mean is rounded to a neighbour (R172). Log entry 94 (DESIGN CHOICE). -/
def Device.windowIs (s : Device) (stack pc part ratio : Nat) : Bool :=
  decide (pc < 64) && (List.range 64).all (fun k => decide (s.pcCount stack k ≤ s.pcCount stack pc))
    && decide (part < 32) && (List.range 32).all (fun k => decide (s.accesses stack pc k ≤ s.accesses stack pc part))
    && decide (64 * s.pcCount stack pc < (ratio + 1) * Nat.max 1 (s.stackCount stack))
    && decide (ratio * Nat.max 1 (s.stackCount stack) < 64 * s.pcCount stack pc + Nat.max 1 (s.stackCount stack))

/-- IMBALANCE_WINDOW: the window's counts are judged and begin anew. -/
def execImbalanceWindow (stack pc part ratio busy span : Nat) (s : State) : Host.Outcome State Fault Refusal := onDevice s fun s =>
  if decide (20 ≤ stack) || !s.windowIs stack pc part ratio then .next s
  else
    let least := s.odGet 0 0x3040 1
    let windows := s.odGet 0 0x3040 2
    let sum := s.stackCount stack
    let k := s.stack stack
    let high := decide (s.odGet 0 0x3040 3 * span ≤ 100 * busy ∧ least * sum ≤ 64 * s.pcCount stack pc)
    let quiet := decide (128 * s.pcCount stack pc < least * sum) || sum == 0
    let imbRun := if high then k.imbRun + 1 else 0
    let imbQuiet := if quiet then k.imbQuiet + 1 else 0
    let on := k.imbOn && decide (imbQuiet < windows)
    let raise := !on && decide (windows ≤ imbRun)
    let t := s.modStack stack (fun k => { k with imbRun, imbQuiet, imbOn := on || raise })
    let t := { t with mem := { t.mem with traffic := t.mem.traffic.filter (fun kv => kv.1 / 2048 != stack) } }
    if raise then
      .next (t.raiseDev 0x3002 0 [(stack, 1), (pc, 1), (ratio, 1), (part, 1)])
    else .next t

/-! ## Pseudo-channels (R174–R176, R365) -/

/-- A pseudo-channel has failed its test: its rows move to the reserve, or, where that is taken, it is unrepairable. -/
def Device.failChannel (s : Device) (stack pc cause : Nat) : Device :=
  let k := s.stack stack
  if k.unrep.contains pc || k.spent == some pc || k.moving.any (fun m => m.1 == pc) then s
  else if k.spent.isNone && k.moving.isNone then s.modStack stack (fun k => { k with moving := some (pc, cause) })
  else
    let t := s.modStack stack (fun k => { k with unrep := k.unrep ++ [pc] })
    let t := t.modUnit 2 (stack * 64 + pc) (fun u => { u with state := .unrepairable, dueAt := none, judged := false })
    let t := t.odSet 0 0x3000 2 0 (t.odGet 0 0x3000 2 - 2063597568)
    (t.raiseDev 0x3004 3 [(stack, 1), (pc, 1)]).answerTest 2 (stack * 64 + pc) stRetired

/-- A pseudo-channel's test has ended: it is good, or transient, or it fails (R365, R366). -/
def Device.endChannelTest (s : Device) (stack pc : Nat) (pass : Bool) : Device :=
  let n := stack * 64 + pc
  let judged := (s.unit 2 n).judged
  if !pass then s.failChannel stack pc 0
  else
    let t := (s.testPassed 2 n).modUnit 2 n (fun u => { u with state := .good })
    let r := if judged then t.transient 2 n else (t, false)
    if r.2 then r.1.failChannel stack pc 2 else r.1.answerTest 2 n stOk

/-- PC_RETRAIN_DONE (R174): held requests resume, and the self-test of the suspect begins. -/
def execPcRetrainDone (stack channel : Nat) (suspect : Option Nat) (s : State) : Host.Outcome State Fault Refusal := onDevice s fun s =>
  let k := s.stack stack
  if 20 ≤ stack || k.retrain != some channel || k.suspect != suspect then .next s
  else
    let t := s.modStack stack (fun k => { k with retrain := none })
    match suspect with
    | some pc => .next (t.modUnit 2 (stack * 64 + pc) (fun u => { u with state := .testing, judged := true }))
    | none => .next t

/-- PC_SELF_TEST_DONE (R174). -/
def execPcSelfTestDone (stack pc : Nat) (pass : Bool) (s : State) : Host.Outcome State Fault Refusal := onDevice s fun s =>
  let k := s.stack stack
  if 20 ≤ stack || k.suspect != some pc || k.retrain.isSome then .next s
  else .next ((s.modStack stack (fun k => { k with suspect := none })).endChannelTest stack pc pass)

/-- A sector of a retired pseudo-channel as it was copied: one that is uncorrectable arrives poisoned (R175). -/
def Device.copiedSector (s : Device) (stack pc : Nat) (e : Nat × CodeError) : Device :=
  let q : Place := { stack, pc, row := e.1 / 16 }
  let (t, v, garbled) := s.verdict e.2
  if v != .uncorrectable && !garbled then t
  else
    match t.ownerOf q with
    | none =>
      if v = .uncorrectable then { t with mem := { t.mem with idle := SMap.put t.mem.idle (q.address (32 * (e.1 % 16)) / 32) true } } else t
    | some (part, pool, copy, off) =>
      let base := off + 32 * (e.1 % 16)
      if v = .uncorrectable then
        ({ t with mem := { t.mem with poison := SMap.put t.mem.poison (sectorKey part pool copy base) true } }).noteShared part pool base t
      else t.garble part pool copy base

/-- PC_MIGRATION_DONE (R175): the retirement is recorded and the addresses are redirected. -/
def execPcMigrationDone (stack pc : Nat) (s : State) (errors : List (Nat × CodeError) := []) : Host.Outcome State Fault Refusal := onDevice s fun s =>
  match (s.stack stack).moving with
  | none => .next s
  | some (d, cause) =>
    if 20 ≤ stack || d != pc then .next s
    else
      let t := (errors.filter (fun e => decide (e.1 / 16 < reserveRow))).foldl (fun t e => t.copiedSector stack pc e) s
      let t := t.modStack stack (fun k => { k with moving := none, spent := some pc })
      let t := (t.retireUnit 2 cause (stack * 64 + pc)).raiseDev 0x3003 1 [(stack, 1), (pc, 1)]
      .next (t.answerTest 2 (stack * 64 + pc) stRetired)

end Sys2Proof.Machine
end

