-- ==== Sys2Proof/Machine/Boot.lean ====
section
/-! DEFINITION. The start (R429–R441, R451–R458): power and reset inputs, the stages of Table 20-6, delivery of the Rocia bundle
and its checks, the owner's release, and Ready. -/

namespace Sys2Proof.Machine

def Device.modBoot (s : Device) (f : BootSt → BootSt) : Device := { s with boot := f s.boot }

/-- A stage of Table 20-6 is entered. -/
def Device.enterStage (s : Device) (n : Nat) : Device := s.modBoot (fun b => { b with stage := n, staget := s.now })

/-- The start stops at FAULT with a reason. -/
def Device.startFails (s : Device) (reason : Nat) : Device := (s.modBoot (fun b => { b with reason })).toFault

/-! ## The supply and the reset input (R451–R454) -/

/-- VIN_TURN_ON: within 40–60 V the module turns on and releases PWRGD. -/
def execVinTurnOn (millivolts : Nat) (s : State) : Host.Outcome State Fault Refusal := onDevice s fun s =>
  let on := s.boot.pwrgd || decide (40000 ≤ millivolts ∧ millivolts ≤ 60000)
  .next (s.modBoot (fun b => { b with vin := millivolts, pwrgd := on }))

/-- Past what the module survives (Table 21-3): 65 V continuous, 80 V for 1 ms. Log entry 8 (DEDUCED). -/
def TurnOff.damages (c : TurnOff) : Bool :=
  match c with
  | .voltage mv us => decide (80000 < mv) || (decide (65000 < mv) && decide (1000 < us))
  | .overcurrent _ => false

/-- Past a threshold of Table 21-3 for long enough to turn off. -/
def TurnOff.turnsOff (c : TurnOff) : Bool :=
  match c with
  | .voltage mv us =>
    (decide (mv < 37000) && decide (50 < us)) || (decide (mv < 40000) && decide (10000 < us)) || (decide (62000 < mv) && decide (10 < us))
  | .overcurrent a => decide (140 < a)

/-- VIN_TURN_OFF (R453). -/
def execVinTurnOff (cause : TurnOff) (s : State) : Host.Outcome State Fault Refusal := onDevice s fun s =>
  let vin := match cause with
    | .voltage mv _ => mv
    | .overcurrent _ => s.boot.vin
  if TurnOff.damages cause then .fault .damaged
  else if TurnOff.turnsOff cause && s.boot.pwrgd then .next (s.powerLoss vin)
  else .next (s.modBoot (fun b => { b with vin }))

/-- RESET_N_FALL: stage 5 starts at once, and the module stays before stage 1 while the input is low (R381, R454). -/
def execResetNFall (s : State) : Host.Outcome State Fault Refusal := onDevice s fun s =>
  if s.boot.resetLow then .next s
  else
    let t := if s.boot.pwrgd then s.deviceReset else s
    .next (t.modBoot (fun b => { b with resetLow := true }))

/-- RANDOM_SOURCE_FAILURE (R430). Log entry 128 (DEDUCED). -/
def execRandomSourceFailure (s : State) : Host.Outcome State Fault Refusal := onDevice s fun s =>
  .next (if s.boot.pwrgd then s.modBoot (fun b => { b with random := false, reason := 9 }) else s)

/-- REFCLK_LOSS: the on-module oscillator takes over, the lintel enters HOLDOVER, and the doors and the host port retrain
(R458). -/
def execRefclkLoss (s : State) : Host.Outcome State Fault Refusal := onDevice s fun s =>
  if s.boot.clock != 1 then .next s
  else
    let t := s.modBoot (fun b => { b with clock := 2 })
    let t := if t.lintel.state = 2 then
        ({ t with lintel := { t.lintel with state := 3, upstream := none, bestHops := 16 } }).raiseDev 0x4001 1
      else t
    let t := (List.range 24).foldl (fun t d => t.startRetrain d) t
    let t := if t.hostUp then t.linkDown 1 else t
    .next (if t.ready then t.raiseDev 0x1005 1 else t.modBoot (fun b => { b with fallback := true }))

/-! ## Stages 1 to 4 (R429, R437, R452, R456, R457) -/

/-- The committed set is loaded, or defaults where its code fails (R336, R338). Log entry 129 (DEDUCED). -/
def Device.loadCommitted (s : Device) (ok : Bool) : Device :=
  match s.mram.committed with
  | none => s
  | some set =>
    if ok then { s with od := set }
    else ({ s with mram := { s.mram with committed := none } }.modBoot (fun b => { b with persistLost := true })).odSet 0 0x1101 0 0 1

/-- The unit history is loaded from a copy that passes, or starts from the fuse set alone (R367). -/
def Device.loadHistory (s : Device) (ok : Bool) : Device := if ok then s else { s with units := {} }

/-- What the history holds of pseudo-channels and lanes: retired units stay retired (R367). -/
def Device.applyHistory (s : Device) : Device :=
  s.units.history.foldl (fun t kv =>
    let u := unitOfRow kv.1
    if u.1 = 2 && kv.2.state == .retired then t.modStack (u.2 / 64) (fun k => { k with spent := some (u.2 % 64) })
    else if u.1 = 2 && kv.2.state == .unrepairable then
      (t.modStack (u.2 / 64) (fun k => { k with unrep := k.unrep ++ [u.2 % 64] })).odSet 0 0x3000 2 0 (t.odGet 0 0x3000 2 - 2063597568)
    else if u.1 = 3 && kv.2.state == .retired then t.modDoor (u.2 / 4) (fun d => { d with bad := d.bad ||| BitVec.ofNat 4 (2 ^ (u.2 % 4)) })
    else t) s

/-- Stages 3 and 4: the sideband answers, the stacks train, and the host port trains for delivery. -/
def Device.startDelivery (s : Device) : Device :=
  let d := s.draw
  let t := d.2.modBoot (fun b => { b with bootid := d.1 % 2 ^ 32 })
  let t := t.modHost (fun h => { h with sideband := 1, link := 1, ptpState := s.odGet 0 0x5010 1 })
  t.setSideband.enterStage 4

/-- POWER_GOOD: stages 1 to 4 of a start. -/
def execPowerGood (p : StartInputs) (s : State) : Host.Outcome State Fault Refusal := onDevice s fun s =>
  if !s.boot.pwrgd || s.boot.stage != 1 || s.boot.state == 4 then .next s
  else
    let clock := if p.external then (if p.externalOk then 1 else 2) else 0
    let fallback := p.external && !p.externalOk
    let t := { s with lintel := {} }.modBoot (fun b => { b with resetLow := false, slot := p.slot % 256, clock, staget := 0, fallback })
    if !p.pufOk then .next (t.startFails 7)
    else
      let t := t.enterStage 2
      if !p.mramOk then .next (t.startFails 11)
      else
        let t := if p.randomOk then t else t.modBoot (fun b => { b with random := false, reason := 9 })
        .next (((t.loadCommitted p.committedOk).loadHistory (p.primaryOk || p.mirrorOk)).applyHistory.startDelivery)

/-- A pseudo-channel that failed boot training: nothing is stored yet, so its rows are in the reserve at once; without a reserve
it is unrepairable (R174–R176, R438). -/
def Device.failAtBoot (s : Device) (n : Nat) : Device :=
  let stack := n / 64
  let pc := n % 64
  if 1280 ≤ n || (s.stack stack).spent == some pc then s
  else if (s.stack stack).spent.isNone then
    ((s.modStack stack (fun k => { k with spent := some pc })).retireUnit 2 0 n).raiseDev 0x3003 1 [(stack, 1), (pc, 1)]
  else s.failChannel stack pc 0

/-- STACK_TRAINING_DONE (R438). -/
def execStackTrainingDone (failed : Option Nat) (bad : List Nat) (s : State) : Host.Outcome State Fault Refusal := onDevice s fun s =>
  if s.boot.stage < 3 || 9 ≤ s.boot.stage || s.boot.trained || s.boot.state == 4 then .next s
  else
    match failed with
    | some _ => .next (s.startFails 8)
    | none => .next (bad.foldl Device.failAtBoot (s.modBoot (fun b => { b with trained := true })))

/-! ## The bundle (R431–R434, R440, R441) -/

/-- A component entry of Table 20-3. -/
structure Component where
  kind   : Nat
  id     : Nat
  cver   : Nat
  offset : Nat
  length : Nat
  digest : BitVec 512
  raw    : Nat
  deriving DecidableEq, Repr

/-- Entry n of a bundle header. -/
def componentAt (header n : Nat) : Component :=
  let e := fld header (512 + 768 * n) 768
  { kind := fld e 0 8, id := fld e 8 16, cver := fld e 32 32, offset := fld e 64 64, length := fld e 128 64,
    digest := BitVec.ofNat 512 (fld e 256 512), raw := e }

def bundleTotal (header : Nat) : Nat := fld header 128 64
def bundleVersion (header : Nat) : Nat := fld header 64 32

/-- The components of a bundle, in header order. -/
def bundleComponents (header : Nat) : List Component := (List.range (min (fld header 48 8) 64)).map (componentAt header)

/-- The ranges and RSV fields of an entry (Table 20-3). -/
def Component.formed (c : Component) (total : Nat) : Bool :=
  decide (c.kind ≤ 5) && (c.kind == 4 || c.id == 0) && (c.kind != 4 || c.id != 0) && fld c.raw 24 8 == 0 && fld c.raw 192 64 == 0
    && c.offset % 4096 == 0 && decide (16384 ≤ c.offset) && decide ((if c.kind = 4 ∨ c.kind = 5 then 4627 else 1) ≤ c.length)
    && decide (c.offset + c.length ≤ total)

/-- No two components overlap. -/
def disjointComponents : List Component → Bool
  | [] => true
  | c :: rest => rest.all (fun d => decide (c.offset + c.length ≤ d.offset ∨ d.offset + d.length ≤ c.offset)) && disjointComponents rest

/-- The format check of Table 20-4. -/
def bundleFormed (header : Nat) : Bool :=
  let cs := bundleComponents header
  let total := bundleTotal header
  fld header 0 32 == 0x5A390B5E && fld header 32 16 == 1 && decide (4 ≤ fld header 48 8 ∧ fld header 48 8 ≤ 21) && fld header 56 8 == 0
    && bundleVersion header != 0 && fld header 96 32 == 0 && decide (16384 ≤ total ∧ total ≤ 2 ^ 29) && fld header 192 320 == 0
    && (span cs.length 64).all (fun n => (componentAt header n).raw == 0) && fld header 49664 15872 == 0 && fld header 102552 28520 == 0
    && cs.all (fun c => c.formed total) && disjointComponents cs

/-- The composition check: kinds 0–3 once each, kind 4 at most 16 times, kind 5 at most once. -/
def bundleComposed (cs : List Component) : Bool :=
  let count (k : Nat) : Nat := (cs.filter (fun c => c.kind == k)).length
  [0, 1, 2, 3].all (fun k => count k == 1) && decide (count 4 ≤ 16) && decide (count 5 ≤ 1)

/-- The first check of Table 20-4 that fails, or 0. -/
def Device.bundleReason (s : Device) (header : Nat) (b : BundleVerdict) : Nat :=
  if !bundleFormed header then 1
  else if !b.sigOk then 2
  else if bundleVersion header < s.odGet 0 0xB010 0 || bundleVersion header < s.mram.fuseFloor then 3
  else if !bundleComposed (bundleComponents header) then 5
  else if !b.digestsOk then 4
  else 0

/-- The bytes of a component. -/
def Component.bytes (c : Component) (bundle : List Byte) : List Byte := (bundle.drop c.offset).take c.length

/-- A release token names this module and its owner (R440). -/
def Device.tokenNames (s : Device) (t : List Byte) : Bool :=
  t.take 16 == bytesOf (Config.factory 2) 16
    && (t.drop 16).take 64 == bytesOf (Config.sha3 (Config.publicKey (Config.factory 1))).toNat 64
    && (t.drop 80).take 64 == bytesOf s.ownerDigest 64 && ((t.drop 144).take 112).all (· == 0)

/-- The owner's release, in one commit (R440). -/
def Device.releaseOwner (s : Device) : Device :=
  let keep (key : Nat) : Bool :=
    (entryOfKey key).all (fun e => (e.index == 0xB010 || !(e.acc == .rwp || e.acc == .ws)) && e.index != 0x1110 && e.index != 0xB040)
  let od := s.od.filter (fun kv => keep kv.1)
  let mram : MramSt := { s.mram with owner := [], sealed := false, rackKey := 0, packs := s.mram.packs.filter (fun p => p.2.2.1 != 2) }
  ({ s with od, mram }).commitSet.setSideband

/-- A test pack of a bundle: one whose signature fails is counted with reason 10, and one that passes is stored or ignored by its
version and the room that is left (R374, R434). Log entry 127 (DEDUCED). -/
def Device.storePack (s : Device) (c : Component) (signer : Nat) : Device :=
  let owned := signer == 2 && s.odGet 0 0xB050 0 == 1 && !s.mram.owner.isEmpty
  if !(signer == 1 || owned) then s.modBoot (fun b => { b with reason := 10, rejects := min 255 (b.rejects + 1) })
  else
    let others := s.mram.packs.filter (fun p => p.1 != c.id)
    let newer := (s.mram.packs.find? (fun p => p.1 == c.id)).all (fun p => decide (p.2.1 < c.cver))
    let fits := decide (others.length < 16 ∧ total (others.map (fun p => p.2.2.2)) + c.length ≤ 2 ^ 25)
    if newer && fits then { s with mram := { s.mram with packs := others ++ [(c.id, c.cver, signer, c.length)] } } else s

/-- The measurements of an accepted bundle (R433). Log entry 131 (DESIGN CHOICE). -/
def measurements (header : Nat) (bytes : List Byte) (cs : List Component) : List (Nat × Nat × Nat × BitVec 512) :=
  (0xFF, 0, Config.factory 4 % 2 ^ 32, BitVec.ofNat 512 (Config.factory 0xFF)) :: (0xFE, 0, bundleVersion header, Config.sha3 bytes)
    :: cs.map (fun c => (c.kind, c.id, c.cver, c.digest))

/-- Stages 6 to 8 of an accepted bundle: firmware, keys and measurements; rails; doors and host port train (Table 20-6). -/
def Device.loadBundle (s : Device) (bundle : List Byte) (b : BundleVerdict) : Device :=
  let bytes := bundle.take 16384
  let header := ofBytes bytes
  let cs := bundleComponents header
  let released := cs.any (fun c => c.kind == 5 && b.tokenOk && s.tokenNames (c.bytes bundle)) && !s.mram.owner.isEmpty
  let t := if released then s.releaseOwner else s
  let t := { t with mram := { t.mram with fuseFloor := Nat.max t.mram.fuseFloor b.burn } }
  let t := (cs.filter (fun c => c.kind == 4)).foldl (fun t c =>
    t.storePack c (((b.signers.find? (fun p => p.1 == c.id)).map Prod.snd).getD 0)) t
  let t := t.modBoot (fun x => { x with version := bundleVersion header, header := bytes, rows := measurements header bytes cs,
                                        bound := none, bytes := [], acked := 0 })
  let t := t.modBoot (fun x => { x with aliasCert := Config.certificate t.aliasSeed deviceSeed })
  let t := (t.modSash 0 (fun x => { x with applied := t.target 0 })).modSash 1 (fun x => { x with applied := t.target 1 })
  ((t.linkDown 1).takeDomain.trainDoors (List.range 24)).enterStage 8

/-! ## Delivery (R435, R436) -/

/-- The delivery of the bundle is under way: stages 4 and 5, with the link up. -/
def Device.takesDelivery (s : Device) : Bool := decide (4 ≤ s.boot.stage) && s.delivering && s.hostUp && s.boot.state != 4

/-- The body of an OFFER (R435). -/
def Device.offerBody (s : Device) : List Byte :=
  bytesOf (Config.factory 2) 16 ++ bytesOf (Config.factory 4) 4 ++ bytesOf s.mram.fuseFloor 4 ++ bytesOf (s.odGet 0 0xB010 0) 4
    ++ bytesOf (Config.sha3 (Config.publicKey (Config.factory 1))).toNat 64

/-- DELIVERY_OFFER. -/
def execDeliveryOffer (s : State) : Host.Outcome State Fault Refusal := onDevice s fun s =>
  if !s.takesDelivery || s.boot.bound.isSome then .next s
  else
    let t := s.sendFrame .host 1 (.delivery 1 0 0 s.offerBody)
    .next (if t.boot.stage = 4 then t.enterStage 5 else t)

/-- A binding ends: the count returns to zero and OFFERs resume. -/
def Device.unbind (s : Device) : Device := s.modBoot (fun b => { b with bound := none, bytes := [], acked := 0, lastAck := none })

/-- An ACK with the bytes accepted in order, at most one in 10 µs. -/
def Device.ackDelivery (s : Device) : Device :=
  if s.boot.lastAck.any (fun t => decide (s.now < t + 10000)) then s
  else
    let n := s.boot.bytes.length
    (s.modBoot (fun b => { b with lastAck := some s.now, acked := n })).sendFrame .host 1 (.delivery 3 n 0 [])

/-- The bytes of the bundle, once TOTAL bytes are accepted. -/
def bundleOf (bytes : List Byte) : Option (List Byte) :=
  if bytes.length < 24 then none
  else
    let total := bundleTotal (ofBytes (bytes.take 24))
    if total ≤ bytes.length then some (bytes.take total) else none

/-- A whole bundle is checked: an ACK with REASON 0 and the stages that follow, or an ABORT with the reason (R432, R436). -/
def Device.checkBundle (s : Device) (bundle : List Byte) (b : BundleVerdict) : Device :=
  let reason := s.bundleReason (ofBytes (bundle.take 16384)) b
  if reason = 0 then (s.sendFrame .host 1 (.delivery 3 bundle.length 0 [])).loadBundle bundle b
  else
    let t := s.modBoot (fun x => { x with reason, rejects := min 255 (x.rejects + 1) })
    t.unbind.sendFrame .host 1 (.delivery 4 0 reason [])

/-- A SEGMENT at its place: what lies within 512 KiB beyond the last ACK is accepted. -/
def Device.acceptSegment (s : Device) (g : Segment) (b : BundleVerdict) : Device :=
  let room := s.boot.acked + 524288 - s.boot.bytes.length
  let part := g.body.take room
  if g.offset != s.boot.bytes.length || part.isEmpty then s.ackDelivery
  else
    let t := s.modBoot (fun x => { x with bytes := x.bytes ++ part, lastSeg := s.now })
    match bundleOf t.boot.bytes with
    | some bundle => t.checkBundle bundle b
    | none => t.ackDelivery

/-- DELIVERY_SEGMENT. -/
def execDeliverySegment (g : Segment) (b : BundleVerdict) (s : State) : Host.Outcome State Fault Refusal := onDevice s fun s =>
  if !s.takesDelivery || g.bootid != s.boot.bootid || g.rsv != 0 || g.body.isEmpty || decide (8192 < g.body.length) then .next s
  else
    match s.boot.bound with
    | some source => .next (if source = g.source then s.acceptSegment g b else s)
    | none =>
      if g.offset = 0 then
        .next ((s.modBoot (fun x => { x with bound := some g.source, bytes := [], acked := 0, lastSeg := s.now })).acceptSegment g b)
      else .next s.ackDelivery

/-- DELIVERY_ABORT. -/
def execDeliveryAbort (source : Nat) (s : State) : Host.Outcome State Fault Refusal := onDevice s fun s =>
  .next (if s.takesDelivery && s.boot.bound == some source then s.unbind else s)

/-- DELIVERY_LAPSE: 5 s without an accepted SEGMENT. -/
def execDeliveryLapse (s : State) : Host.Outcome State Fault Refusal := onDevice s fun s =>
  if !s.takesDelivery || s.boot.bound.isNone || s.now < s.boot.lastSeg + 5000000000 then .next s
  else .next ((s.unbind.modBoot (fun b => { b with reason := 6 })).sendFrame .host 1 (.delivery 4 0 6 []))

/-! ## Ready (R270, R437, R438) -/

/-- A door that has not trained is DOWN (R305, R438); with the unassigned chip number no door trains (R293). -/
def Device.closeDoor (s : Device) (d : Nat) : Device :=
  if (s.door d).state != .training then s
  else
    let t := s.doorDown d
    if s.chip = 0xFFF then t.noteUnassigned else t.raiseDev 0x4004 2 [(d, 1)]

/-- Partition 0 as it exists from Ready on: no pane, no quota, no queue (R270). -/
def Device.createOwner (s : Device) : Device :=
  let k1 := s.draw
  let k2 := k1.2.draw
  k2.2.setPart 0 { state := .active, placeKey := k1.1, xtsKey := k2.1 }

/-- The panes and pseudo-channels that stored packs list fall due; a listed cube row is tested with its pane (R375, R376). -/
def Device.heedLists (s : Device) : Device :=
  (s.mram.packs.flatMap (fun p => Config.packLists p.1 p.2.1)).foldl (fun t kn =>
    match kn.1 with
    | 0 => if kn.2 < 1690 then t.modUnit 1 (kn.2 / 5) (fun u => { u with due := t.units.opsec }) else t
    | 1 => if kn.2 < 338 then t.modUnit 1 kn.2 (fun u => { u with due := t.units.opsec }) else t
    | 2 => if kn.2 < 1280 then t.modUnit 2 kn.2 (fun u => { u with due := t.units.opsec }) else t
    | _ => t) s

/-- The events of Ready. -/
def Device.announceReady (s : Device) : Device :=
  let t := s.raiseDev 0x1001 0 [(s.boot.version, 4)]
  let t := if s.boot.persistLost then t.raiseDev 0x1004 2 else t
  let t := if s.boot.fallback then t.raiseDev 0x1005 1 else t
  if s.boot.reset5 then t.resetDone 5 stOk [] else t

/-- BOOT_READY. -/
def execBootReady (failedPanes : List Nat) (s : State) : Host.Outcome State Fault Refusal := onDevice s fun s =>
  if s.boot.stage != 8 || !s.boot.trained || s.boot.state == 4 then .next s
  else
    let t := (failedPanes.filter (· < 338)).foldl (fun t p => t.retirePane p 0) s
    let t := (List.range 24).foldl Device.closeDoor t
    let t := (t.createOwner.heedLists.noteEmpty 0).noteEmpty 1
    let t := (t.enterStage 9).modBoot (fun b => { b with state := 1, stages := [] })
    .next (t.announceReady.modBoot (fun b => { b with reset5 := false }))

end Sys2Proof.Machine
end

