-- ==== Sys2Proof/Machine/Control.lean ====
section
/-! DEFINITION. The control class (R84, R85, Table 04-9): branches, exit, pane barriers (R64, R65), special registers and
trap. -/

namespace Sys2Proof.Machine

/-! ## Branches -/

/-- An address 8 × `words` bytes from the instruction, when it is a place for an instruction of the code (R84). -/
def Ctx.relative (x : Ctx) (words : Int) : Option Nat :=
  let a := (x.p.pc : Int) + 8 * words
  if decide (0 ≤ a) && x.inCode a.toNat 8 then some a.toNat else none

/-- RCV of bra and jmp: none when it is zero. -/
def Ctx.rcvWords (x : Ctx) : Int := sfld x.w 40 24

/-- Threads of the running path move: `fall` goes on in sequence, each of `taken` to its address. The path splits when the
guard or the target differs; a split without a reconvergence address raises the divergent-branch exception (R85). A
non-zero RCV fixes the address of an atomic's split (R470). -/
def Ctx.branch (x : Ctx) (fall : Mask) (taken : List (Mask × Nat)) (rcv : Option Nat) : Device :=
  let moves := (taken ++ [(fall, x.p.pc + 8)]).filter (fun m => m.1 != 0)
  if rcv.isNone && decide (1 < moves.length) then x.raise 0x22 stMalformed x.p.mask
  else
    let back := (taken.filter (fun m => decide (m.2 ≤ x.p.pc))).foldl (fun a m => a ||| m.1) 0
    let g := match rcv with
      | some r => x.g.fixRcv x.p.mask r
      | none => x.g
    x.s.setGroup x.pane x.slot (g.redirect x.p moves rcv back)

/-- A bra or jmp with its reconvergence address checked: a non-zero RCV outside the code raises instruction fetch when the
branch issues (R85). -/
def Ctx.withRcv (x : Ctx) (k : Option Nat → Device) : Device :=
  if x.rcvWords = 0 then k none
  else
    match x.relative x.rcvWords with
    | some r => k (some r)
    | none => x.raise 0x20 stAccess x.p.mask

/-- bra: lanes whose guard holds go to branch + 8 × TGT (R84, R85). -/
def Ctx.bra (x : Ctx) : Device :=
  x.withRcv (fun rcv =>
    if x.act == 0 then x.branch x.p.mask [] rcv
    else
      match x.relative (sfld x.w 16 24) with
      | some t => x.branch (x.p.mask &&& ~~~x.act) [(x.act, t)] rcv
      | none => x.raise 0x20 stAccess x.act)

def execBra (pane slot : Nat) (w : DWord) (s : State) : Host.Outcome State Fault Refusal := onDevice s fun s =>
  krycha 8 (isWord 0x0 [0x01]) (fun _ => { ok := true }) Ctx.bra pane slot w.toNat 0 s

/-- call: each taking lane gets the offset of the next instruction; a split reconverges there (R84, R85). -/
def Ctx.callBody (x : Ctx) : Device :=
  if x.act == 0 then x.done x.g
  else
    match x.relative (sfld x.w 24 24) with
    | none => x.raise 0x20 stAccess x.act
    | some t =>
      let next := x.p.pc + 8
      let fall := x.p.mask &&& ~~~x.act
      let g := x.g.setVs (lanesOf x.act) x.fD (fun _ => BitVec.ofNat 32 (next - x.l.entry))
      x.s.setGroup x.pane x.slot
        (g.redirect x.p [(x.act, t), (fall, next)] (some next) 0)

def execCall (pane slot : Nat) (w : DWord) (s : State) : Host.Outcome State Fault Refusal := onDevice s fun s =>
  krycha 8 (isWord 0x0 [0x02]) (fun x => { ok := fld x.w 48 16 == 0, wv := [(x.fD, 1)] }) Ctx.callBody pane slot w.toNat 0 s

/-- The target of a jmp lane, a byte offset from ENTRY (R84). -/
def Ctx.jmpTarget (x : Ctx) (lane : Nat) : Nat :=
  x.l.entry + (if bit x.w 24 then x.g.s (fld x.w 16 8) else x.g.v lane (fld x.w 16 8)).toNat

/-- jmp: an indirect target that is no multiple of 8 or lies outside the code raises instruction fetch, and no lane moves
(R84). -/
def Ctx.jmpBody (x : Ctx) : Device :=
  x.withRcv (fun rcv =>
    let lanes := lanesOf x.act
    let bad := lanes.filter (fun l => (x.jmpTarget l - x.l.entry) % 8 != 0 || !x.inCode (x.jmpTarget l) 8)
    if bad.isEmpty then
      let ts := distinct (lanes.map x.jmpTarget)
      x.branch (x.p.mask &&& ~~~x.act) (ts.map (fun t => (maskOf (lanes.filter (fun l => x.jmpTarget l == t)), t))) rcv
    else x.raise 0x20 stAccess (maskOf bad))

def jmpUses (x : Ctx) : Uses :=
  let a := (fld x.w 16 8, 1)
  if bit x.w 24 then { ok := fld x.w 25 15 == 0, s := [a] } else { ok := fld x.w 25 15 == 0, v := [a] }

def execJmp (pane slot : Nat) (w : DWord) (s : State) : Host.Outcome State Fault Refusal := onDevice s fun s =>
  krycha 8 (isWord 0x0 [0x03]) jmpUses Ctx.jmpBody pane slot w.toNat 0 s

/-! ## Barriers and exit -/

/-- The groups of a cohort that have not ended, by slot. -/
def Device.groupsOf (s : Device) (ci : Nat) : SMap Group :=
  match s.cohort? ci with
  | none => []
  | some c => (s.pane c.pane).groups.filter (fun kg => kg.2.cohort == ci)

/-- The live threads of a cohort (R64). -/
def Device.liveThreads (s : Device) (ci : Nat) : Nat := total ((s.groupsOf ci).map (fun kg => laneCount kg.2.live))

/-- The threads of a group that wait at a barrier. -/
def Group.waitingAt (g : Group) (n : Nat) : Mask :=
  (g.paths.filter (fun p => p.st == .barrier n)).foldl (fun m p => m ||| p.mask) 0

/-- The threads of a cohort that have arrived at a barrier. -/
def Device.arrivedAt (s : Device) (ci n : Nat) : Nat := total ((s.groupsOf ci).map (fun kg => laneCount (kg.2.waitingAt n)))

/-- A group's threads that wait at a barrier are released past it (R64). -/
def Group.releaseBarrier (g : Group) (n : Nat) : Group := g.releaseAll (.barrier n) 8

/-- A barrier whose arrived count equals its expected count releases its threads and begins a new phase (R64). -/
def Device.completeBarrier (s : Device) (ci n : Nat) : Device :=
  let arrived := s.arrivedAt ci n
  if decide (0 < arrived) && arrived == s.liveThreads ci then
    let t := (s.groupsOf ci).foldl (fun t kg => t.modGroup ((s.cohort? ci).map (·.pane) |>.getD 0) kg.1 (·.releaseBarrier n)) s
    t.modCohort ci (fun c => { c with barStart := SMap.del c.barStart n })
  else s

/-- Every barrier of a cohort is looked at: an arrival or an exit may complete it (R64). -/
def Device.completeBarriers (s : Device) (ci : Nat) : Device := (List.range 8).foldl (fun t n => t.completeBarrier ci n) s

/-- bar.pane: arrival has the effect of fence.pane and is a switch point; lanes whose guard is false pass over it (R64,
R65, R85). -/
def Ctx.barBody (x : Ctx) : Device :=
  let n := fld x.w 16 3
  if x.act == 0 then x.done x.g
  else if !x.fenceMet 1 then x.hold
  else
    let first := x.s.arrivedAt x.g.cohort n == 0
    let t := x.s.setGroup x.pane x.slot (x.g.block x.p x.act (.barrier n) 8)
    let t := if first then t.modCohort x.g.cohort (fun c => { c with barStart := SMap.put c.barStart n x.s.now }) else t
    t.completeBarriers x.g.cohort

def execBarPane (pane slot : Nat) (w : DWord) (s : State) : Host.Outcome State Fault Refusal := onDevice s fun s =>
  krycha 8 (isWord 0x0 [0x05]) (fun x => { ok := fld x.w 19 45 == 0 }) Ctx.barBody pane slot w.toNat 0 s

/-- exit: the lanes whose guard holds exit; each exit lowers the expected count of every barrier of the cohort (R64,
R85). -/
def Ctx.exitBody (x : Ctx) : Device :=
  if x.act == 0 then x.done x.g
  else
    ((x.s.setGroup x.pane x.slot (x.g.exitLanes x.p x.act 8)).endGroup x.pane x.slot).completeBarriers x.g.cohort

def execExit (pane slot : Nat) (w : DWord) (s : State) : Host.Outcome State Fault Refusal := onDevice s fun s =>
  krycha 8 (isWord 0x0 [0x04]) (fun x => { ok := fld x.w 16 48 == 0 }) Ctx.exitBody pane slot w.toNat 0 s

/-! ## The other control instructions -/

def execNop (pane slot : Nat) (w : DWord) (s : State) : Host.Outcome State Fault Refusal := onDevice s fun s =>
  krycha 8 (isWord 0x0 [0x00]) (fun x => { ok := fld x.w 16 48 == 0 }) (fun x => x.done x.g) pane slot w.toNat 0 s

/-- rdtime: the pane's local view of the lintel goes to an s pair (R37, R84). -/
def Ctx.rdtimeBody (x : Ctx) : Device :=
  if x.act == 0 then x.done x.g else x.done (x.g.setSWide (fld x.w 16 6) (x.s.view x.pane) 2)

def execRdtime (pane slot : Nat) (w : DWord) (s : State) : Host.Outcome State Fault Refusal := onDevice s fun s =>
  krycha 8 (isWord 0x0 [0x06]) (fun x => { ok := fld x.w 22 42 == 0, ws := [(fld x.w 16 6, 2)] }) Ctx.rdtimeBody
    pane slot w.toNat 0 s

/-- The value of an rdsr selector for a lane (R84). -/
def Ctx.special (x : Ctx) (sel lane : Nat) : Word :=
  match sel with
  | 0 => BitVec.ofNat 32 lane
  | 5 => BitVec.ofNat 32 x.g.flags.toNat
  | 6 => BitVec.ofNat 32 (setBit x.l.profile 7 true)
  | k => BitVec.ofNat 32 (fld x.p.mask.toNat (32 * (k - 1)) 32)

/-- The check of rdsr: selectors 0 to 6, selector 0 only to a v register (R84). CLR with a selector other than 5 is
accepted and clears nothing. Log entry 138 (DEDUCED). -/
def rdsrUses (x : Ctx) : Uses :=
  let sel := fld x.w 32 8
  let ds := bit x.w 24
  let ok := decide (sel ≤ 6) && !(sel == 0 && ds) && fld x.w 26 6 == 0 && fld x.w 40 24 == 0
  if ds then { ok, ws := [(x.fD, 1)] } else { ok, wv := [(x.fD, 1)] }

/-- rdsr executes once for the path: an s register, or the v register of every active lane, gets the value (R76, R84). Log entry 21 (DEDUCED). -/
def Ctx.rdsrBody (x : Ctx) : Device :=
  let sel := fld x.w 32 8
  if x.act == 0 then x.done x.g
  else
    let g := if bit x.w 24 then x.g.setS x.fD (x.special sel 0)
      else x.g.setVs (lanesOf x.p.mask) x.fD (x.special sel)
    x.done (if sel == 5 && bit x.w 25 then { g with flags := 0 } else g)

def execRdsr (pane slot : Nat) (w : DWord) (s : State) : Host.Outcome State Fault Refusal := onDevice s fun s =>
  krycha 8 (isWord 0x0 [0x07]) rdsrUses Ctx.rdsrBody pane slot w.toNat 0 s

/-- trap: the trap exception with its STATUS (R93, Table 04-15). -/
def Ctx.trapBody (x : Ctx) : Device := if x.act == 0 then x.done x.g else x.raise 0x2C (fld x.w 16 8) x.act

def execTrap (pane slot : Nat) (w : DWord) (s : State) : Host.Outcome State Fault Refusal := onDevice s fun s =>
  krycha 8 (isWord 0x0 [0x08])
    (fun x => { ok := decide (1 ≤ fld x.w 16 8 ∧ fld x.w 16 8 ≤ 0x0B) && fld x.w 24 40 == 0 }) Ctx.trapBody
    pane slot w.toNat 0 s

end Sys2Proof.Machine
end

