-- ==== Sys2Proof/Machine/CopyUnit.lean ====
section
/-! DEFINITION. The fence class (R86, R189–R192) and the async-copy unit (R68–R71, R88, R198, R469). -/

namespace Sys2Proof.Machine

/-! ## Fences -/

/-- A full or acquire fence holds the group until its ordering is met; at .dev and .sys scope it clears the pane cache (R86, R189). -/
def Ctx.fence (acquireOnly : Bool) (x : Ctx) : Device :=
  let scope := fld x.w 16 2
  if x.act == 0 then x.done x.g
  else if !(if acquireOnly then x.readsMet else x.fenceMet scope) then x.hold
  else x.finish (if 2 ≤ scope then x.s.modPane x.pane Pane.clearCache else x.s) x.g 8

def fenceUses (x : Ctx) : Uses := { ok := fld x.w 20 44 == 0 && decide (fld x.w 18 2 ≤ 2) }

/-- A fence word of one KIND: 0 full, 1 release only, 2 acquire only; KIND 3 is illegal and belongs to the full fence's row
(R86). -/
def fenceRow (kinds : List Nat) (w : Nat) : Bool := isWord 0x7 [0x00] w && kinds.contains (fld w 18 2)

def execFence (pane slot : Nat) (w : DWord) (s : State) : Host.Outcome State Fault Refusal := onDevice s fun s =>
  krycha 8 (fenceRow [0, 3]) fenceUses (Ctx.fence false) pane slot w.toNat 0 s

/-- A release fence: the group goes on, and what its earlier accesses lack holds its later writes (R189). -/
def Ctx.fenceRelease (x : Ctx) : Device :=
  let scope := fld x.w 16 2
  if x.act == 0 then x.done x.g
  else
    let left := x.g.releases.filter (fun r => !x.metBefore r)
    if x.fenceMet scope then x.done { x.g with releases := left }
    else
      x.finish { x.s with mem := { x.s.mem with nextReq := x.s.mem.nextReq + 1 } }
        { x.g with releases := left ++ [x.fenceHere scope] } 8

def execFenceRel (pane slot : Nat) (w : DWord) (s : State) : Host.Outcome State Fault Refusal := onDevice s fun s =>
  krycha 8 (fenceRow [1]) fenceUses Ctx.fenceRelease pane slot w.toNat 0 s

def execFenceAcq (pane slot : Nat) (w : DWord) (s : State) : Host.Outcome State Fault Refusal := onDevice s fun s =>
  krycha 8 (fenceRow [2]) fenceUses (Ctx.fence true) pane slot w.toNat 0 s

/-! ## The copy descriptor (Table 03-7) -/

def dSrc (d : Nat) : Nat := fld d 0 57
def dSrcLs (d : Nat) : Bool := bit d 57
def dDst (d : Nat) : Nat := fld d 64 57
def dDstLs (d : Nat) : Bool := bit d 121
def dRowBytes (d : Nat) : Nat := fld d 128 16
def dRows (d : Nat) : Nat := fld d 144 16
def dSStride (d : Nat) : Nat := fld d 160 32
def dDStride (d : Nat) : Nat := fld d 192 32
def dCtr (d : Nat) : Nat := fld d 224 57
def dCtrLs (d : Nat) : Bool := bit d 281
def dInc (d : Nat) : Nat := fld d 288 16

/-- Field ranges, alignments and RSV fields of a descriptor (R69). -/
def descriptorOk (d : Nat) : Bool :=
  fld d 58 6 == 0 && fld d 122 6 == 0 && fld d 282 6 == 0 && fld d 304 208 == 0
    && dRowBytes d % 4 == 0 && decide (4 ≤ dRowBytes d ∧ dRowBytes d ≤ 32768)
    && dSStride d % 4 == 0 && dDStride d % 4 == 0 && dCtr d % 8 == 0

/-- Whether every row of one side lies in populated local store. -/
def Pane.rowsPopulated (p : Pane) (base stride rows bytes : Nat) : Bool :=
  rows == 0 || p.populated (base + (rows - 1) * stride) bytes

/-- The check of a copy instruction: the status of the copy exception, or the descriptor (R68, R69). -/
def Ctx.readDescriptor (x : Ctx) : Except Nat Nat :=
  let p := x.s.pane x.pane
  let a := (x.g.s (fld x.w 16 6)).toNat
  if a % 64 != 0 then .error stMalformed
  else if !p.populated a 64 then .error stTranslation
  else if p.lsBad a 64 then .error stPoison
  else
    let d := ofBytes (p.readLs a 64)
    if !descriptorOk d then .error stMalformed
    else if (dSrcLs d && !p.rowsPopulated (dSrc d) (dSStride d) (dRows d) (dRowBytes d))
        || (dDstLs d && !p.rowsPopulated (dDst d) (dDStride d) (dRows d) (dRowBytes d))
        || (dCtrLs d && !p.populated (dCtr d) 8) then .error stTranslation
    else if dCtrLs d then .ok d
    else
      match x.s.translate x.part (dCtr d) .write with
      | .error e => .error e
      | .ok _ => .ok d

/-- copy: the descriptor is read and checked, and the copy enters the unit, which holds 64 (R68, R69, R71). -/
def Ctx.copyBody (x : Ctx) : Device :=
  if x.act == 0 then x.done x.g
  else
    let p := x.s.pane x.pane
    if x.acquiring || x.checkHeld || x.releasing || p.drainPending x.slot ((x.g.s (fld x.w 16 6)).toNat, 64) then x.hold
    else
      match x.readDescriptor with
      | .error e => x.raise 0x28 e x.act
      | .ok d =>
        if 64 ≤ p.copies.length then x.hold
        else
          let used := p.copies.map (·.id)
          let id := ((List.range 65).find? (fun i => !used.contains i)).getD 0
          let c : Copy := { id, cohort := x.g.cohort, slot := x.slot, desc := d, stamp := x.s.mem.nextReq }
          x.finish (x.s.setPane x.pane { p with copies := p.copies ++ [c] }) x.g 8

def execCopy (pane slot : Nat) (w : DWord) (s : State) : Host.Outcome State Fault Refusal := onDevice s fun s =>
  krycha 8 (isWord 0x9 [0x00]) (fun x => { ok := fld x.w 22 42 == 0, s := [(fld x.w 16 6, 1)] }) Ctx.copyBody
    pane slot w.toNat 0 s

/-! ## The transfer -/

/-- A read of n bytes on one side of a copy: the bytes and whether a sector of them is poison, or the status that ends the
copy. -/
def Device.copyRead (s : Device) (part pane : Nat) (ls : Bool) (a n : Nat) : Except Nat (Device × List Byte × Bool) :=
  if ls then .ok (s, (s.pane pane).readLs a n, (s.pane pane).lsBad a n)
  else
    match s.translate part a .read with
    | .error e => .error e
    | .ok t =>
      let s := if t.map.kind = 1 then s.ignoreAccess part t.map.queue else s.touchRead part t n (sashOf pane)
      let r := s.readTarget part t n (sashOf pane)
      .ok (s, r.1, r.2)

/-- A write of a part that lies in one sector of the destination, or the status that ends the copy: poison is carried on to
the sector (R70); a poisoned sector that the part does not cover ends the copy with POISON (R469). -/
def Device.copyWrite (s : Device) (part pane : Nat) (ls : Bool) (a : Nat) (data : List Byte) (bad : Bool) : Device × Nat :=
  if ls then
    let p := s.pane pane
    if bad then (s.setPane pane (p.setLsPoison (a / 32) true), stOk)
    else if p.partlyBad a data.length then (s, stPoison)
    else ((s.setPane pane (p.writeLs a data)).clearLostLs pane a data.length, stOk)
  else
    match s.translate part a .write with
    | .error e => (s, e)
    | .ok t =>
      if t.map.kind = 1 then (s.ignoreAccess part t.map.queue, stOk)
      else if bad then (s.carryPoison t.owner t.pool t.off t.map.view part, stOk)
      else s.writeSector t.owner t.pool t.off data t.map.view part

/-- One part of a row, as the copy's data moves. A source part is read in the aligned sectors that it meets. -/
def Device.copyPart (s : Device) (part pane d src dst n : Nat) : Device × Nat :=
  let r := (sectorParts src n).foldl (fun (acc : Except Nat (Device × List Byte × Bool)) on =>
    match acc with
    | .error e => .error e
    | .ok (s, data, bad) =>
      match s.copyRead part pane (dSrcLs d) on.1 on.2 with
      | .error e => .error e
      | .ok (s', b, bad') => .ok (s', data ++ b, bad || bad')) (.ok (s, [], false))
  match r with
  | .error e => (s, e)
  | .ok (s', data, bad) => s'.copyWrite part pane (dDstLs d) dst data bad

/-- The parts of a copy in row order: source address, destination address and length of each. -/
def copyParts (d : Nat) : List (Nat × Nat × Nat) :=
  (List.range (dRows d)).flatMap (fun r =>
    let dst := dDst d + r * dDStride d
    (sectorParts dst (dRowBytes d)).map (fun on => (dSrc d + r * dSStride d + (on.1 - dst), on.1, on.2)))

/-- Some more parts of a copy moved, or all that are left (R181), up to the first failure, with the copy's status (R70). Log entry 38 (DEDUCED). -/
def Device.moveCopy (s : Device) (part pane : Nat) (c : Copy) (n : Nat) : Device × Nat :=
  (partsNow (copyParts c.desc) c.moved n).foldl (fun acc q =>
    if acc.2 = stOk then acc.1.copyPart part pane c.desc q.1 q.2.1 q.2.2 else acc) (s, c.status)

/-- A part that a copy would move meets a stack that holds accesses back (R171, R174). -/
def Device.copyHeld (s : Device) (part : Nat) (c : Copy) (n : Nat) : Bool :=
  s.anyHeld && (partsNow (copyParts c.desc) c.moved n).any (fun q =>
    let meets (ls : Bool) (a : Nat) (write : Bool) : Bool :=
      !ls && match s.translate part a (if write then .write else .read) with
        | .ok t => s.rangeHeld t q.2.2 write
        | .error _ => false
    meets (dSrcLs c.desc) q.1 false || meets (dDstLs c.desc) q.2.1 true)

/-- The place of a byte on one side of a copy: local store or memory, and where. -/
def Device.bytePlace (s : Device) (part : Nat) (ls : Bool) (a : Nat) : Option (Bool × Nat) :=
  if ls then some (true, a)
  else
    match s.translate part a .read with
    | .ok t => if t.map.kind = 0 then some (false, memKey t.owner t.pool 0 t.off) else none
    | .error _ => none

/-- Overlapping source and destination leave the overlap's contents undefined: free bytes (R70). -/
def Device.scramble (s : Device) (part pane d : Nat) : Device :=
  let src := (copyParts d).flatMap (fun q => (List.range q.2.2).filterMap (fun i => s.bytePlace part (dSrcLs d) (q.1 + i)))
  if src.isEmpty then s
  else
    (copyParts d).foldl (fun t q => (List.range q.2.2).foldl (fun t i =>
      match s.bytePlace part (dDstLs d) (q.2.1 + i) with
      | none => t
      | some pl =>
        if src.contains pl then
          let (n, u) := t.draw
          let b : Byte := BitVec.ofNat 8 n
          if dDstLs d then u.modPane pane (·.putLs (q.2.1 + i) [b])
          else
            match u.translate part (q.2.1 + i) .write with
            | .ok tg => (u.copies tg.owner tg.pool).foldl (fun v c => v.putBytes tg.owner tg.pool c tg.off [b])
                (u.flushPartners tg.owner tg.pool (tg.off / 32 * 32))
            | .error _ => u
        else t) t) s

/-- The cached sectors that a copy's destination meets (R185). -/
def Device.copyKeys (s : Device) (part d : Nat) : List Nat :=
  if dDstLs d then []
  else distinct ((copyParts d).filterMap (fun q =>
    match s.translate part q.2.1 .write with
    | .ok t => some (sectorKey t.owner t.pool 0 t.off)
    | .error _ => none))

/-- Whether two sides of a copy can overlap: they lie in the same kind of place. -/
def sidesMeet (d : Nat) : Bool := dSrcLs d == dDstLs d

/-- Whether a store of the pane from before a copy has yet to be performed at every copy (R198). -/
def Device.storesBefore (s : Device) (pane : Nat) (c : Copy) : Bool :=
  s.mem.reqs.any (fun r => r.pane == pane && r.load.isNone && (!r.served || s.forwarding r.id) && decide (r.id < c.stamp))

/-- A copy moves some of its parts. When they are all moved, or one has failed, it ends: once every copy of what it wrote is written, the pane's cached
copies of the destination are dropped and its counter is incremented by INC with its status (R70, R165, R185). -/
def Device.runCopy (s : Device) (part pane : Nat) (c : Copy) (n : Nat) : Device :=
  let r := s.moveCopy part pane c n
  let waits := c.waits ++ r.1.newForwards s
  let whole := n == 0 || decide ((copyParts c.desc).length ≤ c.moved + n)
  if r.2 != stOk || whole then
    let t := if sidesMeet c.desc then r.1.scramble part pane c.desc else r.1
    let u := t.modPane pane (fun p => { p with copies := p.copies.filter (fun k => k.id != c.id) })
    u.whenWritten waits (.counter part (!dCtrLs c.desc) pane (dCtr c.desc) (dInc c.desc) r.2 (u.copyKeys part c.desc))
  else
    r.1.modPane pane (fun p => { p with copies := p.copies.map (fun k => if k.id = c.id then { k with moved := c.moved + n, status := r.2, waits } else k) })

/-- COPY_COMPLETE (R70, R181): some of a copy's parts, in row order, or all that are left. -/
def execCopyComplete (pane copy : Nat) (s : State) (parts : Nat := 0) : Host.Outcome State Fault Refusal := onDevice s fun s =>
  match (s.pane pane).copies.find? (fun c => c.id == copy) with
  | none => .next s
  | some c =>
    match s.cohort? c.cohort with
    | none => .next s
    | some k => if s.storesBefore pane c || s.copyHeld k.part c parts then .next s else .next (s.runCopy k.part pane c parts)

end Sys2Proof.Machine
end

