-- ==== Sys2Proof/Machine/Detect.lean ====
section
/-! DEFINITION. Detectors and what follows (R66, R117, R118, R352–R358, R361, R362, R365), the in-field tests of panes
(R376, R377) and the end of a migration (R371). -/

namespace Sys2Proof.Machine

/-! ## Barrier timeout (R66, R67) -/

/-- The absent lanes of a group at a barrier, and its fault record. -/
def Device.absentRecord (s : Device) (ci bar pane : Nat) (kg : Nat × Group) : List FaultRec :=
  let absent := kg.2.live &&& ~~~(kg.2.waitingAt bar)
  if absent == 0 then []
  else
    let pc := ((kg.2.pathOf? (lowLane absent)).map (·.pc)).getD 0
    [s.faultRec ci pane kg.1 kg.2 0x30 bar pc absent]

/-- BARRIER_TIMEOUT (R66). Log entry 44 (DEDUCED). -/
def execBarrierTimeout (cohort bar : Nat) (s : State) : Host.Outcome State Fault Refusal := onDevice s fun s =>
  match s.cohort? cohort with
  | none => .next s
  | some c =>
    match SMap.find c.barStart bar with
    | none => .next s
    | some t0 =>
      if c.fault.isSome || s.now < t0 + 1000 * s.odGet c.part 0x6110 0 then .next s
      else .next (s.stopCohort cohort stTimeout ((s.groupsOf cohort).flatMap (s.absentRecord cohort bar c.pane)))

/-! ## Cube steps (R117, R118, R361, R362, R365) -/

/-- The operations of a cohort that verdicts still hold complete with RETRACTED and are never sent (R361). -/
def Device.dropHeldOps (s : Device) (pane cohort : Nat) : Device :=
  ((s.paneOps pane).filter (fun o => o.cohort == cohort && !o.held.isEmpty)).foldl (fun t o => t.completeOp o stRetracted) s |>.sendReady pane

/-- A group that read a tile out, as its slot holds it, or what the reading left of one that has ended. -/
def Device.readerGroup (s : Device) (pane ci : Nat) (r : Reader) : Group :=
  let width := (((s.cohort? ci).bind (fun c => s.launch? c.part c.launch)).map (·.width)).getD 0
  match s.group? pane r.slot with
  | some g => if g.cohort = ci ∧ g.gic = r.gic then g else { cohort := ci, gic := r.gic, width, vcount := 0 }
  | none => { cohort := ci, gic := r.gic, width, vcount := 0 }

/-- The cohort of groups that read a failed step's tile out stops with CODE 0x31 (R118). The address in the record of a group that has
ended is a free value. Log entry 148 (DESIGN CHOICE). -/
def Device.stopReaders (s : Device) (pane ci : Nat) (rs : List Reader) : Device :=
  let (d, t) := s.draw
  let recs := rs.map (fun r =>
    let g := t.readerGroup pane ci r
    t.faultRec ci pane r.slot g 0x31 0xFF ((g.cur?.map (·.pc)).getD (d % 2 ^ 57)) 0)
  (t.stopCohort ci stRetracted recs).dropHeldOps pane ci

/-- The readers of a tile are stopped, cohort by cohort. -/
def Device.stopTile (s : Device) (pane : Nat) (u : CubeStep) (tile : Nat) : Device :=
  let rs := u.readers.filter (fun r => r.tile == tile)
  (distinct (rs.map (·.cohort))).foldl (fun t ci => t.stopReaders pane ci ((rs.filter (fun r => r.cohort == ci)).eraseDups)) s

/-- The steps that a failed step takes with it, in order: itself and every later one into the same tiles (R117). The rest stay. -/
def stepsWith (u : CubeStep) (later : List CubeStep) : List CubeStep × List CubeStep :=
  let r := later.foldl (fun (a : List CubeStep × List CubeStep × List Nat) v =>
    if v.live && v.tiles.any a.2.2.contains then (a.1 ++ [v], a.2.1, a.2.2 ++ v.tiles) else (a.1, a.2.1 ++ [v], a.2.2)) ([u], [], u.tiles)
  (r.1, r.2.1)

/-- Once no step of a pane is in flight, its row map catches up, and the steps that wait for it are repeated (R99, R117). -/
def Device.settleRows (s : Device) (pane : Nat) (errors : List CubeError) : Device :=
  let p := s.pane pane
  if !p.steps.isEmpty then s
  else
    let t := s.applyRows (s.phys pane)
    if p.redo.isEmpty then t else (t.modPane pane (fun p => { p with redo := [] })).repeatSteps pane errors p.redo

/-- A physical cube row that a detector names is suspect, unless it is retired (R365). -/
def Device.doubtRow (s : Device) (phys row : Nat) : Device :=
  if (s.unit 0 (phys * 5 + row)).state == .retired then s else s.suspectRow phys row

/-- The steps of a pane with those of a failed one taken out, and their tiles as before it. -/
def Device.takeBack (s : Device) (pane : Nat) (mine others : List CubeStep) : Device :=
  (s.modPane pane (fun p => { p with steps := others })).undoSteps pane (mine.filter (·.live))

/-- A tile of the oldest steps fails its check (R117, R118, R361, R362, R365). The readers stop and a retract is sent. What the steps
and the later ones into their tiles wrote is undone; the first time they are repeated; when the repeat names a row again, the row is permanent, and
they wait for the row map without it. -/
def Device.failTile (s : Device) (pane : Nat) (errors : List CubeError) (u : CubeStep) (tile : Nat) (rows : List Nat) (later : List CubeStep) : Device :=
  let t := s.stopTile pane u tile
  let t := match (s.pane pane).part with
    | some part => if u.retract then t.sendRetract part pane (u.visible / 256) (s.view pane / 256) else t
    | none => t
  let u := { u with readers := u.readers.filter (fun r => r.tile != tile) }
  let (mine, others) := if u.live then stepsWith u later else ([u], later)
  let worn := rows.filter u.again.contains
  let marked (again : List Nat) : List CubeStep := mine.map (fun v => if v.id = u.id then { v with again } else v)
  let t := t.takeBack pane mine others
  if worn.isEmpty then t.repeatSteps pane errors (marked (distinct (u.again ++ rows)))
  else
    let t := t.modPane pane (fun p => { p with redo := p.redo ++ marked (rows.filter (fun r => !u.again.contains r)) })
    worn.foldl (fun t r => if (t.unit 0 (u.phys * 5 + r)).state == .retired then t else t.retireRow u.phys r 1) t

/-- A tile of the oldest steps passes. With the last one the steps are done: operations that waited for them may leave, and rows
whose repeat has passed are tested (R119, R365). -/
def Device.passTile (s : Device) (pane : Nat) (u : CubeStep) (out : List (Nat × List Nat)) (later : List CubeStep) : Device :=
  if out.isEmpty then
    let t := (s.modPane pane (fun p => { p with steps := later })).releaseHeld pane u.id
    u.again.foldl (fun t r => t.doubtRow u.phys r) t
  else s.modPane pane (fun p => { p with steps := { u with out } :: later })

/-- The faults of steps, by the place where they act. -/
def cubeErrors (sums accs rounds : List StepFault) : List CubeError :=
  sums.map (fun f => { kk := f.kk, i := f.i, j := f.j, sum := f.off })
    ++ accs.map (fun f => { kk := f.kk, i := f.i, j := f.j, acc := f.off })
    ++ rounds.map (fun f => { kk := f.kk, i := f.i, j := f.j, round := f.off })

/-- CUBE_STEP_VERDICT (R117): the verdict of the oldest step that has none, with the errors that its repeat meets. Log entry 98 (DESIGN CHOICE). -/
def execCubeStepVerdict (pane : Nat) (sums accs rounds : List StepFault) (s : State) : Host.Outcome State Fault Refusal := onDevice s fun s =>
  let errors := cubeErrors sums accs rounds
  match (s.pane pane).steps with
  | [] => .next s
  | u :: later =>
    match u.out with
    | (tile, r :: rows) :: _ => .next ((s.failTile pane errors u tile (r :: rows) later).settleRows pane errors)
    | out => .next ((s.passTile pane u (out.drop 1) later).settleRows pane errors)

/-! ## Vector results (R353, R358, R365) -/

/-- A pane that a vector check names: permanent when the second evaluation mismatches too, else it is tested (R365). -/
def Device.judgePane (s : Device) (phys : Nat) (again : Bool) : Device :=
  if (s.unit 1 phys).state == .retired then s
  else if again then s.retirePane phys 1
  else s.startPaneTest phys true

/-- VECTOR_CHECK (R353). -/
def execVectorCheck (pane slot : Nat) (lanes : Mask) (mismatch again : Bool) (s : State) : Host.Outcome State Fault Refusal := onDevice s fun s =>
  match s.group? pane slot with
  | none => .next s
  | some g =>
    let t := s.setGroup pane slot { g with unchecked := g.unchecked - 1 }
    if mismatch then
      .next ((t.except pane slot g 0x32 stRetracted ((g.cur?.map (·.pc)).getD 0) lanes).judgePane (s.phys pane) again)
    else .next t

/-! ## Handshakes (R26, Table 16-3) -/

/-- A dual-rail fault in a cube row: the steps in flight are discarded, the row is tested with the spare in its place, and the steps are
repeated (R357). -/
def Device.faultRow (s : Device) (pane row : Nat) : Device :=
  let phys := s.phys pane
  if 5 ≤ row then s
  else if (s.logicalRows phys).contains row then
    let p := s.pane pane
    let t := (s.takeBack pane p.steps []).modPane pane (fun q => { q with redo := p.redo ++ p.steps })
    (t.doubtRow phys row).settleRows pane []
  else s.doubtRow phys row

/-- A handshake-code or stall fault by its place. -/
def Device.dualRail (s : Device) (loc : FaultLoc) : Device :=
  match loc with
  | .cubeRow pane row => if pane < 320 && s.paneState pane != .vacant then s.faultRow pane row else s
  | .paneOther pane => if pane < 320 then s.withdrawPane pane else s
  | .meshThrough sash => s.escalate (sash % 2) (fun t => t.startSash (sash % 2) none)
  | .mullion => s.escalate 2 Device.deviceReset
  | .sillLogic stack => if stack < 20 then s.escalate (3 + stack) (fun t => t.startSash (sashOfStack stack) none) else s
  | .frameDie => s.escalate 23 Device.deviceReset

/-- The module watches its handshakes while it has power and is not at FAULT. -/
def Device.watching (s : Device) : Bool := s.boot.pwrgd && s.boot.state != 4

/-- HANDSHAKE_CODE_FAULT (R26). Log entry 168 (DEDUCED). -/
def execHandshakeCodeFault (loc : FaultLoc) (s : State) : Host.Outcome State Fault Refusal := onDevice s fun s =>
  if s.watching then .next (s.dualRail loc) else .next s

/-- A handshake shows a hold token now. -/
def Device.noteHold (s : Device) (loc : FaultLoc) : Device :=
  { s with units := { s.units with holds := s.units.holds.filter (fun h => h.1 != loc) ++ [(loc, s.now)] } }

/-- How long a handshake that has not completed since a time has gone without a hold (R26). -/
def Device.stalledFor (s : Device) (loc : FaultLoc) (since : Nat) : Nat :=
  s.now - ((s.units.holds.find? (fun h => h.1 == loc)).map (max since ·.2)).getD since

/-- STALL_FAULT (R26): a handshake is incomplete since a time. Under a hold token its timer is cleared; past the stall limit without one
it is a fault. Log entry 149 (DESIGN CHOICE). -/
def execStallFault (loc : FaultLoc) (held : Bool) (s : State) (since : Nat := 0) : Host.Outcome State Fault Refusal := onDevice s fun s =>
  if !s.watching then .next s
  else if held then .next (s.noteHold loc)
  else if 1000 * s.odGet 0 0x8010 0 < s.stalledFor loc since then .next (s.dualRail loc)
  else .next s

/-! ## In-field tests of panes and pseudo-channels (R376, R377) -/

/-- A spare that a migration has chosen. -/
def Device.chosen (s : Device) (phys : Nat) : Bool :=
  s.units.moves.any (fun kv => match kv.2 with
    | .migrate q _ => q == phys
    | _ => false)

/-- A unit's test falls due (R376, R378): a pseudo-channel's runs beside its traffic; a pane's runs at once when it holds no
cohort, and is deferred otherwise. -/
def Device.testDue (s : Device) (kind number : Nat) : Device :=
  if kind = 2 then s.modUnit 2 number (fun u => { u with state := .testing })
  else
    match s.numberOf number with
    | some a =>
      if s.paneEmpty a then s.startPaneTest number false
      else
        let t := s.modUnit 1 number (fun u => { u with dueAt := some (u.dueAt.getD s.now) })
        t.raiseDev 0x9001 0 [(1, 1), (number, 2), (s.now + 1000000 * s.odGet 0 0x9000 0, 8)]
    | none => s.startPaneTest number false

/-- A unit whose test can fall due: in use or spare, with no test or move under way. -/
def Device.testable (s : Device) (kind number : Nat) : Bool :=
  let u := s.unit kind number
  decide (number < unitCount kind) && (u.state == .good || u.state == .spare) && u.dueAt.isNone
    && !(kind == 1 && (s.chosen number || ((s.numberOf number).bind (SMap.find s.units.moves)).isSome))

/-- IN_FIELD_TEST_DUE (R376). -/
def execInFieldTestDue (kind number : Nat) (s : State) : Host.Outcome State Fault Refusal := onDevice s fun s =>
  if (kind == 1 || kind == 2) && s.ready && s.testable kind number && decide ((s.unit kind number).due ≤ s.units.opsec) then
    .next (s.testDue kind number)
  else .next s

/-- A pane whose test waits for longer than a limit in milliseconds. -/
def Device.waitsPast (s : Device) (pane ms : Nat) : Bool :=
  let u := s.unit 1 (s.phys pane)
  decide (pane < 320) && s.paneState pane == .active && u.state == .good && (SMap.find s.units.moves pane).isNone
    && !s.paneEmpty pane && u.dueAt.any (fun d => decide (d + 1000000 * ms ≤ s.now))

/-- TEST_DEFERRAL_DEADLINE (R376): the cohorts migrate to a free spare; without one the test waits. -/
def execTestDeferralDeadline (pane : Nat) (s : State) : Host.Outcome State Fault Refusal := onDevice s fun s =>
  if s.waitsPast pane (s.odGet 0 0x9000 0) then .next (s.startPaneTest (s.phys pane) false) else .next s

/-- HARD_TEST_LIMIT (R377): with no spare free, the pane's groups pause and it is tested. -/
def execHardTestLimit (pane : Nat) (s : State) : Host.Outcome State Fault Refusal := onDevice s fun s =>
  if s.waitsPast pane (s.odGet 0 0x9001 0) && (s.spareFor (s.phys pane)).isNone then
    let t := (s.modPane pane (fun p => { p with paused := true })).setMove pane (some .pause)
    .next (t.modUnit 1 (s.phys pane) (fun u => { u with state := .testing }))
  else .next s

/-! ## Migration (R371) -/

/-- What a migration waits for (R371 3 and 4): verdicts, operations in flight, loads, and stores not yet performed. -/
def Device.settledPane (s : Device) (pane : Nat) : Bool :=
  let p := s.pane pane
  p.steps.isEmpty && p.redo.isEmpty && (s.paneOps pane).isEmpty && p.groups.all (fun kg => kg.2.loads.isEmpty)
    && (s.cohortsOn pane).all (fun ci => ((s.cohort? ci).map (·.left)).getD [] |>.isEmpty)
    && s.mem.reqs.all (fun r => r.pane != pane || (r.served && !s.forwarding r.id))

/-- The replacement of a migrating pane raises a detection (R373): it is marked TESTING, and the migration goes on to the next free spare.
With none, the cohorts resume on the old pane, or end with 0x33 when that is permanent. -/
def Device.failMigration (s : Device) (pane : Nat) : Device :=
  match SMap.find s.units.moves pane with
  | some (.migrate q retire) =>
    let old := s.phys pane
    let t := s.modUnit 1 q (fun u => { u with state := .testing, judged := true })
    match t.spareFor old, retire with
    | some r, _ => (t.modUnit 1 r (fun u => { u with state := .good })).setMove pane (some (.migrate r retire))
    | none, none => ((t.setPaneState pane .active).setMove pane none).deliverHeld pane
    | none, some cause => ((t.retireUnit 1 cause old).answerTest 1 old stRetired).vacate pane
  | _ => s

/-- PANE_MIGRATED (R371), or a detection on the replacement (R373). -/
def execPaneMigrated (pane : Nat) (s : State) (detected : Bool := false) : Host.Outcome State Fault Refusal := onDevice s fun s =>
  if detected then .next (s.failMigration pane)
  else if s.settledPane pane then .next (s.finishMigration pane)
  else .next s

end Sys2Proof.Machine
end

