-- ==== Sys2Proof/Machine/FloatOps.lean ====
section
/-! DEFINITION. The floating-point classes FP32, FP64 and packed FP16 (R79, R80, Table 04-6). -/

namespace Sys2Proof.Machine

def execFpAdd (pane slot : Nat) (w : DWord) (s : State) : Host.Outcome State Fault Refusal := onDevice s fun s =>
  fpOp [2, 3, 4] 0x00 true true .none true (fun f rm a b _ => fpAdd f rm a b) pane slot w s

def execFpSub (pane slot : Nat) (w : DWord) (s : State) : Host.Outcome State Fault Refusal := onDevice s fun s =>
  fpOp [2, 3, 4] 0x01 true true .none true (fun f rm a b _ => fpSub f rm a b) pane slot w s

def execFpMul (pane slot : Nat) (w : DWord) (s : State) : Host.Outcome State Fault Refusal := onDevice s fun s =>
  fpOp [2, 3, 4] 0x02 true true .none true (fun f rm a b _ => fpMul f rm a b) pane slot w s

def execFpFma (pane slot : Nat) (w : DWord) (s : State) : Host.Outcome State Fault Refusal := onDevice s fun s =>
  fpOp [2, 3, 4] 0x03 false true .reg true (fun f rm a b c => fpFma f rm a b c) pane slot w s

def execFpMin (pane slot : Nat) (w : DWord) (s : State) : Host.Outcome State Fault Refusal := onDevice s fun s =>
  fpOp [2, 3, 4] 0x04 true true .none false (fun f _ a b _ => fpPick f false a b) pane slot w s

def execFpMax (pane slot : Nat) (w : DWord) (s : State) : Host.Outcome State Fault Refusal := onDevice s fun s =>
  fpOp [2, 3, 4] 0x05 true true .none false (fun f _ a b _ => fpPick f true a b) pane slot w s

def execFpAbs (pane slot : Nat) (w : DWord) (s : State) : Host.Outcome State Fault Refusal := onDevice s fun s =>
  fpOp [2, 4] 0x06 false false .none false (fun f _ a _ _ => (fpAbs f a, 0)) pane slot w s

def execFpNeg (pane slot : Nat) (w : DWord) (s : State) : Host.Outcome State Fault Refusal := onDevice s fun s =>
  fpOp [2, 4] 0x07 false false .none false (fun f _ a _ _ => (fpNeg f a, 0)) pane slot w s

/-- The shape of a compare: MOD[2:0] is the condition, 0–6 (Table 04-6). -/
def fpSetpShape (x : Ctx) : Shape :=
  { mods := [0, 1, 2, 3, 4, 5, 6], dp := true, na := fpCount x.cls, nb := fpCount x.cls }

/-- The compare of each lane whose guard holds, with its flags. -/
def Ctx.fpSetpBody (x : Ctx) : Device :=
  let lanes := lanesOf x.act
  let cmp := fun l => fpCompare (if x.cls = 3 then fp64 else fp32) (x.mod % 8) (x.fpA l) (x.fpB l)
  let g := x.g.setP x.fD x.act (maskWhere lanes (fun l => (cmp l).1))
  x.done (g.raiseFlags (unionFlags (lanes.map (fun l => (cmp l).2))))

def execFpSetp (pane slot : Nat) (w : DWord) (s : State) : Host.Outcome State Fault Refusal := onDevice s fun s =>
  krycha 8 (fpRow [2, 3] 0x08 true) (fun x => (fpSetpShape x).uses x) Ctx.fpSetpBody pane slot w.toNat 0 s

/-! ## Conversions (R79, R80) -/

/-- How many registers the values of D and A of a cvt take: two where the value is a binary64. A 32-bit value of the FP64 class
lies in the low register of the pair that its field names (R80). Log entry 140 (DEDUCED). -/
def cvtCounts (cls sel : Nat) : Nat × Nat :=
  if cls = 3 then
    match sel with
    | 0 => (2, 1)
    | 1 => (1, 2)
    | 2 => (2, 1)
    | _ => (1, 2)
  else (1, 1)

/-- The shape of a cvt: in the FP64 class D and A name pairs; only the packing conversions of the FP16 class read B; in that class MOD[1] is 0 (R80). -/
def cvtShape (x : Ctx) : Shape :=
  let sel := x.mod / 4
  let n := fpCount x.cls
  let pack := x.cls == 4 && (sel == 0 || sel == 3)
  let mods := if x.cls = 4 then [0, 1, 4, 5, 8, 9, 12, 13] else List.range 16
  { b := pack, mods, nd := n, na := n }

/-- The conversion that MOD[3:2] selects in a class, of operands A and B. -/
def cvtValue (cls mod a b : Nat) : Nat × Flags5 :=
  let rm := rmOf (mod % 4)
  match cls, mod / 4 with
  | 2, 0 => fpOfInt fp32 rm false a
  | 2, 1 => fpOfInt fp32 rm true a
  | 2, 2 => fpToInt fp32 rm false a
  | 2, _ => fpToInt fp32 rm true a
  | 3, 0 => fpConvert fp32 fp64 rm a
  | 3, 1 => fpConvert fp64 fp32 rm a
  | 3, 2 => fpOfInt fp64 rm false a
  | 3, _ => fpToInt fp64 rm false a
  | _, 0 =>
    let lo := fpConvert fp32 fp16 rm a
    let hi := fpConvert fp32 fp16 rm b
    (lo.1 + 2 ^ 16 * hi.1, lo.2 ||| hi.2)
  | _, 1 => fpConvert (if bit mod 0 then bf16 else fp16) fp32 .rne (fld a 0 16)
  | _, 2 => fpConvert (if bit mod 0 then bf16 else fp16) fp32 .rne (fld a 16 16)
  | _, _ =>
    let lo := fpConvert fp32 bf16 rm a
    let hi := fpConvert fp32 bf16 rm b
    (lo.1 + 2 ^ 16 * hi.1, lo.2 ||| hi.2)

/-- The second operand of a packing conversion: one register. -/
def Ctx.cvtB (x : Ctx) (lane : Nat) : Nat := (if x.bs then x.g.s x.fB else x.g.v lane x.fB).toNat

def Ctx.cvtBody (x : Ctx) : Device :=
  let n := cvtCounts x.cls (x.mod / 4)
  x.fpVector n.1 (fun l => cvtValue x.cls x.mod (x.g.vWide l x.fA n.2) (x.cvtB l))

def execCvt (pane slot : Nat) (w : DWord) (s : State) : Host.Outcome State Fault Refusal := onDevice s fun s =>
  krycha 8 (fpRow [2, 3, 4] 0x09 false) (fun x => (cvtShape x).uses x) Ctx.cvtBody pane slot w.toNat 0 s

/-! ## Special functions (FP32 only) -/

def execRcp (pane slot : Nat) (w : DWord) (s : State) : Host.Outcome State Fault Refusal := onDevice s fun s =>
  fpOp [2] 0x10 false false .none false
    (fun f _ a _ _ => let r := recip f .rne (f.decode a); (r.1, r.2 ||| flagIf (f.isSNan a) fInvalid)) pane slot w s

def execSqrt (pane slot : Nat) (w : DWord) (s : State) : Host.Outcome State Fault Refusal := onDevice s fun s =>
  fpOp [2] 0x11 false false .none false
    (fun f _ a _ _ => let r := sqroot f .rne (f.decode a); (r.1, r.2 ||| flagIf (f.isSNan a) fInvalid)) pane slot w s

/-- A function that R79 fixes without defining its bits: IEEE 754 gives its value at the operands of `exact`; a NaN gives
the canonical NaN; elsewhere it is a fixed function of the input bits (Config), held to the bound of Table 04-6. -/
def special (op : Nat) (exact : Val → Option (Nat × Flags5)) (held : Val → Nat → Nat) (f : Word → Word) (a : Nat) : Nat × Flags5 :=
  let v := fp32.decode a
  if v.isNan then (fp32.qnan, flagIf (fp32.isSNan a) fInvalid)
  else
    match exact v with
    | some r => r
    | none => (held v (f (BitVec.ofNat 32 a)).toNat, Config.specialFlags op (BitVec.ofNat 32 a))

def isZero : Val → Bool
  | .fin _ m _ => m == 0
  | _ => false

/-- IEEE 754-2019 rSqrt, exp2, log2 and the trigonometric functions at zeros, infinities and out of their domain. -/
def rsqrtExact (v : Val) : Option (Nat × Flags5) :=
  if isZero v then some (fp32.ofInf v.negative, fDivZero)
  else if v.negative then some (fp32.qnan, fInvalid)
  else match v with
    | .inf _ => some (0, 0)
    | _ => none

def exp2Exact : Val → Option (Nat × Flags5)
  | .inf neg => some (if neg then 0 else fp32.ofInf false, 0)
  | _ => none

def log2Exact (v : Val) : Option (Nat × Flags5) :=
  if isZero v then some (fp32.ofInf true, fDivZero)
  else if v.negative then some (fp32.qnan, fInvalid)
  else match v with
    | .inf _ => some (fp32.ofInf false, 0)
    | _ => none

def trigExact : Val → Option (Nat × Flags5)
  | .inf _ => some (fp32.qnan, fInvalid)
  | _ => none

/-- A sine or cosine held to 2 ulp, and beyond abs(A) = 2^20 to [−1, 1] (R79). -/
def heldTrig (cosine : Bool) (v : Val) (free : Nat) : Nat :=
  let bound : Val := .fin false 1 20
  if !bound.lt v && !bound.lt v.neg then heldTo2Ulp (trigValue cosine v) free
  else if 0x3F800000 < free % 2 ^ 31 then free / 2 ^ 31 * 2 ^ 31 + 0x3F800000
  else free

def execRsqrt (pane slot : Nat) (w : DWord) (s : State) : Host.Outcome State Fault Refusal := onDevice s fun s =>
  fpOp [2] 0x12 false false .none false (fun _ _ a _ _ => special 0x12 rsqrtExact (fun v => heldTo2Ulp (rsqrtValue v)) Config.rsqrt a) pane slot w s

/-- exp2 of a finite operand above 128 lies more than 2 ulp beyond the greatest binary32 number: IEEE 754 gives +∞ with
overflow and inexact. Of one below −149 the result is tiny and never exact. Log entry 19 (DEDUCED). -/
def exp2Of (a : Nat) : Nat × Flags5 :=
  if 0x43000000 < a ∧ a < 0x7F800000 then (fp32.ofInf false, fOverflow ||| fInexact)
  else if 0xC3150000 < a ∧ a < 0xFF800000 then (heldTo2Ulp (exp2Value (fp32.decode a)) (Config.exp2 (BitVec.ofNat 32 a)).toNat, fUnderflow ||| fInexact)
  else special 0x13 exp2Exact (fun v => heldTo2Ulp (exp2Value v)) Config.exp2 a

def execExp2 (pane slot : Nat) (w : DWord) (s : State) : Host.Outcome State Fault Refusal := onDevice s fun s =>
  fpOp [2] 0x13 false false .none false (fun _ _ a _ _ => exp2Of a) pane slot w s

def execLog2 (pane slot : Nat) (w : DWord) (s : State) : Host.Outcome State Fault Refusal := onDevice s fun s =>
  fpOp [2] 0x14 false false .none false (fun _ _ a _ _ => special 0x14 log2Exact (fun v => heldTo2Ulp (log2Value v)) Config.log2 a) pane slot w s

def execSin (pane slot : Nat) (w : DWord) (s : State) : Host.Outcome State Fault Refusal := onDevice s fun s =>
  fpOp [2] 0x15 false false .none false (fun _ _ a _ _ => special 0x15 trigExact (heldTrig false) Config.sin a) pane slot w s

def execCos (pane slot : Nat) (w : DWord) (s : State) : Host.Outcome State Fault Refusal := onDevice s fun s =>
  fpOp [2] 0x16 false false .none false (fun _ _ a _ _ => special 0x16 trigExact (heldTrig true) Config.cos a) pane slot w s

end Sys2Proof.Machine
end

