-- ==== Sys2Proof/Machine/Integer.lean ====
section
/-! DEFINITION. The integer vector class and the scalar class (R78, R81, Table 04-5). -/

namespace Sys2Proof.Machine

def execAdd (pane slot : Nat) (w : DWord) (s : State) : Host.Outcome State Fault Refusal := onDevice s fun s =>
  integerOp 0x00 true {} (fun _ a b _ => a + b) pane slot w s

def execSub (pane slot : Nat) (w : DWord) (s : State) : Host.Outcome State Fault Refusal := onDevice s fun s =>
  integerOp 0x01 true {} (fun _ a b _ => a - b) pane slot w s

def execMulLo (pane slot : Nat) (w : DWord) (s : State) : Host.Outcome State Fault Refusal := onDevice s fun s =>
  integerOp 0x02 true {} (fun _ a b _ => a * b) pane slot w s

/-- The high 32 bits of a product, unsigned when MOD[3] is set. -/
def mulHigh (uns : Bool) (a b : Word) : Word :=
  if uns then (a.zeroExtend 64 * b.zeroExtend 64).extractLsb' 32 32 else (a.signExtend 64 * b.signExtend 64).extractLsb' 32 32

def execMulHi (pane slot : Nat) (w : DWord) (s : State) : Host.Outcome State Fault Refusal := onDevice s fun s =>
  integerOp 0x03 true { mods := [0, 8] } (fun m a b _ => mulHigh (bit m 3) a b) pane slot w s

def execMadLo (pane slot : Nat) (w : DWord) (s : State) : Host.Outcome State Fault Refusal := onDevice s fun s =>
  integerOp 0x04 false { c := .reg } (fun _ a b c => a * b + c) pane slot w s

def execMin (pane slot : Nat) (w : DWord) (s : State) : Host.Outcome State Fault Refusal := onDevice s fun s =>
  integerOp 0x05 true { mods := [0, 8] } (fun m a b _ => if intLt (bit m 3) b a then b else a) pane slot w s

def execMax (pane slot : Nat) (w : DWord) (s : State) : Host.Outcome State Fault Refusal := onDevice s fun s =>
  integerOp 0x06 true { mods := [0, 8] } (fun m a b _ => if intLt (bit m 3) a b then b else a) pane slot w s

def execAbs (pane slot : Nat) (w : DWord) (s : State) : Host.Outcome State Fault Refusal := onDevice s fun s =>
  integerOp 0x07 false { b := false } (fun _ a _ _ => if a.slt 0 then 0 - a else a) pane slot w s

def execAnd (pane slot : Nat) (w : DWord) (s : State) : Host.Outcome State Fault Refusal := onDevice s fun s =>
  integerOp 0x08 true {} (fun _ a b _ => a &&& b) pane slot w s

def execOr (pane slot : Nat) (w : DWord) (s : State) : Host.Outcome State Fault Refusal := onDevice s fun s =>
  integerOp 0x09 true {} (fun _ a b _ => a ||| b) pane slot w s

def execXor (pane slot : Nat) (w : DWord) (s : State) : Host.Outcome State Fault Refusal := onDevice s fun s =>
  integerOp 0x0A true {} (fun _ a b _ => a ^^^ b) pane slot w s

def execNot (pane slot : Nat) (w : DWord) (s : State) : Host.Outcome State Fault Refusal := onDevice s fun s =>
  integerOp 0x0B false { b := false } (fun _ a _ _ => ~~~a) pane slot w s

/-- Shift amounts use bits [4:0] of the second source (R78). -/
def shiftBy (b : Word) : Nat := b.toNat % 32

def execShl (pane slot : Nat) (w : DWord) (s : State) : Host.Outcome State Fault Refusal := onDevice s fun s =>
  integerOp 0x0C true {} (fun _ a b _ => a <<< shiftBy b) pane slot w s

def execShr (pane slot : Nat) (w : DWord) (s : State) : Host.Outcome State Fault Refusal := onDevice s fun s =>
  integerOp 0x0D true {} (fun _ a b _ => a >>> shiftBy b) pane slot w s

def execSar (pane slot : Nat) (w : DWord) (s : State) : Host.Outcome State Fault Refusal := onDevice s fun s =>
  integerOp 0x0E true {} (fun _ a b _ => a.sshiftRight (shiftBy b)) pane slot w s

/-- The number of set bits. -/
def popCount (a : Word) : Word := BitVec.ofNat 32 ((List.range 32).filter (fun i => a.getLsbD i)).length

def execPopc (pane slot : Nat) (w : DWord) (s : State) : Host.Outcome State Fault Refusal := onDevice s fun s =>
  integerOp 0x0F false { b := false } (fun _ a _ _ => popCount a) pane slot w s

/-- The number of leading zeros; 32 for zero. -/
def leadingZeros (a : Word) : Word := BitVec.ofNat 32 (((List.range 32).takeWhile (fun i => !a.getLsbD (31 - i))).length)

def execClz (pane slot : Nat) (w : DWord) (s : State) : Host.Outcome State Fault Refusal := onDevice s fun s =>
  integerOp 0x10 false { b := false } (fun _ a _ _ => leadingZeros a) pane slot w s

def execBrev (pane slot : Nat) (w : DWord) (s : State) : Host.Outcome State Fault Refusal := onDevice s fun s =>
  integerOp 0x11 false { b := false } (fun _ a _ _ => a.reverse) pane slot w s

/-- The MOD values of setp: conditions 0–5, and bit 3 for unsigned; 6 and 7 raise illegal instruction (R78). -/
def setpMods : List Nat := [0, 1, 2, 3, 4, 5, 8, 9, 10, 11, 12, 13]

/-- setp: in the vector class each lane whose guard holds gets its compare; in the scalar class every active lane gets the
one compare (R76, R78, R81). -/
def Ctx.setpBody (x : Ctx) : Device :=
  if x.cls = 5 then
    if x.act == 0 then x.done x.g
    else x.done (x.g.setP x.fD x.p.mask (if intCond x.mod (x.g.s x.fA) x.scalB then BitVec.allOnes 128 else 0))
  else
    x.done (x.g.setP x.fD x.act (maskWhere (lanesOf x.act) (fun l => intCond x.mod (x.g.v l x.fA) (x.srcB l))))

def execSetp (pane slot : Nat) (w : DWord) (s : State) : Host.Outcome State Fault Refusal := onDevice s fun s =>
  krycha 8 (intRow 0x12 true) (Shape.uses { mods := setpMods, dp := true }) Ctx.setpBody pane slot w.toNat 0 s

/-- sel: D = pC ? A : B; a scalar sel reads pC from the lowest active lane (R81). -/
def Ctx.selBody (x : Ctx) : Device :=
  if x.cls = 5 then
    if x.act == 0 then x.done x.g
    else x.done (x.g.setS x.fD (if (x.g.p x.fC).getLsbD x.p.low then x.g.s x.fA else x.scalB))
  else
    x.done (x.g.setVs (lanesOf x.act) x.fD (fun l => if (x.g.p x.fC).getLsbD l then x.g.v l x.fA else x.srcB l))

def execSel (pane slot : Nat) (w : DWord) (s : State) : Host.Outcome State Fault Refusal := onDevice s fun s =>
  krycha 8 (intRow 0x13 false) (Shape.uses { c := .pred }) Ctx.selBody pane slot w.toNat 0 s

def execMov (pane slot : Nat) (w : DWord) (s : State) : Host.Outcome State Fault Refusal := onDevice s fun s =>
  integerOp 0x14 true { a := false } (fun _ _ b _ => b) pane slot w s

/-- A shuffle reads the source lane's register as it stands, whether or not the lane is active (R78). -/
def Ctx.shuffle (x : Ctx) (src : Nat → Nat → Nat) : Device :=
  x.done (x.g.setVs (lanesOf x.act) x.fD (fun l => x.g.v (src l (x.srcB l).toNat % x.g.width) x.fA))

def execShflIdx (pane slot : Nat) (w : DWord) (s : State) : Host.Outcome State Fault Refusal := onDevice s fun s =>
  krycha 8 (intRow 0x15 true) (Shape.uses {}) (fun x => x.shuffle (fun _ b => b)) pane slot w.toNat 0 s

def execShflXor (pane slot : Nat) (w : DWord) (s : State) : Host.Outcome State Fault Refusal := onDevice s fun s =>
  krycha 8 (intRow 0x16 true) (Shape.uses {}) (fun x => x.shuffle (fun l b => l ^^^ b)) pane slot w.toNat 0 s

/-- The s registers that a ballot writes: one, a pair or a quad by the group's width (Table 04-5). -/
def ballotRegs (width : Nat) : Nat := if width ≤ 32 then 1 else width / 32

/-- The check of a vote's word: A names a predicate; D a predicate for any and all, s registers for ballot. -/
def voteUses (x : Ctx) : Uses :=
  let m := x.mod
  let ok := decide (x.fA < 8) && x.fB == 0 && x.fC == 0 && !x.bs && fld x.w 53 11 == 0 && decide (m ≤ 2)
    && (m == 2 || decide (x.fD < 8))
  { ok, p := [x.fA], ws := if m = 2 then [(x.fD, ballotRegs x.g.width)] else [], wp := if m = 2 then [] else [x.fD] }

/-- vote over the active lanes of the path; a lane whose guard is false writes no predicate (R75, R78, Table 04-5). Log entry 139 (DEDUCED). -/
def Ctx.voteBody (x : Ctx) : Device :=
  let a := x.g.p x.fA &&& x.p.mask
  match x.mod with
  | 0 => x.done (x.g.setP x.fD x.act (if a != 0 then BitVec.allOnes 128 else 0))
  | 1 => x.done (x.g.setP x.fD x.act (if a == x.p.mask then BitVec.allOnes 128 else 0))
  | _ => if x.act == 0 then x.done x.g else x.done (x.g.setSWide x.fD a.toNat (ballotRegs x.g.width))

def execVote (pane slot : Nat) (w : DWord) (s : State) : Host.Outcome State Fault Refusal := onDevice s fun s =>
  krycha 8 (intRow 0x17 false) voteUses Ctx.voteBody pane slot w.toNat 0 s

end Sys2Proof.Machine
end

