-- ==== Sys2Proof/Machine/Monitors.lean ====
section
/-! DEFINITION. The rate monitors (R29, R30), the local views of the lintel (R37), and the reset of order words (R227). -/

namespace Sys2Proof.Machine

/-! ## Rate monitors -/

/-- The lowest-numbered monitor that reads the device minimum. -/
def Device.slowest (s : Device) : Nat :=
  ((List.range 16).find? (fun n => SMap.find s.power.rates n == some (s.rateEntry 0x13))).getD 0

/-- RATE_MONITOR_WINDOW (R29, R30): a monitor reports, and RATE_LOW is raised once the device minimum has stayed below OD 0x2041 for ten windows. Log entries 79 (DEDUCED), 163 (DESIGN CHOICE). -/
def execRateMonitorWindow (monitor khz : Nat) (s : State) : Host.Outcome State Fault Refusal := onDevice s fun s =>
  if 16 ≤ monitor then .next s
  else
    let t := { s with power := { s.power with rates := SMap.put s.power.rates monitor (min khz (2 ^ 32 - 1)) } }
    let low := t.rateEntry 0x13
    if t.odGet 0 0x2041 0 ≤ low then .next { t with power := { t.power with rateSince := none, rateRun := 0, rateLow := false } }
    else
      let since := t.power.rateSince.getD (t.now / 10000)
      let run := t.now / 10000 - since + 1
      let raise := decide (10 ≤ run) && !t.power.rateLow
      let u := { t with power := { t.power with rateSince := some since, rateRun := run, rateLow := t.power.rateLow || raise } }
      .next (if raise then u.raiseDev 0x2001 1 [(t.slowest, 1), (low, 4)] else u)

/-! ## Local views of the lintel (R37) -/

/-- The constant lag of a unit's view: at most 24 ns. -/
def viewLag (unit : Nat) : Nat := Config.viewLag unit % 25

/-- LINTEL_VIEW_REFRESH (R37): the view never decreases. -/
def execLintelViewRefresh (unit : Nat) (s : State) : Host.Outcome State Fault Refusal := onDevice s fun s =>
  if 340 < unit then .next s
  else
    .next { s with lintel := { s.lintel with views := SMap.put s.lintel.views unit (Nat.max (s.view unit) (s.now - viewLag unit)) } }

/-! ## Order words (R227) -/

/-- Held pieces of a pool are discarded and its order words are 0. -/
def Device.orderReset (s : Device) (part pool : Nat) : Device :=
  let order := s.mem.order.filter (fun kv => !rangeOfPool part pool kv.1)
  let stall := s.mem.stall.filter (fun kv => !rangeOfPool part pool kv.1)
  let held := s.mem.held.filter (fun q => !(q.part == part && q.pool == pool))
  { s with mem := { s.mem with order, stall, held } }

/-- ORDER_RESET (R227). -/
def execOrderReset (m : TMsg) (s : State) : Host.Outcome State Fault Refusal := onDevice s fun s =>
  actionRow 0x6132 anyValue m s (atOnce (fun t part m =>
    let pool := ofBytes m.value
    if 8 ≤ pool || (t.pool? part pool).isNone then (t, stMalformed) else (t.orderReset part pool, stOk)))

end Sys2Proof.Machine
end

