-- ==== Sys2Proof/Machine/Partitions.lean ====
section
/-! DEFINITION. Partitions: creation, resize and destruction (R270–R273, R277, Table 12-1). -/

namespace Sys2Proof.Machine

/-! ## The descriptor (Table 12-1) -/

def descPart (d : Nat) : Nat := fld d 0 5
def descFast (d : Nat) : Bool := bit d 5
def descJob (d : Nat) : Nat := fld d 16 16
def descQueues (d : Nat) : Nat := fld d 32 16
def descQuota (d : Nat) : Nat := fld d 64 16
def descReserve (d : Nat) : Nat := fld d 80 16
def descMem (d : Nat) : Nat := fld d 96 10
def descDoor (d : Nat) : Nat := fld d 112 10
def descHost (d : Nat) : Nat := fld d 128 10
def descQps (d : Nat) : Nat := fld d 144 13
def descPanes (d : Nat) : List Nat := (List.range 320).filter (fun a => bit d (192 + a))

/-- The ranges and RSV fields of a descriptor, with the limits of a fast-recovery partition (R277). -/
def descOk (d : Nat) : Bool :=
  fld d 6 10 == 0 && fld d 48 16 == 0 && fld d 106 6 == 0 && fld d 122 6 == 0 && fld d 138 6 == 0 && fld d 157 35 == 0
    && decide (descQueues d ≤ 16384) && decide (descQuota d ≤ 2460) && decide (descReserve d ≤ 2460) && decide (descMem d ≤ 1000)
    && decide (descDoor d ≤ 1000) && decide (descHost d ≤ 1000) && decide (descQps d ≤ 4096)
    && (!descFast d || (decide ((descPanes d).length ≤ 32) && decide (descQueues d ≤ 256) && decide (descQuota d ≤ 64)))

/-- The partitions other than one. -/
def Device.others (s : Device) (part : Nat) : List Partition :=
  (s.parts.filter (fun kv => kv.1 != part && kv.2.state != .absent)).map Prod.snd

/-- The lowest run of numbers below a limit that no range holds. -/
def lowestRange (taken : List (Nat × Nat)) (need limit : Nat) : Option Nat :=
  let starts := 0 :: taken.map (fun t => t.1 + t.2)
  let fits (b : Nat) : Bool := decide (b + need ≤ limit) && taken.all (fun t => decide (b + need ≤ t.1 ∨ t.1 + t.2 ≤ b ∨ t.2 = 0 ∨ need = 0))
  match starts.filter fits with
  | [] => none
  | b :: bs => some (bs.foldl min b)

/-- The base of the queue range and of the queue-pair range that a descriptor would get. -/
def Device.queueRange (s : Device) (d : Nat) : Option Nat :=
  lowestRange ((s.others (descPart d)).map (fun x => (x.qbase, descQueues x.desc))) (descQueues d) 16384

def Device.qpRange (s : Device) (d : Nat) : Option Nat :=
  lowestRange ((s.others (descPart d)).map (fun x => (x.qpbase, descQps x.desc))) (descQps d) 4096

/-- What refuses a descriptor with RESOURCE, counted without the partition's own holdings (R271). -/
def Device.descShort (s : Device) (d : Nat) : Bool :=
  let os := s.others (descPart d)
  let sum (f : Nat → Nat) : Nat := f d + total (os.map (fun x => f x.desc))
  (descPanes d).any (fun a => os.any (fun x => x.hasPane a))
    || (s.queueRange d).isNone || (s.qpRange d).isNone
    || decide (s.odGet 0 0x3000 2 / 2 ^ 30 < sum descQuota + sum descReserve)
    || decide (1000 < sum descMem) || decide (1000 < sum descDoor) || decide (1000 < sum descHost) || decide (4096 < sum descQps)
    || (descFast d && decide (4 ≤ (os.filter (fun x => descFast x.desc)).length))

/-- Panes of a list are cleared before they take work (R46). -/
def Device.clearPanes (s : Device) (panes : List Nat) : Device := panes.foldl (fun t a => t.modPane a Pane.cleared) s

/-- A descriptor that passes makes a partition: its keys are drawn, its ranges allocated, its panes cleared and its step count
0 (R271). Log entry 132 (DESIGN CHOICE). -/
def Device.createPartition (s : Device) (d : Nat) : Device :=
  let k1 := s.draw
  let k2 := k1.2.draw
  let x : Partition := { state := .active, desc := d, qbase := (s.queueRange d).getD 0, qpbase := (s.qpRange d).getD 0,
                         placeKey := k1.1, xtsKey := k2.1 }
  ((k2.2.setPart (descPart d) x).clearPanes (descPanes d)).odSet (descPart d) 0x4081 0 0 0

/-- PARTITION_CREATE (R271). -/
def execPartitionCreate (m : TMsg) (s : State) : Host.Outcome State Fault Refusal := onDevice s fun s =>
  actionRow 0x6002 (fun _ => true) m s (atOnce (fun t _ m =>
    let d := ofBytes m.value
    if !descOk d || descPart d == 0 || (t.part (descPart d)).state != .absent
        || (t.others (descPart d)).any (fun x => x.job == descJob d) then (t, stMalformed)
    else if t.descShort d || !t.boot.random then (t, stResource)
    else (t.createPartition d, stOk)))

/-! ## Resize (R272) -/

/-- The panes that leave a set have ended their cohorts. -/
def Device.leftPanes (s : Device) (part : Nat) : Bool :=
  s.cohorts.all (fun kv => kv.2.part != part || (s.part part).hasPane kv.2.pane)

/-- The queue and queue-pair ranges that the descriptor of a resize asks for. -/
def Partition.takeRanges (x : Partition) (s : Device) : Partition :=
  match x.resizeTo with
  | none => x
  | some d =>
    let qbase := if descQueues d = descQueues x.desc then x.qbase else (s.queueRange d).getD 0
    let qpbase := if descQps d = descQps x.desc then x.qpbase else (s.qpRange d).getD 0
    { x with qbase, qpbase }

/-- A partition whose resize has completed. -/
def Partition.settled (x : Partition) : Partition :=
  { x with desc := x.resizeTo.getD x.desc, resizeTo := none, removing := [], resizeMsg := none,
           state := if x.state = .resizing then .active else x.state }

/-- A resize ends: the removed panes are cleared, the new descriptor is in force whole, and its write is answered. -/
def Device.endResize (s : Device) (part : Nat) : Device :=
  let m := (s.part part).resizeMsg
  let t := s.clearPanes (s.part part).removing
  let t := t.modPart part (fun x => (x.takeRanges s).settled)
  match m with
  | some m => t.finishAction 0 m stOk
  | none => t

/-- A resize begins: added panes are cleared, and removed ones closed to new cohorts. The rest of the new descriptor waits for its end. Log entry 177 (DESIGN CHOICE). -/
def Device.resizePartition (s : Device) (d : Nat) : Device :=
  let part := descPart d
  let x := s.part part
  let added := (descPanes d).filter (fun a => !x.hasPane a)
  let removing := x.panes.filter (fun a => !bit d (192 + a))
  let desc := x.desc % 2 ^ 192 + d / 2 ^ 192 * 2 ^ 192
  let t := (s.setPart part { x with desc, resizeTo := some d, removing, state := .resizing }).clearPanes added
  (x.panes.filter (fun a => !bit d (192 + a))).foldl (fun t a => t.modPane a (fun p => { p with reserved := none })) t

/-- PARTITION_RESIZE (R272). -/
def execPartitionResize (m : TMsg) (s : State) : Host.Outcome State Fault Refusal := onDevice s fun s =>
  actionRow 0x6003 (fun _ => true) m s (fun t _ m =>
    let d := ofBytes m.value
    let part := descPart d
    let x := t.part part
    let holds := !x.queues.isEmpty || !x.pools.isEmpty || !x.maps.isEmpty
    let fixed := descJob d != descJob x.desc || descFast d != descFast x.desc || descQueues d != descQueues x.desc
      || descQps d != descQps x.desc
    if !descOk d || x.state == .absent || x.state == .destroying || (t.others part).any (fun y => y.job == descJob d)
        || (holds && fixed) then (t, some stMalformed)
    else if t.descShort d || decide (descQuota d * 2 ^ 30 < x.consumed) then (t, some stResource)
    else
      let u := t.resizePartition d
      if u.leftPanes part then (u.endResize part, some stOk)
      else (u.modPart part (fun x => { x with resizeMsg := some m }), none))

/-- RESIZE_DONE (R272). -/
def execResizeDone (part : Nat) (s : State) : Host.Outcome State Fault Refusal := onDevice s fun s =>
  .next (if (s.part part).resizeMsg.isSome && s.leftPanes part then s.endResize part else s)

/-! ## Destruction (R273) -/

/-- PARTITION_DESTROY: the fence takes hold, and its completion goes on with the destruction. Log entries 65 (DEDUCED), 66 (DEDUCED). -/
def execPartitionDestroy (m : TMsg) (s : State) : Host.Outcome State Fault Refusal := onDevice s fun s =>
  actionRow 0x6004 (fun _ => true) m s (fun t _ m =>
    let part := ofBytes m.value
    let x := t.part part
    if part == 0 || x.state == .absent then (t, some stMalformed)
    else if x.fence == .done then (t.strip part, some stOk)
    else if x.state == .destroying then (t.modPart part (fun y => { y with fenceMsgs := y.fenceMsgs ++ [m] }), none)
    else ((t.setPart part { x with state := .destroying, destroyMsg := some m }).startFence part none, none))

end Sys2Proof.Machine
end

