-- ==== Sys2Proof/Machine/Replies.lean ====
section
/-! DEFINITION. Replies at the source: ACK, GETDATA, AMODATA and DEFER (R214–R216, R223, R230), timeouts (R229), credits
(R301), and the pending entries that count a block's arrival (R219). -/

namespace Sys2Proof.Machine

/-! ## Late replies (R230) -/

/-- A row of the late log (Table 15-14). -/
def lateRow (o : RemOp) (now : Nat) : Nat := o.faddr + 2 ^ 64 * o.kind + 2 ^ 72 * stLate + 2 ^ 128 * now

/-- A reply whose operation has completed before it: its data is discarded, it is counted and logged (R230). -/
def Device.lateReply (s : Device) (p : Packet) : Device :=
  match SMap.find s.fabric.expired p.tid with
  | none => s
  | some o =>
    (s.modPart o.part (fun x => { x with late := (x.late ++ [lateRow o s.now]).drop (x.late.length + 1 - 64) })).odCount
      o.part 0x6130 3 0 1

/-- A reply of an operation in flight, or a late one. -/
def Device.onOp (s : Device) (p : Packet) (k : RemOp → Device) : Device :=
  match s.op? p.tid with
  | some o => if o.held.isEmpty && o.todo.contains p.taddr then k o else s
  | none => s.lateReply p

/-- One part of an operation has been answered; the last one completes it. Log entries 52 (DEDUCED), 171 (DESIGN CHOICE). -/
def Device.partDone (s : Device) (o : RemOp) (addr status : Nat) (value : Nat := 0) (failed : Bool := false) : Device :=
  let o' : RemOp := { o with todo := o.todo.erase addr, resend := SMap.del o.resend addr,
                             deferred := SMap.del o.deferred addr, status := recordStatus o.status status }
  if o'.todo.isEmpty then s.completeOp o' o'.status value failed else (s.setOp o').admitAll o.pane

/-! ## Replies -/

/-- An ACK (R214, R223). -/
def Device.ackPacket (s : Device) (p : Packet) : Device := s.onOp p (fun o => s.partDone o p.taddr p.status)

def execAckPacket (p : Packet) (s : State) : Host.Outcome State Fault Refusal := onDevice s fun s => packetRow 8 Device.ackPacket p s

/-- The pane that an operation reads for counts the bytes that arrive. Log entry 96 (DEDUCED). -/
def Device.countIn (s : Device) (pane n : Nat) : Device :=
  s.modPane pane (fun q => { q with perf := { q.perf with bytesIn := q.perf.bytesIn + n } })

/-- GETDATA: a lane's value goes to its register, a block's segment to local store; poison marks the sectors it names
(R214, R216). -/
def Device.getdataPacket (s : Device) (p : Packet) : Device :=
  s.onOp p (fun o =>
    let t := s.countIn o.pane (min p.data.length o.len)
    if o.block then
      let off := o.lsOff + (p.taddr - fld o.faddr 0 48)
      if p.status = stOk then
        let w := t.segmentToLs o.pane off p.data [] (dataParts off p.data.length)
        w.1.partDone o p.taddr w.2
      else
        let u := t.modPane o.pane (fun q => p.poison.foldl (fun q k => q.setLsPoison (off / 32 + k) true) q)
        u.partDone o p.taddr p.status
    else t.partDone o p.taddr p.status (ofBytes (p.data.take o.len)))

def execGetdataPacket (p : Packet) (s : State) : Host.Outcome State Fault Refusal := onDevice s fun s => packetRow 9 Device.getdataPacket p s

/-- AMODATA: the old value; amo.cas and amo.tset fail when it differs from what they compare (R92, R215). -/
def Device.amodataPacket (s : Device) (p : Packet) : Device :=
  s.onOp p (fun o =>
    let old := ofBytes (p.data.take o.len)
    (s.countIn o.pane (min p.data.length o.len)).partDone o p.taddr p.status old (decide (0x0F ≤ o.kind) && old != o.cmp))

def execAmodataPacket (p : Packet) (s : State) : Host.Outcome State Fault Refusal := onDevice s fun s => packetRow 0xA Device.amodataPacket p s

/-- DEFER: the piece stays in the resend buffer, to be sent again 1 µs later (R223). -/
def Device.deferPacket (s : Device) (p : Packet) : Device :=
  s.onOp p (fun o => s.setOp { o with deferred := SMap.put o.deferred p.taddr s.now })

def execDeferPacket (p : Packet) (s : State) : Host.Outcome State Fault Refusal := onDevice s fun s => packetRow 0xB Device.deferPacket p s

/-- A deferred piece is sent again 1 µs after its DEFER (R223). Log entry 55 (DEDUCED). -/
def execAccputResend (tid piece : Nat) (s : State) : Host.Outcome State Fault Refusal := onDevice s fun s =>
  match s.op? tid with
  | none => .next s
  | some o =>
    match SMap.find o.deferred piece with
    | none => .next s
    | some t0 =>
      if s.now < t0 + 1000 then .next s
      else
        .next ((SMap.get o.resend piece []).foldl (fun t p => t.post p)
          (s.setOp { o with deferred := SMap.del o.deferred piece }))

/-- What a timed-out block get has not written of its destination is undefined: free bytes (R230). Log entry 153 (DESIGN CHOICE). -/
def Device.leaveRest (s : Device) (o : RemOp) : Device :=
  let a := faLocal o.faddr
  let rest := (segmentsOf 512 a o.len).filter (fun on => o.todo.contains on.1)
  (rest.flatMap (fun on => span (o.lsOff + (on.1 - a)) (o.lsOff + (on.1 - a) + on.2))).foldl (fun t i =>
    let (n, u) := t.draw
    u.modPane o.pane (·.putLs i [BitVec.ofNat 8 n])) s

/-- An operation's timer expires before its acknowledgement (R229). -/
def execRemoteTimeout (tid : Nat) (s : State) : Host.Outcome State Fault Refusal := onDevice s fun s =>
  match s.op? tid with
  | none => .next s
  | some o =>
    if s.now < o.deadline then .next s
    else
      let t := (if o.block && o.kind == 1 then s.leaveRest o else s).completeOp o stTimeout
      .next (if o.sent || o.stats then t else t.sendReady o.pane)

/-- CREDIT: freed slots of the peer return to the transmitter, and waiting packets try again (R301). -/
def execCreditPacket (door vc0 vc1 : Nat) (s : State) : Host.Outcome State Fault Refusal := onDevice s fun s =>
  if s.doorUp door then
    .next (s.addCredit door vc0 vc1).flushWaiting
  else .next s

/-! ## Pending counter entries (R219) -/

/-- The unit that serves a counter: a pane, or a sill as 1,000 + its stack. -/
def Device.counterUnit (s : Device) (part rctr : Nat) : Nat :=
  if fld rctr 48 4 = 1 && decide (fld rctr 24 24 < 320) then fld rctr 24 24
  else
    match s.translate part (fld rctr 0 48) .write with
    | .ok t => 1000 + (s.place t.owner t.pool 0 t.off).stack
    | .error _ => 1020

/-- The pending entries at a unit, whosever they are. -/
def Device.pendAt (s : Device) (unit : Nat) : List PendCount :=
  if unit < 1000 then (s.pane unit).pend else s.mem.pend.filter (fun c => s.counterUnit c.part c.rctr == unit)

/-- Log entry 59 (DEDUCED). -/
def PendCount.isFor (c : PendCount) (part : Nat) (q : Partial) : Bool :=
  c.part == part && c.src == q.src && c.tid == q.tid && c.rctr == q.rctr

/-- The pending entries of the unit that serves an rctr, changed. -/
def Device.modPend (s : Device) (rctr : Nat) (f : List PendCount → List PendCount) : Device :=
  if fld rctr 48 4 = 1 && decide (fld rctr 24 24 < 320) then s.modPane (fld rctr 24 24) (fun p => { p with pend := f p.pend })
  else { s with mem := { s.mem with pend := f s.mem.pend } }

/-- A partial reaches the server of its counter: the entry of its operation counts it, and the last one makes the one
increment. A unit keeps 1,024 entries; a partial that finds none free waits (R219). -/
def Device.takePartial (s : Device) (part : Nat) (q : Partial) : Device :=
  let t := { s with fabric := { s.fabric with partials := s.fabric.partials.erase q } }
  let unit := s.counterUnit part q.rctr
  let entries := s.pendAt unit
  match entries.find? (·.isFor part q) with
  | none =>
    if q.nseg ≤ 1 then t.arrivalIncrement part q.rctr 1 q.status
    else if 1024 ≤ entries.length then s
    else
      let c : PendCount := { part, src := q.src, tid := q.tid, rctr := q.rctr, nseg := q.nseg, seen := 1, status := q.status,
                             last := s.now }
      t.modPend q.rctr (fun l => l ++ [c])
  | some c =>
    let status := recordStatus c.status q.status
    if q.nseg ≤ c.seen + 1 then (t.modPend q.rctr (fun l => l.filter (fun c => !c.isFor part q))).arrivalIncrement part q.rctr 1 status
    else
      t.modPend q.rctr (fun l => l.map (fun c => if c.isFor part q then { c with seen := c.seen + 1, status, last := s.now } else c))

def execPartialIncrement (q : Partial) (s : State) : Host.Outcome State Fault Refusal := onDevice s fun s =>
  match s.jobPart? q.job with
  | none => .next { s with fabric := { s.fabric with partials := s.fabric.partials.erase q } }
  | some part => .next (s.takePartial part q)

/-- An entry that has received no partial for the collective watchdog is discarded and counted (R219). -/
def execPendingCountTimeout (q : Partial) (s : State) : Host.Outcome State Fault Refusal := onDevice s fun s =>
  match s.jobPart? q.job with
  | none => .next s
  | some part =>
    match (s.pendAt (s.counterUnit part q.rctr)).find? (·.isFor part q) with
    | none => .next s
    | some c =>
      if s.now < c.last + 1000 * s.odGet part 0x6112 0 then .next s
      else .next ((s.modPend q.rctr (fun l => l.filter (fun c => !c.isFor part q))).odCount part 0x6130 7 0 1)

end Sys2Proof.Machine
end

