-- ==== Sys2Proof/Machine/SelfTest.lean ====
section
/-! DEFINITION. Tests on request (R378) and the judgement at the end of a test (R365, R366, R372, R376, R377, R387). -/

namespace Sys2Proof.Machine

/-! ## RUN_TEST (R378) -/

/-- A unit's test is asked for: it is due at once, or the one under way answers. -/
def Device.askTest (s : Device) (kind number : Nat) : Device :=
  match kind with
  | 0 => if (s.unit 0 number).state == .testing then s else s.startRowTest (number / 5) (number % 5) false
  | 1 => if s.testable 1 number then s.testDue 1 number else s
  | 2 => if s.testable 2 number then s.testDue 2 number else s
  | _ => s.startRetrain (number / 4)

/-- A unit that a test can no longer reach: retired, unrepairable, or a row of a retired pane. -/
def Device.unitGone (s : Device) (kind number : Nat) : Bool :=
  let u := (s.unit kind number).state
  u == .retired || u == .unrepairable || (kind == 0 && (s.unit 1 (number / 5)).state == .retired)

/-- RUN_TEST: its message waits with its unit. Log entry 85 (DEDUCED). -/
def execRunTest (m : TMsg) (s : State) : Host.Outcome State Fault Refusal := onDevice s fun s =>
  actionRow 0x9030 anyValue m s (fun t _ m =>
    let v := ofBytes m.value
    let kind := v / 2 ^ 24
    let number := v % 2 ^ 16
    if 3 < kind || unitCount kind ≤ number then (t, some stMalformed)
    else if t.unitGone kind number then (t, some stRetired)
    else if kind = 3 && ((t.door (number / 4)).state == .unused || (t.door (number / 4)).state == .down) then (t, some stResource)
    else
      let u := { t with units := { t.units with pending := SMap.put t.units.pending (unitIndex kind number) m } }
      (u.askTest kind number, none))

/-! ## TARGETED_TEST_DONE (R365) -/

/-- A cube row passes: it returns to its place, and the spare row is idle again. -/
def Device.passRow (s : Device) (number : Nat) : Device :=
  let phys := number / 5
  let row := number % 5
  let judged := (s.unit 0 number).judged
  let m := s.rowsNext phys
  let t := (s.testPassed 0 number).modUnit 0 number (fun u => { u with state := if row == 4 && m == (0, none) then .spare else .good })
  let t := if m.2 = some row then t.planRows phys (m.1, none) else t
  let r := if judged then t.transient 0 number else (t, false)
  if r.2 then (r.1.retireRow phys row 2).answerTest 0 number stRetired else r.1.answerTest 0 number stOk

/-- A pane passes: it takes back the number it held, resumes, or becomes a spare. -/
def Device.passPane (s : Device) (phys : Nat) : Device :=
  let number := s.numberOf phys
  let t := s.modUnit 1 phys (fun u => { u with state := if number.isSome then .good else .spare })
  match number with
  | none => t
  | some a =>
    match SMap.find t.units.moves a with
    | some .held => (((t.setPaneState a .active).setMove a none).deliverHeld a)
    | some .pause => ((t.modPane a (fun p => { p with paused := false })).setMove a none).deliverHeld a
    | _ => t

/-- A pane's test ends: transient, permanent or good; its reset is over with it. -/
def Device.endPaneTest (s : Device) (phys : Nat) (pass : Bool) : Device :=
  let judged := (s.unit 1 phys).judged
  if !pass then (((s.retirePane phys 0).answerTest 1 phys stRetired).endPaneReset phys stOk).rehome.retryTests
  else
    let t := s.testPassed 1 phys
    let r := if judged then t.transient 1 phys else (t, false)
    if r.2 then (((r.1.retirePane phys 2).answerTest 1 phys stRetired).endPaneReset phys stOk).rehome.retryTests
    else (((r.1.passPane phys).answerTest 1 phys stOk).endPaneReset phys stOk).rehome.retryTests

/-- TARGETED_TEST_DONE: the end of a test of a cube row or a pane, or of a pseudo-channel's in-field test. A lane's test ends
with its door's retrain. -/
def execTargetedTestDone (kind number : Nat) (pass : Bool) (s : State) : Host.Outcome State Fault Refusal := onDevice s fun s =>
  if kind = 1 && (s.unit 1 number).state == .retired then .next (s.endPaneReset number stOk)
  else if unitCount kind ≤ number || (s.unit kind number).state != .testing then .next s
  else
    match kind with
    | 0 => .next (if pass then s.passRow number else (s.retireRow (number / 5) (number % 5) 0).answerTest 0 number stRetired)
    | 1 => .next (s.endPaneTest number pass)
    | 2 =>
      if (s.stack (number / 64)).suspect == some (number % 64) || (s.stack (number / 64)).moving.any (fun m => m.1 == number % 64) then .next s
      else .next (s.endChannelTest (number / 64) (number % 64) pass)
    | _ => .next s

end Sys2Proof.Machine
end

