-- ==== Sys2Proof/Machine/Dispatch.lean ====
section
/-! DEFINITION. One arm for each command: a direct call of its meaning. -/

namespace Sys2Proof.Machine

/-- The effect of a command on everything but the queue of waiting commands. -/
def exec (i : Instr) (s : State) : Host.Outcome State Fault Refusal :=
  match i with
  | .add pane slot w => Sys2Proof.Machine.execAdd pane slot w s
  | .sub pane slot w => Sys2Proof.Machine.execSub pane slot w s
  | .mulLo pane slot w => Sys2Proof.Machine.execMulLo pane slot w s
  | .mulHi pane slot w => Sys2Proof.Machine.execMulHi pane slot w s
  | .madLo pane slot w => Sys2Proof.Machine.execMadLo pane slot w s
  | .min pane slot w => Sys2Proof.Machine.execMin pane slot w s
  | .max pane slot w => Sys2Proof.Machine.execMax pane slot w s
  | .abs pane slot w => Sys2Proof.Machine.execAbs pane slot w s
  | .and pane slot w => Sys2Proof.Machine.execAnd pane slot w s
  | .or pane slot w => Sys2Proof.Machine.execOr pane slot w s
  | .xor pane slot w => Sys2Proof.Machine.execXor pane slot w s
  | .not pane slot w => Sys2Proof.Machine.execNot pane slot w s
  | .shl pane slot w => Sys2Proof.Machine.execShl pane slot w s
  | .shr pane slot w => Sys2Proof.Machine.execShr pane slot w s
  | .sar pane slot w => Sys2Proof.Machine.execSar pane slot w s
  | .popc pane slot w => Sys2Proof.Machine.execPopc pane slot w s
  | .clz pane slot w => Sys2Proof.Machine.execClz pane slot w s
  | .brev pane slot w => Sys2Proof.Machine.execBrev pane slot w s
  | .setp pane slot w => Sys2Proof.Machine.execSetp pane slot w s
  | .sel pane slot w => Sys2Proof.Machine.execSel pane slot w s
  | .mov pane slot w => Sys2Proof.Machine.execMov pane slot w s
  | .shflIdx pane slot w => Sys2Proof.Machine.execShflIdx pane slot w s
  | .shflXor pane slot w => Sys2Proof.Machine.execShflXor pane slot w s
  | .vote pane slot w => Sys2Proof.Machine.execVote pane slot w s
  | .fpAdd pane slot w => Sys2Proof.Machine.execFpAdd pane slot w s
  | .fpSub pane slot w => Sys2Proof.Machine.execFpSub pane slot w s
  | .fpMul pane slot w => Sys2Proof.Machine.execFpMul pane slot w s
  | .fpFma pane slot w => Sys2Proof.Machine.execFpFma pane slot w s
  | .fpMin pane slot w => Sys2Proof.Machine.execFpMin pane slot w s
  | .fpMax pane slot w => Sys2Proof.Machine.execFpMax pane slot w s
  | .fpAbs pane slot w => Sys2Proof.Machine.execFpAbs pane slot w s
  | .fpNeg pane slot w => Sys2Proof.Machine.execFpNeg pane slot w s
  | .fpSetp pane slot w => Sys2Proof.Machine.execFpSetp pane slot w s
  | .cvt pane slot w => Sys2Proof.Machine.execCvt pane slot w s
  | .rcp pane slot w => Sys2Proof.Machine.execRcp pane slot w s
  | .sqrt pane slot w => Sys2Proof.Machine.execSqrt pane slot w s
  | .rsqrt pane slot w => Sys2Proof.Machine.execRsqrt pane slot w s
  | .exp2 pane slot w => Sys2Proof.Machine.execExp2 pane slot w s
  | .log2 pane slot w => Sys2Proof.Machine.execLog2 pane slot w s
  | .sin pane slot w => Sys2Proof.Machine.execSin pane slot w s
  | .cos pane slot w => Sys2Proof.Machine.execCos pane slot w s
  | .ld pane slot w => Sys2Proof.Machine.execLd pane slot w s
  | .st pane slot w => Sys2Proof.Machine.execSt pane slot w s
  | .ldS pane slot w => Sys2Proof.Machine.execLdS pane slot w s
  | .atomAdd pane slot w => Sys2Proof.Machine.execAtomAdd pane slot w s
  | .atomMin pane slot w => Sys2Proof.Machine.execAtomMin pane slot w s
  | .atomMax pane slot w => Sys2Proof.Machine.execAtomMax pane slot w s
  | .atomAnd pane slot w => Sys2Proof.Machine.execAtomAnd pane slot w s
  | .atomOr pane slot w => Sys2Proof.Machine.execAtomOr pane slot w s
  | .atomXor pane slot w => Sys2Proof.Machine.execAtomXor pane slot w s
  | .atomExch pane slot w => Sys2Proof.Machine.execAtomExch pane slot w s
  | .atomCas pane slot w => Sys2Proof.Machine.execAtomCas pane slot w s
  | .atomTset pane slot w => Sys2Proof.Machine.execAtomTset pane slot w s
  | .nop pane slot w => Sys2Proof.Machine.execNop pane slot w s
  | .bra pane slot w => Sys2Proof.Machine.execBra pane slot w s
  | .call pane slot w => Sys2Proof.Machine.execCall pane slot w s
  | .jmp pane slot w => Sys2Proof.Machine.execJmp pane slot w s
  | .exit pane slot w => Sys2Proof.Machine.execExit pane slot w s
  | .barPane pane slot w => Sys2Proof.Machine.execBarPane pane slot w s
  | .rdtime pane slot w => Sys2Proof.Machine.execRdtime pane slot w s
  | .rdsr pane slot w => Sys2Proof.Machine.execRdsr pane slot w s
  | .trap pane slot w => Sys2Proof.Machine.execTrap pane slot w s
  | .fence pane slot w => Sys2Proof.Machine.execFence pane slot w s
  | .fenceRel pane slot w => Sys2Proof.Machine.execFenceRel pane slot w s
  | .fenceAcq pane slot w => Sys2Proof.Machine.execFenceAcq pane slot w s
  | .waitCtr pane slot w => Sys2Proof.Machine.execWaitCtr pane slot w s
  | .testCtr pane slot w => Sys2Proof.Machine.execTestCtr pane slot w s
  | .ctrAdd pane slot w => Sys2Proof.Machine.execCtrAdd pane slot w s
  | .ctrSet pane slot w => Sys2Proof.Machine.execCtrSet pane slot w s
  | .copy pane slot w => Sys2Proof.Machine.execCopy pane slot w s
  | .mma pane slot w0 w1 => Sys2Proof.Machine.execMma pane slot w0 w1 s
  | .accLd pane slot w0 w1 => Sys2Proof.Machine.execAccLd pane slot w0 w1 s
  | .accSt pane slot w0 w1 => Sys2Proof.Machine.execAccSt pane slot w0 w1 s
  | .accDrain pane slot w0 w1 => Sys2Proof.Machine.execAccDrain pane slot w0 w1 s
  | .put pane slot w0 w1 => Sys2Proof.Machine.execPut pane slot w0 w1 s
  | .get pane slot w0 w1 => Sys2Proof.Machine.execGet pane slot w0 w1 s
  | .accputOrd pane slot w0 w1 => Sys2Proof.Machine.execAccputOrd pane slot w0 w1 s
  | .ctrInc pane slot w0 w1 => Sys2Proof.Machine.execCtrInc pane slot w0 w1 s
  | .amoAdd pane slot w0 w1 => Sys2Proof.Machine.execAmoAdd pane slot w0 w1 s
  | .amoMin pane slot w0 w1 => Sys2Proof.Machine.execAmoMin pane slot w0 w1 s
  | .amoMax pane slot w0 w1 => Sys2Proof.Machine.execAmoMax pane slot w0 w1 s
  | .amoAnd pane slot w0 w1 => Sys2Proof.Machine.execAmoAnd pane slot w0 w1 s
  | .amoOr pane slot w0 w1 => Sys2Proof.Machine.execAmoOr pane slot w0 w1 s
  | .amoXor pane slot w0 w1 => Sys2Proof.Machine.execAmoXor pane slot w0 w1 s
  | .amoExch pane slot w0 w1 => Sys2Proof.Machine.execAmoExch pane slot w0 w1 s
  | .amoCas pane slot w0 w1 => Sys2Proof.Machine.execAmoCas pane slot w0 w1 s
  | .amoTset pane slot w0 w1 => Sys2Proof.Machine.execAmoTset pane slot w0 w1 s
  | .barrierTimeout cohort bar => Sys2Proof.Machine.execBarrierTimeout cohort bar s
  | .matrixQueueHead pane strikes errors parts => Sys2Proof.Machine.execMatrixQueueHead pane s strikes errors parts
  | .cubeStepVerdict pane sums accs rounds => Sys2Proof.Machine.execCubeStepVerdict pane sums accs rounds s
  | .vectorCheck pane slot lanes mismatch again => Sys2Proof.Machine.execVectorCheck pane slot lanes mismatch again s
  | .handshakeCodeFault loc => Sys2Proof.Machine.execHandshakeCodeFault loc s
  | .stallFault loc held since => Sys2Proof.Machine.execStallFault loc held s since
  | .copyComplete pane copy parts => Sys2Proof.Machine.execCopyComplete pane copy s parts
  | .remoteTimeout tid => Sys2Proof.Machine.execRemoteTimeout tid s
  | .waitTimeout w => Sys2Proof.Machine.execWaitTimeout w s
  | .waitWake w => Sys2Proof.Machine.execWaitWake w s
  | .putPacket p parts => Sys2Proof.Machine.execPutPacket p s parts
  | .getPacket p => Sys2Proof.Machine.execGetPacket p s
  | .amoPacket p => Sys2Proof.Machine.execAmoPacket p s
  | .ctrincPacket p => Sys2Proof.Machine.execCtrincPacket p s
  | .accputPacket p => Sys2Proof.Machine.execAccputPacket p s
  | .ackPacket p => Sys2Proof.Machine.execAckPacket p s
  | .getdataPacket p => Sys2Proof.Machine.execGetdataPacket p s
  | .amodataPacket p => Sys2Proof.Machine.execAmodataPacket p s
  | .deferPacket p => Sys2Proof.Machine.execDeferPacket p s
  | .accputResend tid piece => Sys2Proof.Machine.execAccputResend tid piece s
  | .creditPacket door vc0 vc1 => Sys2Proof.Machine.execCreditPacket door vc0 vc1 s
  | .partialIncrement q => Sys2Proof.Machine.execPartialIncrement q s
  | .pendingCountTimeout q => Sys2Proof.Machine.execPendingCountTimeout q s
  | .orderStall part pool range => Sys2Proof.Machine.execOrderStall part pool range s
  | .sillAccess req code other sram => Sys2Proof.Machine.execSillAccess req code other s sram
  | .mirrorPartnerWrite req => Sys2Proof.Machine.execMirrorPartnerWrite req s
  | .scrubRead stack pc row sector code other => Sys2Proof.Machine.execScrubRead stack pc row sector code other s
  | .refreshSample stack report sensor => Sys2Proof.Machine.execRefreshSample stack report s sensor
  | .imbalanceWindow stack pc part ratio busy span => Sys2Proof.Machine.execImbalanceWindow stack pc part ratio busy span s
  | .pcRetrainDone stack channel suspect => Sys2Proof.Machine.execPcRetrainDone stack channel suspect s
  | .pcSelfTestDone stack pc pass => Sys2Proof.Machine.execPcSelfTestDone stack pc pass s
  | .pcMigrationDone stack pc errors => Sys2Proof.Machine.execPcMigrationDone stack pc s errors
  | .poolZeroed part pool => Sys2Proof.Machine.execPoolZeroed part pool s
  | .rateMonitorWindow monitor khz => Sys2Proof.Machine.execRateMonitorWindow monitor khz s
  | .lintelViewRefresh unit => Sys2Proof.Machine.execLintelViewRefresh unit s
  | .cohortPlace part => Sys2Proof.Machine.execCohortPlace part s
  | .cohortEnd cohort => Sys2Proof.Machine.execCohortEnd cohort s
  | .launchComplete part launch => Sys2Proof.Machine.execLaunchComplete part launch s
  | .descNop part queue => Sys2Proof.Machine.execDescNop part queue s
  | .descLaunch part queue => Sys2Proof.Machine.execDescLaunch part queue s
  | .descWait part queue => Sys2Proof.Machine.execDescWait part queue s
  | .doorbellTailWrite part queue value => Sys2Proof.Machine.execDoorbellTailWrite part queue value s
  | .doorbellResume part queue => Sys2Proof.Machine.execDoorbellResume part queue s
  | .doorbellFheadWrite part queue value => Sys2Proof.Machine.execDoorbellFheadWrite part queue value s
  | .partitionCreate m => Sys2Proof.Machine.execPartitionCreate m s
  | .partitionResize m => Sys2Proof.Machine.execPartitionResize m s
  | .resizeDone part => Sys2Proof.Machine.execResizeDone part s
  | .partitionDestroy m => Sys2Proof.Machine.execPartitionDestroy m s
  | .poolCreate via => Sys2Proof.Machine.execPoolCreate via s
  | .poolRelease via => Sys2Proof.Machine.execPoolRelease via s
  | .map via => Sys2Proof.Machine.execMap via s
  | .unmap via => Sys2Proof.Machine.execUnmap via s
  | .queueCreate via => Sys2Proof.Machine.execQueueCreate via s
  | .queueDestroy via => Sys2Proof.Machine.execQueueDestroy via s
  | .shardRegister via => Sys2Proof.Machine.execShardRegister via s
  | .shardDeregister via => Sys2Proof.Machine.execShardDeregister via s
  | .controlBlockCapture part => Sys2Proof.Machine.execControlBlockCapture part s
  | .chipDone part => Sys2Proof.Machine.execChipDone part s
  | .doneCell door c => Sys2Proof.Machine.execDoneCell door c s
  | .stepClose part => Sys2Proof.Machine.execStepClose part s
  | .sillUpdateDone part sill => Sys2Proof.Machine.execSillUpdateDone part sill s
  | .stepCommit part => Sys2Proof.Machine.execStepCommit part s
  | .updateStall part => Sys2Proof.Machine.execUpdateStall part s
  | .commitCell door c => Sys2Proof.Machine.execCommitCell door c s
  | .blockReceive door b => Sys2Proof.Machine.execBlockReceive door b s
  | .doorErrorWindow door replays symbolErrors => Sys2Proof.Machine.execDoorErrorWindow door replays symbolErrors s
  | .doorRetrainDone door good => Sys2Proof.Machine.execDoorRetrainDone door good s
  | .doorRetrainLimit door => Sys2Proof.Machine.execDoorRetrainLimit door s
  | .identityBlock door peer => Sys2Proof.Machine.execIdentityBlock door peer s
  | .timeCellSend others => Sys2Proof.Machine.execTimeCellSend s others
  | .timeCell door c => Sys2Proof.Machine.execTimeCell door c s
  | .delayReqSend door => Sys2Proof.Machine.execDelayReqSend door s
  | .delayReq door c => Sys2Proof.Machine.execDelayReq door c s
  | .delayResp door c => Sys2Proof.Machine.execDelayResp door c s
  | .syncCellSilence => Sys2Proof.Machine.execSyncCellSilence s
  | .ethFrame f => Sys2Proof.Machine.execEthFrame f s
  | .neighborDiscovery iface m => Sys2Proof.Machine.execNeighborDiscovery iface m s
  | .icmpEcho iface target payload => Sys2Proof.Machine.execIcmpEcho iface target payload s
  | .rdmaSend r => Sys2Proof.Machine.execRdmaSend r s
  | .rdmaWrite r => Sys2Proof.Machine.execRdmaWrite r s
  | .rdmaRead r => Sys2Proof.Machine.execRdmaRead r s
  | .cnpReceive qpn => Sys2Proof.Machine.execCnpReceive qpn s
  | .rateRecoveryStep qpn => Sys2Proof.Machine.execRateRecoveryStep qpn s
  | .hostLinkLoss => Sys2Proof.Machine.execHostLinkLoss s
  | .hostLinkTrained only800 => Sys2Proof.Machine.execHostLinkTrained only800 s
  | .ptpSync m => Sys2Proof.Machine.execPtpSync m s
  | .ptpLost => Sys2Proof.Machine.execPtpLost s
  | .openRound1 m => Sys2Proof.Machine.execOpenRound1 m s
  | .openRound2 m => Sys2Proof.Machine.execOpenRound2 m s
  | .sidebandOpen part nonce rsv => Sys2Proof.Machine.execSidebandOpen part nonce rsv s
  | .read m => Sys2Proof.Machine.execRead m s
  | .write m => Sys2Proof.Machine.execWrite m s
  | .describe m => Sys2Proof.Machine.execDescribe m s
  | .list m => Sys2Proof.Machine.execList m s
  | .subscribe m => Sys2Proof.Machine.execSubscribe m s
  | .keepalive m => Sys2Proof.Machine.execKeepalive m s
  | .close m => Sys2Proof.Machine.execClose m s
  | .eventAck m => Sys2Proof.Machine.execEventAck m s
  | .eventResend session => Sys2Proof.Machine.execEventResend session s
  | .sessionIdleTimeout session => Sys2Proof.Machine.execSessionIdleTimeout session s
  | .commit m => Sys2Proof.Machine.execCommit m s
  | .restoreDefaults m => Sys2Proof.Machine.execRestoreDefaults m s
  | .seal m => Sys2Proof.Machine.execSeal m s
  | .claim m sigOk => Sys2Proof.Machine.execClaim m sigOk s
  | .attestationChallenge m => Sys2Proof.Machine.execAttestationChallenge m s
  | .alertClear m => Sys2Proof.Machine.execAlertClear m s
  | .counterClear m => Sys2Proof.Machine.execCounterClear m s
  | .orderReset m => Sys2Proof.Machine.execOrderReset m s
  | .doorRetrain m => Sys2Proof.Machine.execDoorRetrain m s
  | .qpConnect m => Sys2Proof.Machine.execQpConnect m s
  | .qpDestroy m => Sys2Proof.Machine.execQpDestroy m s
  | .keyCreate m => Sys2Proof.Machine.execKeyCreate m s
  | .keyDestroy m => Sys2Proof.Machine.execKeyDestroy m s
  | .runTest m => Sys2Proof.Machine.execRunTest m s
  | .inFieldTestDue kind number => Sys2Proof.Machine.execInFieldTestDue kind number s
  | .testDeferralDeadline pane => Sys2Proof.Machine.execTestDeferralDeadline pane s
  | .hardTestLimit pane => Sys2Proof.Machine.execHardTestLimit pane s
  | .targetedTestDone kind number pass => Sys2Proof.Machine.execTargetedTestDone kind number pass s
  | .paneMigrated pane detected => Sys2Proof.Machine.execPaneMigrated pane s detected
  | .contextReset m hung => Sys2Proof.Machine.execContextReset m s hung
  | .fencePartition m => Sys2Proof.Machine.execFencePartition m s
  | .fenceDrainTimeout part => Sys2Proof.Machine.execFenceDrainTimeout part s
  | .fenceComplete part => Sys2Proof.Machine.execFenceComplete part s
  | .sashReset m => Sys2Proof.Machine.execSashReset m s
  | .sashResetComplete sash => Sys2Proof.Machine.execSashResetComplete sash s
  | .deviceReset m => Sys2Proof.Machine.execDeviceReset m s
  | .resetWatchdogExpiry stage target => Sys2Proof.Machine.execResetWatchdogExpiry stage target s
  | .snapshotTakeSend part => Sys2Proof.Machine.execSnapshotTakeSend part s
  | .snapshotNow m => Sys2Proof.Machine.execSnapshotNow m s
  | .snapmarkTake door c => Sys2Proof.Machine.execSnapmarkTake door c s
  | .snapshotArmTimeout part => Sys2Proof.Machine.execSnapshotArmTimeout part s
  | .snapshotDrainBlock part => Sys2Proof.Machine.execSnapshotDrainBlock part s
  | .snapshotBlockReceive job origin snapid head pool block data digest => Sys2Proof.Machine.execSnapshotBlockReceive job origin snapid head pool block data digest s
  | .snapshotBlockAck part pool block status => Sys2Proof.Machine.execSnapshotBlockAck part pool block status s
  | .snapshotBlockTimeout part pool block => Sys2Proof.Machine.execSnapshotBlockTimeout part pool block s
  | .snapshotDrainEnd part => Sys2Proof.Machine.execSnapshotDrainEnd part s
  | .snapmarkTaken door c => Sys2Proof.Machine.execSnapmarkTaken door c s
  | .snapmarkRetract door c => Sys2Proof.Machine.execSnapmarkRetract door c s
  | .snapshotRestore m src => Sys2Proof.Machine.execSnapshotRestore m src s
  | .snapshotHold m => Sys2Proof.Machine.execSnapshotHold m s
  | .capControlPeriod meanWatts => Sys2Proof.Machine.execCapControlPeriod meanWatts s
  | .voltageSlewStep sash => Sys2Proof.Machine.execVoltageSlewStep sash s
  | .thermalSample sash hotSpot frameSensor frameOrMullion => Sys2Proof.Machine.execThermalSample sash hotSpot frameSensor frameOrMullion s
  | .coolingWaitDone sash => Sys2Proof.Machine.execCoolingWaitDone sash s
  | .idleDetect sash => Sys2Proof.Machine.execIdleDetect sash s
  | .shutterRetention m => Sys2Proof.Machine.execShutterRetention m s
  | .shutterRefreshOnly m => Sys2Proof.Machine.execShutterRefreshOnly m s
  | .shutterExit m => Sys2Proof.Machine.execShutterExit m s
  | .vinTurnOn millivolts => Sys2Proof.Machine.execVinTurnOn millivolts s
  | .vinTurnOff cause => Sys2Proof.Machine.execVinTurnOff cause s
  | .resetNFall => Sys2Proof.Machine.execResetNFall s
  | .powerGood p => Sys2Proof.Machine.execPowerGood p s
  | .refclkLoss => Sys2Proof.Machine.execRefclkLoss s
  | .stackTrainingDone failed bad => Sys2Proof.Machine.execStackTrainingDone failed bad s
  | .deliveryOffer => Sys2Proof.Machine.execDeliveryOffer s
  | .deliverySegment g b => Sys2Proof.Machine.execDeliverySegment g b s
  | .deliveryAbort source => Sys2Proof.Machine.execDeliveryAbort source s
  | .deliveryLapse => Sys2Proof.Machine.execDeliveryLapse s
  | .bootReady failedPanes => Sys2Proof.Machine.execBootReady failedPanes s
  | .blockLockLoss door => Sys2Proof.Machine.execBlockLockLoss door s
  | .lineFill req => Sys2Proof.Machine.execLineFill req s
  | .storeAck req => Sys2Proof.Machine.execStoreAck req s
  | .randomSourceFailure => Sys2Proof.Machine.execRandomSourceFailure s
  | .plcaBeaconLoss => Sys2Proof.Machine.execPlcaBeaconLoss s
  | .plcaBeaconReceive => Sys2Proof.Machine.execPlcaBeaconReceive s
  | .ptpDelayResp offset => Sys2Proof.Machine.execPtpDelayResp offset s
  | .restoreBlockReceive part pool block data stored replica => Sys2Proof.Machine.execRestoreBlockReceive part pool block data stored replica s
  | .restoreBlockTimeout part => Sys2Proof.Machine.execRestoreBlockTimeout part s

end Sys2Proof.Machine
end

