-- ==== Sys2Proof/Machine/Tick.lean ====
section
/-! DEFINITION. The passage of time: one tick of the primary lintel (R37, R38). -/

namespace Sys2Proof.Machine

/-- One nanosecond passes at the lintel, at which a PAUSE may end (R315), and one second of operation with each thousand million of them (R38, R365). Log entry 2 (DESIGN CHOICE). -/
def Device.tick (s : Device) : Device :=
  let now := (s.lintel.now + 1) % 2 ^ 64
  let units := if now % 1000000000 = 0 then { s.units with opsec := s.units.opsec + 1 } else s.units
  ({ s with lintel := { s.lintel with now }, units }).unpause

end Sys2Proof.Machine
end

