-- ==== Sys2Proof/WellFormed.lean ====
section
/-! DEFINITION. Which commands are well formed: unit numbers within the module, message and packet fields within their
widths, and operands of the row that the constructor stands for. Nothing here says that a command succeeds. -/

namespace Sys2Proof

/-- CLASS and OP of a Krycha word (Table 04-2). -/
def wordClass (w : DWord) : Nat := w.toNat % 16
def wordOp (w : DWord) : Nat := w.toNat / 16 % 256

/-- A Krycha instruction of a row: an active pane number, a group slot, and a word whose CLASS and OP are among the row's
(R43, R72, Tables 04-5 to 04-14). -/
def issued (pane slot : Nat) (w : DWord) (rows : List (Nat × Nat)) : Bool :=
  decide (pane < 320) && decide (slot < 64) && rows.contains (wordClass w, wordOp w)

/-- A retirable unit (Table 16-7): kind 0 cube row, 1 pane, 2 pseudo-channel, 3 lane. -/
def unitNamed (kind number : Nat) : Bool :=
  match kind with
  | 0 => decide (number < 1690)
  | 1 => decide (number < 338)
  | 2 => decide (number < 1280)
  | 3 => decide (number < 96)
  | _ => false

def FaultLoc.wf : FaultLoc → Bool
  | .cubeRow pane row => decide (pane < 320) && decide (row < 5)
  | .paneOther pane => decide (pane < 320)
  | .meshThrough sash => decide (sash < 2)
  | .mullion => true
  | .sillLogic stack => decide (stack < 20)
  | .frameDie => true

def Waiter.wf : Waiter → Bool
  | .path pane slot lane => decide (pane < 320) && decide (slot < 64) && decide (lane < 128)
  | .queue part n => decide (part < 32) && decide (n < 16384)

/-- The symbols of a sector and of its check bits (R160). -/
def CodeError.wf (e : CodeError) : Bool := e.symbols.all (fun q => decide (q.1 < 36))

/-- A packet's fields fit Table 13-4. -/
def Packet.wf (p : Packet) : Bool :=
  decide (p.type < 16) && decide (p.vc < 2) && decide (p.dst < 4096) && decide (p.src < 4096) && decide (p.job < 65536)
    && decide (p.tid < 2 ^ 20) && decide (p.dlen ≤ 16) && decide (p.sz < 8) && decide (p.ord < 4) && decide (p.aop < 16)
    && decide (p.status < 256) && decide (p.elt < 4) && decide (p.arg < 2 ^ 32) && decide (p.space < 16)
    && decide (p.taddr < 2 ^ 48) && decide (p.rctr < 2 ^ 64) && decide (p.data.length ≤ 512)
    && p.via.all (fun d => decide (d < 24)) && p.origin.all (fun a => decide (a < 320))

def Partial.wf (q : Partial) : Bool :=
  decide (q.src < 4096) && decide (q.tid < 2 ^ 20) && decide (q.job < 65536) && decide (q.nseg < 65536)
    && decide (q.rctr < 2 ^ 64) && decide (q.status < 256)

/-- A synchronisation cell's fields fit Table 13-7. -/
def SyncCell.wf (c : SyncCell) : Bool :=
  decide (c.skind < 256) && decide (c.domain < 65536) && decide (c.origin < 4096) && decide (c.hops < 16)
    && decide (c.job < 65536) && decide (c.cause < 256) && decide (c.step < 2 ^ 64) && decide (c.txtime < 2 ^ 64)
    && decide (-(2 ^ 63 : Int) ≤ c.corr) && decide (c.corr < (2 ^ 63 : Int)) && decide (c.rxtime < 2 ^ 64)
    && decide (c.payload < 2 ^ 448)

/-- A block's fields fit Table 13-3. -/
def Block.wf (b : Block) : Bool :=
  decide (b.bseq < 2048) && decide (b.back < 2048) && decide (b.kinds < 256) && decide (b.rsv < 2)
    && b.body.length == 512 && decide (b.crc < 2 ^ 32)

/-- An identity block names a chip, a door and a sync domain (R293). -/
def Identity.wf (i : Identity) : Bool :=
  decide (i.role < 2) && decide (i.chip < 4096) && decide (i.domain < 65536)

/-- A Transom message's fields fit Table 15-4 and the address of R344. -/
def TMsg.wf (m : TMsg) : Bool :=
  decide (m.session < 2 ^ 32) && decide (m.seq < 2 ^ 32) && decide (m.index < 65536) && decide (m.sub < 256)
    && decide (m.row < 65536) && decide (m.nrows < 65536) && decide (m.value.length < 65536)

/-- The value that a message writes. -/
def TMsg.number (m : TMsg) : Nat := m.value.foldr (fun b n => b.toNat + 256 * n) 0

/-- A management command of one opcode (Table 12-4): a queue of a partition, whose next descriptor names the opcode, or a
write of OD 0x6010 of a descriptor that names it or no management opcode. -/
def CmdPath.wf (opc : Nat) : CmdPath → Bool
  | .queue part n => decide (part < 32) && decide (n < 16384)
  | .session m => m.wf && m.index == 0x6010 && (m.number % 256 == opc || !decide (0x10 ≤ m.number % 256 ∧ m.number % 256 ≤ 0x17))

def Frame.wf (f : Frame) : Bool := f.vlan.all (fun v => decide (v < 4096))

def Rdma.wf (r : Rdma) : Bool :=
  decide (r.qpn < 2 ^ 24) && decide (r.psn < 2 ^ 24) && decide (r.rkey < 2 ^ 32) && decide (r.va < 2 ^ 64)
    && decide (r.len < 2 ^ 32)

/-- A packet comes as the row of its operation; one whose opcode no queue pair accepts may come as any of the three (R317). -/
def Rdma.isFor (r : Rdma) (op : RdmaOp) : Bool :=
  r.wf && (r.op == op || r.op == .atomic || r.op == .window || r.transport != .rc || r.extra || (r.op == .read && r.place != .only))

def Neighbour.wf : Neighbour → Bool
  | .solicit target => decide (target < 2 ^ 128)
  | .announce network length => decide (network < 2 ^ 128) && decide (length ≤ 128)

def Segment.wf (g : Segment) : Bool := decide (g.bootid < 2 ^ 32) && decide (g.offset < 2 ^ 32)

def Open1.wf (m : Open1) : Bool := decide (m.part < 256) && decide (m.nonce < 2 ^ 256)

def Open2.wf (m : Open2) : Bool := decide (m.session < 2 ^ 32)

/-- The entries of access X, a write of which is an action's own row (R335). -/
def actionIndices : List Nat :=
  [0x1100, 0x1102, 0x1103, 0x2001, 0x4024, 0x5110, 0x5111, 0x5120, 0x5122, 0x6002, 0x6003, 0x6004, 0x6010, 0x6132, 0x8051,
   0x9030, 0xA010, 0xA030, 0xA040, 0xA100, 0xA101, 0xA110, 0xB001, 0xB021, 0xC001]

/-- The well-formed commands. -/
def Instr.wf : Instr → Bool
  | .add pane slot w => issued pane slot w [(0x1, 0x00), (0x1, 0x80), (0x5, 0x00), (0x5, 0x80)]
  | .sub pane slot w => issued pane slot w [(0x1, 0x01), (0x1, 0x81), (0x5, 0x01), (0x5, 0x81)]
  | .mulLo pane slot w => issued pane slot w [(0x1, 0x02), (0x1, 0x82), (0x5, 0x02), (0x5, 0x82)]
  | .mulHi pane slot w => issued pane slot w [(0x1, 0x03), (0x1, 0x83), (0x5, 0x03), (0x5, 0x83)]
  | .madLo pane slot w => issued pane slot w [(0x1, 0x04), (0x5, 0x04)]
  | .min pane slot w => issued pane slot w [(0x1, 0x05), (0x1, 0x85), (0x5, 0x05), (0x5, 0x85)]
  | .max pane slot w => issued pane slot w [(0x1, 0x06), (0x1, 0x86), (0x5, 0x06), (0x5, 0x86)]
  | .abs pane slot w => issued pane slot w [(0x1, 0x07), (0x5, 0x07)]
  | .and pane slot w => issued pane slot w [(0x1, 0x08), (0x1, 0x88), (0x5, 0x08), (0x5, 0x88)]
  | .or pane slot w => issued pane slot w [(0x1, 0x09), (0x1, 0x89), (0x5, 0x09), (0x5, 0x89)]
  | .xor pane slot w => issued pane slot w [(0x1, 0x0A), (0x1, 0x8A), (0x5, 0x0A), (0x5, 0x8A)]
  | .not pane slot w => issued pane slot w [(0x1, 0x0B), (0x5, 0x0B)]
  | .shl pane slot w => issued pane slot w [(0x1, 0x0C), (0x1, 0x8C), (0x5, 0x0C), (0x5, 0x8C)]
  | .shr pane slot w => issued pane slot w [(0x1, 0x0D), (0x1, 0x8D), (0x5, 0x0D), (0x5, 0x8D)]
  | .sar pane slot w => issued pane slot w [(0x1, 0x0E), (0x1, 0x8E), (0x5, 0x0E), (0x5, 0x8E)]
  | .popc pane slot w => issued pane slot w [(0x1, 0x0F), (0x5, 0x0F)]
  | .clz pane slot w => issued pane slot w [(0x1, 0x10), (0x5, 0x10)]
  | .brev pane slot w => issued pane slot w [(0x1, 0x11), (0x5, 0x11)]
  | .setp pane slot w => issued pane slot w [(0x1, 0x12), (0x1, 0x92), (0x5, 0x12), (0x5, 0x92)]
  | .sel pane slot w => issued pane slot w [(0x1, 0x13), (0x5, 0x13)]
  | .mov pane slot w => issued pane slot w [(0x1, 0x14), (0x1, 0x94), (0x5, 0x14), (0x5, 0x94)]
  | .shflIdx pane slot w => issued pane slot w [(0x1, 0x15), (0x1, 0x95)]
  | .shflXor pane slot w => issued pane slot w [(0x1, 0x16), (0x1, 0x96)]
  | .vote pane slot w => issued pane slot w [(0x1, 0x17)]
  | .fpAdd pane slot w => issued pane slot w [(0x2, 0x00), (0x2, 0x80), (0x3, 0x00), (0x3, 0x80), (0x4, 0x00), (0x4, 0x80)]
  | .fpSub pane slot w => issued pane slot w [(0x2, 0x01), (0x2, 0x81), (0x3, 0x01), (0x3, 0x81), (0x4, 0x01), (0x4, 0x81)]
  | .fpMul pane slot w => issued pane slot w [(0x2, 0x02), (0x2, 0x82), (0x3, 0x02), (0x3, 0x82), (0x4, 0x02), (0x4, 0x82)]
  | .fpFma pane slot w => issued pane slot w [(0x2, 0x03), (0x3, 0x03), (0x4, 0x03)]
  | .fpMin pane slot w => issued pane slot w [(0x2, 0x04), (0x2, 0x84), (0x3, 0x04), (0x3, 0x84), (0x4, 0x04), (0x4, 0x84)]
  | .fpMax pane slot w => issued pane slot w [(0x2, 0x05), (0x2, 0x85), (0x3, 0x05), (0x3, 0x85), (0x4, 0x05), (0x4, 0x85)]
  | .fpAbs pane slot w => issued pane slot w [(0x2, 0x06), (0x4, 0x06)]
  | .fpNeg pane slot w => issued pane slot w [(0x2, 0x07), (0x4, 0x07)]
  | .fpSetp pane slot w => issued pane slot w [(0x2, 0x08), (0x2, 0x88), (0x3, 0x08), (0x3, 0x88)]
  | .cvt pane slot w => issued pane slot w [(0x2, 0x09), (0x3, 0x09), (0x4, 0x09)]
  | .rcp pane slot w => issued pane slot w [(0x2, 0x10)]
  | .sqrt pane slot w => issued pane slot w [(0x2, 0x11)]
  | .rsqrt pane slot w => issued pane slot w [(0x2, 0x12)]
  | .exp2 pane slot w => issued pane slot w [(0x2, 0x13)]
  | .log2 pane slot w => issued pane slot w [(0x2, 0x14)]
  | .sin pane slot w => issued pane slot w [(0x2, 0x15)]
  | .cos pane slot w => issued pane slot w [(0x2, 0x16)]
  | .ld pane slot w => issued pane slot w [(0x6, 0x00)]
  | .st pane slot w => issued pane slot w [(0x6, 0x01)]
  | .ldS pane slot w => issued pane slot w [(0x6, 0x02)]
  | .atomAdd pane slot w => issued pane slot w [(0x6, 0x08)]
  | .atomMin pane slot w => issued pane slot w [(0x6, 0x09)]
  | .atomMax pane slot w => issued pane slot w [(0x6, 0x0A)]
  | .atomAnd pane slot w => issued pane slot w [(0x6, 0x0B)]
  | .atomOr pane slot w => issued pane slot w [(0x6, 0x0C)]
  | .atomXor pane slot w => issued pane slot w [(0x6, 0x0D)]
  | .atomExch pane slot w => issued pane slot w [(0x6, 0x0E)]
  | .atomCas pane slot w => issued pane slot w [(0x6, 0x0F)]
  | .atomTset pane slot w => issued pane slot w [(0x6, 0x10)]
  | .nop pane slot w => issued pane slot w [(0x0, 0x00)]
  | .bra pane slot w => issued pane slot w [(0x0, 0x01)]
  | .call pane slot w => issued pane slot w [(0x0, 0x02)]
  | .jmp pane slot w => issued pane slot w [(0x0, 0x03)]
  | .exit pane slot w => issued pane slot w [(0x0, 0x04)]
  | .barPane pane slot w => issued pane slot w [(0x0, 0x05)]
  | .rdtime pane slot w => issued pane slot w [(0x0, 0x06)]
  | .rdsr pane slot w => issued pane slot w [(0x0, 0x07)]
  | .trap pane slot w => issued pane slot w [(0x0, 0x08)]
  | .fence pane slot w => issued pane slot w [(0x7, 0x00)] && [0, 3].contains (w.toNat / 2 ^ 18 % 4)
  | .fenceRel pane slot w => issued pane slot w [(0x7, 0x00)] && w.toNat / 2 ^ 18 % 4 == 1
  | .fenceAcq pane slot w => issued pane slot w [(0x7, 0x00)] && w.toNat / 2 ^ 18 % 4 == 2
  | .waitCtr pane slot w => issued pane slot w [(0x8, 0x00)]
  | .testCtr pane slot w => issued pane slot w [(0x8, 0x01)]
  | .ctrAdd pane slot w => issued pane slot w [(0x8, 0x02)]
  | .ctrSet pane slot w => issued pane slot w [(0x8, 0x03)]
  | .copy pane slot w => issued pane slot w [(0x9, 0x00)]
  | .mma pane slot w0 _ => issued pane slot w0 [(0xA, 0x00)]
  | .accLd pane slot w0 _ => issued pane slot w0 [(0xA, 0x01)]
  | .accSt pane slot w0 _ => issued pane slot w0 [(0xA, 0x02)]
  | .accDrain pane slot w0 _ => issued pane slot w0 [(0xA, 0x03)]
  | .put pane slot w0 _ => issued pane slot w0 [(0xB, 0x00)]
  | .get pane slot w0 _ => issued pane slot w0 [(0xB, 0x01)]
  | .accputOrd pane slot w0 _ => issued pane slot w0 [(0xB, 0x02)]
  | .ctrInc pane slot w0 _ => issued pane slot w0 [(0xB, 0x03)]
  | .amoAdd pane slot w0 _ => issued pane slot w0 [(0xB, 0x08)]
  | .amoMin pane slot w0 _ => issued pane slot w0 [(0xB, 0x09)]
  | .amoMax pane slot w0 _ => issued pane slot w0 [(0xB, 0x0A)]
  | .amoAnd pane slot w0 _ => issued pane slot w0 [(0xB, 0x0B)]
  | .amoOr pane slot w0 _ => issued pane slot w0 [(0xB, 0x0C)]
  | .amoXor pane slot w0 _ => issued pane slot w0 [(0xB, 0x0D)]
  | .amoExch pane slot w0 _ => issued pane slot w0 [(0xB, 0x0E)]
  | .amoCas pane slot w0 _ => issued pane slot w0 [(0xB, 0x0F)]
  | .amoTset pane slot w0 _ => issued pane slot w0 [(0xB, 0x10)]
  | .barrierTimeout _ bar => decide (bar < 8)
  | .matrixQueueHead pane _ _ _ => decide (pane < 320)
  | .cubeStepVerdict pane _ _ _ => decide (pane < 320)
  | .vectorCheck pane slot _ _ _ => decide (pane < 320) && decide (slot < 64)
  | .handshakeCodeFault loc => loc.wf
  | .stallFault loc _ _ => loc.wf
  | .copyComplete pane _ _ => decide (pane < 320)
  | .remoteTimeout tid => decide (tid < 1048576)
  | .waitTimeout w => w.wf
  | .waitWake w => w.wf
  | .putPacket p _ => p.wf && p.type == 0x1
  | .getPacket p => p.wf && p.type == 0x2
  | .amoPacket p => p.wf && p.type == 0x3
  | .ctrincPacket p => p.wf && p.type == 0x5
  | .accputPacket p => p.wf && p.type == 0x4
  | .ackPacket p => p.wf && p.type == 0x8
  | .getdataPacket p => p.wf && p.type == 0x9
  | .amodataPacket p => p.wf && p.type == 0xA
  | .deferPacket p => p.wf && p.type == 0xB
  | .accputResend tid _ => decide (tid < 1048576)
  | .creditPacket door _ _ => decide (door < 24)
  | .partialIncrement q => q.wf
  | .pendingCountTimeout q => q.wf
  | .orderStall part pool range => decide (part < 32) && decide (pool < 8) && decide (range < 2 ^ 48)
  | .sillAccess _ code other _ => code.wf && other.wf
  | .mirrorPartnerWrite _ => true
  | .scrubRead stack pc row sector code other =>
    decide (stack < 20) && decide (pc < 64) && decide (row < 4194304) && decide (sector < 16) && code.wf && other.wf
  | .refreshSample stack report sensor => decide (stack < 20) && decide (report < 256) && decide (sensor < 256)
  | .imbalanceWindow stack pc part ratio busy span => decide (stack < 20 ∧ pc < 64 ∧ part < 32 ∧ ratio ≤ 64 ∧ busy ≤ span ∧ 0 < span)
  | .pcRetrainDone stack channel suspect => decide (stack < 20) && decide (channel < 32) && suspect.all (fun pc => decide (pc / 2 = channel))
  | .pcSelfTestDone stack pc _ => decide (stack < 20) && decide (pc < 64)
  | .pcMigrationDone stack pc errors => decide (stack < 20) && decide (pc < 64) && errors.all (fun e => decide (e.1 < 67108864) && e.2.wf)
  | .poolZeroed part pool => decide (part < 32) && decide (pool < 8)
  | .rateMonitorWindow monitor _ => decide (monitor < 16)
  | .lintelViewRefresh unit => decide (unit < 341)
  | .cohortPlace part => decide (part < 32)
  | .cohortEnd _ => true
  | .launchComplete part _ => decide (part < 32)
  | .descNop part queueN => decide (part < 32) && decide (queueN < 16384)
  | .descLaunch part queueN => decide (part < 32) && decide (queueN < 16384)
  | .descWait part queueN => decide (part < 32) && decide (queueN < 16384)
  | .doorbellTailWrite part queueN value => decide (part < 32) && decide (queueN < 16384) && decide (value < 4294967296)
  | .doorbellResume part queueN => decide (part < 32) && decide (queueN < 16384)
  | .doorbellFheadWrite part queueN value => decide (part < 32) && decide (queueN < 16384) && decide (value < 4294967296)
  | .partitionCreate m => m.wf && m.index == 0x6002
  | .partitionResize m => m.wf && m.index == 0x6003
  | .resizeDone part => decide (part < 32)
  | .partitionDestroy m => m.wf && m.index == 0x6004
  | .poolCreate via => via.wf 0x10
  | .poolRelease via => via.wf 0x11
  | .map via => via.wf 0x12
  | .unmap via => via.wf 0x13
  | .queueCreate via => via.wf 0x14
  | .queueDestroy via => via.wf 0x15
  | .shardRegister via => via.wf 0x16
  | .shardDeregister via => via.wf 0x17
  | .controlBlockCapture part => decide (part < 32)
  | .chipDone part => decide (part < 32)
  | .doneCell door c => decide (door < 24) && c.wf && c.skind == 0x10
  | .stepClose part => decide (part < 32)
  | .sillUpdateDone part sill => decide (part < 32) && decide (sill < 20)
  | .stepCommit part => decide (part < 32)
  | .updateStall part => decide (part < 32)
  | .commitCell door c => decide (door < 24) && c.wf && c.skind == 0x11
  | .blockReceive door b => decide (door < 24) && b.wf
  | .doorErrorWindow door _ _ => decide (door < 24)
  | .doorRetrainDone door _ => decide (door < 24)
  | .doorRetrainLimit door => decide (door < 24)
  | .identityBlock door peer => decide (door < 24) && peer.wf
  | .timeCellSend others => others.all (fun cr => decide (cr.1 < 4096 ∧ cr.2 < 256))
  | .timeCell door c => decide (door < 24) && c.wf && c.skind == 0x01
  | .delayReqSend door => decide (door < 24)
  | .delayReq door c => decide (door < 24) && c.wf && c.skind == 0x02
  | .delayResp door c => decide (door < 24) && c.wf && c.skind == 0x03
  | .syncCellSilence => true
  | .ethFrame f => f.wf
  | .neighborDiscovery _ m => m.wf
  | .icmpEcho _ target _ => decide (target < 2 ^ 128)
  | .rdmaSend r => r.isFor .send
  | .rdmaWrite r => r.isFor .write
  | .rdmaRead r => r.isFor .read
  | .cnpReceive qpn => decide (qpn < 16777216)
  | .rateRecoveryStep qpn => decide (qpn < 16777216)
  | .hostLinkLoss => true
  | .hostLinkTrained _ => true
  | .ptpSync _ => true
  | .ptpLost => true
  | .openRound1 m => m.wf
  | .openRound2 m => m.wf
  | .sidebandOpen part nonce _ => decide (part < 32) && decide (nonce < 2 ^ 256)
  | .read m => m.wf
  | .write m => m.wf && !actionIndices.contains m.index
  | .describe m => m.wf
  | .list m => m.wf
  | .subscribe m => m.wf
  | .keepalive m => m.wf
  | .close m => m.wf
  | .eventAck m => m.wf
  | .eventResend session => decide (session < 4294967296)
  | .sessionIdleTimeout session => decide (session < 4294967296)
  | .commit m => m.wf && m.index == 0x1100
  | .restoreDefaults m => m.wf && m.index == 0x1102
  | .seal m => m.wf && m.index == 0x1103
  | .claim m _ => m.wf && m.index == 0xB021
  | .attestationChallenge m => m.wf && m.index == 0xB001
  | .alertClear m => m.wf && m.index == 0x8051
  | .counterClear m => m.wf && m.index == 0xC001
  | .orderReset m => m.wf && m.index == 0x6132
  | .doorRetrain m => m.wf && m.index == 0x4024
  | .qpConnect m => m.wf && m.index == 0x5110
  | .qpDestroy m => m.wf && m.index == 0x5111
  | .keyCreate m => m.wf && m.index == 0x5120
  | .keyDestroy m => m.wf && m.index == 0x5122
  | .runTest m => m.wf && m.index == 0x9030
  | .inFieldTestDue kind number => unitNamed kind number
  | .testDeferralDeadline pane => decide (pane < 320)
  | .hardTestLimit pane => decide (pane < 320)
  | .targetedTestDone kind number _ => unitNamed kind number
  | .paneMigrated pane _ => decide (pane < 320)
  | .contextReset m hung => m.wf && m.index == 0xA110 && hung.all (fun a => decide (a < 320))
  | .fencePartition m => m.wf && m.index == 0xA101
  | .fenceDrainTimeout part => decide (part < 32)
  | .fenceComplete part => decide (part < 32)
  | .sashReset m => m.wf && m.index == 0xA100 && decide (m.number ∉ [3])
  | .sashResetComplete sash => decide (sash < 2)
  | .deviceReset m => m.wf && m.index == 0xA100 && m.number == 3
  | .resetWatchdogExpiry stage target => decide (stage < 8) && decide (target < 338)
  | .snapshotTakeSend part => decide (part < 32)
  | .snapshotNow m => m.wf && m.index == 0xA010
  | .snapmarkTake door c => decide (door < 24) && c.wf && c.skind == 0x12 && c.step / 2 ^ 62 == 0
  | .snapshotArmTimeout part => decide (part < 32)
  | .snapshotDrainBlock part => decide (part < 32)
  | .snapshotBlockReceive _ _ _ _ pool _ _ _ => decide (pool < 8)
  | .snapshotBlockAck part pool _ status => decide (part < 32) && decide (pool < 8) && decide (status < 256)
  | .snapshotBlockTimeout part pool _ => decide (part < 32) && decide (pool < 8)
  | .snapshotDrainEnd part => decide (part < 32)
  | .snapmarkTaken door c => decide (door < 24) && c.wf && c.skind == 0x12 && c.step / 2 ^ 62 == 1
  | .snapmarkRetract door c => decide (door < 24) && c.wf && c.skind == 0x12 && c.step / 2 ^ 62 == 2
  | .snapshotRestore m _ => m.wf && m.index == 0xA030
  | .snapshotHold m => m.wf && m.index == 0xA040
  | .capControlPeriod _ => true
  | .voltageSlewStep sash => decide (sash < 2)
  | .thermalSample sash hotSpot frameSensor frameOrMullion => decide (sash < 2) && decide (hotSpot < 256) && decide (frameSensor < 256) && decide (frameOrMullion < 256)
  | .coolingWaitDone sash => decide (sash < 2)
  | .idleDetect sash => decide (sash < 2)
  | .shutterRetention m => m.wf && m.index == 0x2001 && (m.number == 2 || decide (m.number ∉ [0, 2, 3]))
  | .shutterRefreshOnly m => m.wf && m.index == 0x2001 && (m.number == 3 || decide (m.number ∉ [0, 2, 3]))
  | .shutterExit m => m.wf && m.index == 0x2001 && (m.number == 0 || decide (m.number ∉ [0, 2, 3]))
  | .vinTurnOn _ => true
  | .vinTurnOff _ => true
  | .resetNFall => true
  | .powerGood _ => true
  | .refclkLoss => true
  | .stackTrainingDone failed bad => failed.all (fun k => decide (k < 20)) && bad.all (fun k => decide (k < 1280))
  | .deliveryOffer => true
  | .deliverySegment g _ => g.wf
  | .deliveryAbort _ => true
  | .deliveryLapse => true
  | .bootReady failedPanes => failedPanes.all (fun k => decide (k < 338))
  | .blockLockLoss door => decide (door < 24)
  | .lineFill _ => true
  | .storeAck _ => true
  | .randomSourceFailure => true
  | .plcaBeaconLoss => true
  | .plcaBeaconReceive => true
  | .ptpDelayResp _ => true
  | .restoreBlockReceive part pool _ _ _ _ => decide (part < 32) && decide (pool < 8)
  | .restoreBlockTimeout part => decide (part < 32)

end Sys2Proof
end

