-- ==== Sys2Proof/Safety.lean ====
section
/-! DEFINITION. What claims mean by a safe run: a command completes, the queue holds commands that can run, and the state
keeps its canonical forms. -/

namespace Sys2Proof.Machine

/-- A command ends in a next state. -/
def Completes (o : Host.Outcome State Fault Refusal) : Prop := ∃ t, o = .next t

/-- A turn-off within what the module survives (R451, Table 21-3). -/
def survivable (cause : TurnOff) : Bool := !TurnOff.damages cause

/-- A command that every state can run: well formed, and no turn-off that damages the module. -/
def runs (c : Instr) : Bool :=
  c.wf && (match c with
    | .vinTurnOff cause => survivable cause
    | _ => true)

/-- The queue holds only commands that can run. -/
def queueRuns (s : State) : Prop := ∀ c ∈ s.pending, runs c = true

/-! ## Memory -/

/-- The bytes of memory and the poison of its sectors are in canonical form: keys rising, nothing listed that equals its default; and so are
the sectors of the sill buffers. -/
def Memory.wf (m : MemSt) : Bool := SMap.wf m.bytes 0 && SMap.wf m.poison false && SMap.rising m.buffer

/-! ## Krycha commands -/

/-- The group in a slot can issue the n-byte instruction of the words w and w1: the pane runs, the group's path is ready, its
cohort has no fault, the fetch passes, every register and field that the word names passes its check, no outstanding
load will write a register that it names, and no register of the group holds a double-bit error (R354). `y` is then what the instruction sees. -/
def Issues (s : Device) (pane slot w w1 n : Nat) (uses : Ctx → Uses) (y : Ctx) : Prop :=
  ∃ x, s.issuing pane slot w w1 = some x ∧ x.fetch n = none ∧ y = x.cached n ∧ (uses y).legal y.g.vcount = true
    ∧ y.g.held (uses y) = false ∧ y.g.struck = []

/-- The pane's instruction cache holds the code at the path of a group. -/
def Cached (s : Device) (pane slot : Nat) : Prop :=
  ∀ g p, s.group? pane slot = some g → g.cur? = some p → ∀ k ∈ sectorsOf p.pc 16, k ∈ (s.pane pane).icache

/-- A clean sector of the sill buffers, if the key is one, is poisoned just when its stack's sector is. -/
def MemSt.agrees (m : MemSt) (key : Nat) : Prop :=
  ∀ b, SMap.find m.buffer key = some b → b.dirty = false → b.bad = SMap.get m.poison key false

/-- What the fetch of an instruction leaves: nothing changes where the instruction cache holds it. Else the pane's instruction cache, the
lines and counts of the sills it is read at, and the counter of free values may; no byte of memory does, and no sector's poison,
but where a clean line of a buffer differed from its stack. -/
def Fetches (s t : Device) (pane slot : Nat) : Prop :=
  t = { s with panes := t.panes, free := t.free, use := t.use,
               mem := { s.mem with poison := t.mem.poison, buffer := t.mem.buffer, traffic := t.mem.traffic } }
    ∧ (∀ a, a ≠ pane → t.pane a = s.pane a) ∧ t.pane pane = { s.pane pane with icache := (t.pane pane).icache }
    ∧ (Memory.wf s.mem = true → ∀ key, s.mem.agrees key → t.mem.marked key = s.mem.marked key)
    ∧ (Cached s pane slot → t = s)

/-- Nothing of the module differs but one group of a pane and that pane's counts. -/
def OwnGroup (s t : Device) (pane slot : Nat) : Prop :=
  t = { s with panes := t.panes } ∧ (∀ a, a ≠ pane → t.pane a = s.pane a)
    ∧ (t.pane pane = { s.pane pane with groups := (t.pane pane).groups, perf := (t.pane pane).perf })
    ∧ ∀ k, k ≠ slot → t.group? pane k = s.group? pane k

/-- Nothing of the module differs but what the fetch leaves, one group of a pane, and that pane's counts. -/
def OnlyGroup (s t : Device) (pane slot : Nat) : Prop := ∃ u, Fetches s u pane slot ∧ OwnGroup u t pane slot

/-- Nothing of a group differs but where its paths stand and how many vector results wait for a check. -/
def OnlyPaths (g h : Group) : Prop :=
  h = { g with paths := h.paths, splits := h.splits, cur := h.cur, unchecked := h.unchecked }

/-- A command of a group completes, and leaves everything but that group, its pane's counts and what the fetch leaves as it
was; the group that stands in the slot then is as `P` says. -/
def GroupResult (i : Instr) (s : State) (pane slot : Nat) (P : Group → Prop) : Prop :=
  ∃ t g, exec i s = .next t ∧ t.pending = s.pending ∧ OnlyGroup s.toDevice t.toDevice pane slot
    ∧ t.group? pane slot = some g ∧ P g

/-- A command completes with the module as given, and leaves the queue alone. -/
def Gives (i : Instr) (s : State) (d : Device) : Prop := exec i s = .next { s with toDevice := d }

/-- Lane l of a group stands at an address. -/
def Group.stands (g : Group) (l a : Nat) : Prop := ∃ q ∈ g.paths, q.mask.getLsbD l = true ∧ q.pc = a

/-- The integer conditions of R78 on numbers: signed, and unsigned from MOD 8 on. -/
def compares (m : Nat) (a b : Word) : Bool :=
  let x : Int := if 8 ≤ m then a.toNat else a.toInt
  let y : Int := if 8 ≤ m then b.toNat else b.toInt
  match m % 8 with
  | 0 => decide (x = y)
  | 1 => decide (x ≠ y)
  | 2 => decide (x < y)
  | 3 => decide (x ≤ y)
  | 4 => decide (y < x)
  | 5 => decide (y ≤ x)
  | _ => false

/-- A floating-point instruction as Table 04-6 gives it: its operands, classes and opcode, whether it has an I form, reads B,
has a third source and rounds, and its result and flags in a format and rounding. -/
structure FloatRow where
  pane    : Nat
  slot    : Nat
  w       : DWord
  classes : List Nat
  op      : Nat
  iForm   : Bool
  b       : Bool := false
  c       : ThirdSource := .none
  rounds  : Bool := false
  value   : Fmt → Rm → Nat → Nat → Nat → Nat × Flags5

/-- The instructions of Table 04-6 that compute a value of their class. -/
def floatRow : Instr → Option FloatRow
  | .fpAdd pane slot w =>
    some { pane, slot, w, classes := [2, 3, 4], op := 0x00, iForm := true, b := true, rounds := true,
           value := fun f rm a b _ => fpAdd f rm a b }
  | .fpSub pane slot w =>
    some { pane, slot, w, classes := [2, 3, 4], op := 0x01, iForm := true, b := true, rounds := true,
           value := fun f rm a b _ => fpSub f rm a b }
  | .fpMul pane slot w =>
    some { pane, slot, w, classes := [2, 3, 4], op := 0x02, iForm := true, b := true, rounds := true,
           value := fun f rm a b _ => fpMul f rm a b }
  | .fpFma pane slot w =>
    some { pane, slot, w, classes := [2, 3, 4], op := 0x03, iForm := false, b := true, c := .reg, rounds := true,
           value := fun f rm a b c => fpFma f rm a b c }
  | .fpMin pane slot w =>
    some { pane, slot, w, classes := [2, 3, 4], op := 0x04, iForm := true, b := true, value := fun f _ a b _ => fpPick f false a b }
  | .fpMax pane slot w =>
    some { pane, slot, w, classes := [2, 3, 4], op := 0x05, iForm := true, b := true, value := fun f _ a b _ => fpPick f true a b }
  | .fpAbs pane slot w =>
    some { pane, slot, w, classes := [2, 4], op := 0x06, iForm := false, value := fun f _ a _ _ => (fpAbs f a, 0) }
  | .fpNeg pane slot w =>
    some { pane, slot, w, classes := [2, 4], op := 0x07, iForm := false, value := fun f _ a _ _ => (fpNeg f a, 0) }
  | .rcp pane slot w =>
    some { pane, slot, w, classes := [2], op := 0x10, iForm := false,
           value := fun f _ a _ _ => ((recip f .rne (f.decode a)).1, (recip f .rne (f.decode a)).2 ||| flagIf (f.isSNan a) fInvalid) }
  | .sqrt pane slot w =>
    some { pane, slot, w, classes := [2], op := 0x11, iForm := false,
           value := fun f _ a _ _ => ((sqroot f .rne (f.decode a)).1, (sqroot f .rne (f.decode a)).2 ||| flagIf (f.isSNan a) fInvalid) }
  | .rsqrt pane slot w =>
    some { pane, slot, w, classes := [2], op := 0x12, iForm := false,
           value := fun _ _ a _ _ => special 0x12 rsqrtExact (fun v => heldTo2Ulp (rsqrtValue v)) Config.rsqrt a }
  | .exp2 pane slot w =>
    some { pane, slot, w, classes := [2], op := 0x13, iForm := false, value := fun _ _ a _ _ => exp2Of a }
  | .log2 pane slot w =>
    some { pane, slot, w, classes := [2], op := 0x14, iForm := false,
           value := fun _ _ a _ _ => special 0x14 log2Exact (fun v => heldTo2Ulp (log2Value v)) Config.log2 a }
  | .sin pane slot w =>
    some { pane, slot, w, classes := [2], op := 0x15, iForm := false,
           value := fun _ _ a _ _ => special 0x15 trigExact (heldTrig false) Config.sin a }
  | .cos pane slot w =>
    some { pane, slot, w, classes := [2], op := 0x16, iForm := false,
           value := fun _ _ a _ _ => special 0x16 trigExact (heldTrig true) Config.cos a }
  | _ => none

/-- The local-store atomics of Table 04-8: opcode and operands. -/
def atomicRow : Instr → Option (Nat × Nat × Nat × DWord)
  | .atomAdd pane slot w => some (0x08, pane, slot, w)
  | .atomMin pane slot w => some (0x09, pane, slot, w)
  | .atomMax pane slot w => some (0x0A, pane, slot, w)
  | .atomAnd pane slot w => some (0x0B, pane, slot, w)
  | .atomOr pane slot w => some (0x0C, pane, slot, w)
  | .atomXor pane slot w => some (0x0D, pane, slot, w)
  | .atomExch pane slot w => some (0x0E, pane, slot, w)
  | .atomCas pane slot w => some (0x0F, pane, slot, w)
  | .atomTset pane slot w => some (0x10, pane, slot, w)
  | _ => none

/-- A number of `size` bytes as min and max read it. -/
def signedOr (sgn : Bool) (size n : Nat) : Int := if sgn then sfld n 0 (8 * size) else n

/-- The new word of an atomic, or none where it fails and leaves the word (Tables 04-8, 04-14). -/
def atomicRule (op : Nat) (sgn : Bool) (size old b c : Nat) : Option Nat :=
  match op with
  | 0x08 => some ((old + b) % 2 ^ (8 * size))
  | 0x09 => some (if signedOr sgn size b < signedOr sgn size old then b else old)
  | 0x0A => some (if signedOr sgn size old < signedOr sgn size b then b else old)
  | 0x0B => some (old &&& b)
  | 0x0C => some (old ||| b)
  | 0x0D => some (old ^^^ b)
  | 0x0E => some b
  | 0x0F => if old = c then some b else none
  | _ => if old = 0 then some b else none

/-- An integer instruction as Table 04-5 gives it: its operands, opcode, whether it has an I form, the fields it uses, and its
result from MOD, A, B and C in arithmetic on numbers. -/
structure IntegerRow where
  pane  : Nat
  slot  : Nat
  w     : DWord
  op    : Nat
  iForm : Bool
  shape : Shape := {}
  value : Nat → Word → Word → Word → Word

/-- The instructions of Table 04-5 whose result is a function of their sources. -/
def integerRow : Instr → Option IntegerRow
  | .add pane slot w =>
    some { pane, slot, w, op := 0x00, iForm := true, value := fun _ a b _ => BitVec.ofNat 32 (a.toNat + b.toNat) }
  | .sub pane slot w =>
    some { pane, slot, w, op := 0x01, iForm := true, value := fun _ a b _ => BitVec.ofInt 32 (a.toInt - b.toInt) }
  | .mulLo pane slot w =>
    some { pane, slot, w, op := 0x02, iForm := true, value := fun _ a b _ => BitVec.ofNat 32 (a.toNat * b.toNat) }
  | .mulHi pane slot w =>
    some { pane, slot, w, op := 0x03, iForm := true, shape := { mods := [0, 8] },
           value := fun m a b _ => if m = 8 then BitVec.ofNat 32 (a.toNat * b.toNat / 2 ^ 32)
                                   else BitVec.ofInt 32 (a.toInt * b.toInt / 2 ^ 32) }
  | .madLo pane slot w =>
    some { pane, slot, w, op := 0x04, iForm := false, shape := { c := .reg },
           value := fun _ a b c => BitVec.ofNat 32 (a.toNat * b.toNat + c.toNat) }
  | .min pane slot w =>
    some { pane, slot, w, op := 0x05, iForm := true, shape := { mods := [0, 8] },
           value := fun m a b _ => if m = 8 then BitVec.ofNat 32 (Nat.min a.toNat b.toNat)
                                   else BitVec.ofInt 32 (if b.toInt < a.toInt then b.toInt else a.toInt) }
  | .max pane slot w =>
    some { pane, slot, w, op := 0x06, iForm := true, shape := { mods := [0, 8] },
           value := fun m a b _ => if m = 8 then BitVec.ofNat 32 (Nat.max a.toNat b.toNat)
                                   else BitVec.ofInt 32 (if a.toInt < b.toInt then b.toInt else a.toInt) }
  | .abs pane slot w =>
    some { pane, slot, w, op := 0x07, iForm := false, shape := { b := false },
           value := fun _ a _ _ => BitVec.ofInt 32 (if a.toInt < 0 then -a.toInt else a.toInt) }
  | .and pane slot w => some { pane, slot, w, op := 0x08, iForm := true, value := fun _ a b _ => a &&& b }
  | .or pane slot w => some { pane, slot, w, op := 0x09, iForm := true, value := fun _ a b _ => a ||| b }
  | .xor pane slot w => some { pane, slot, w, op := 0x0A, iForm := true, value := fun _ a b _ => a ^^^ b }
  | .not pane slot w =>
    some { pane, slot, w, op := 0x0B, iForm := false, shape := { b := false },
           value := fun _ a _ _ => BitVec.ofNat 32 (2 ^ 32 - 1 - a.toNat) }
  | .shl pane slot w =>
    some { pane, slot, w, op := 0x0C, iForm := true, value := fun _ a b _ => BitVec.ofNat 32 (a.toNat * 2 ^ (b.toNat % 32)) }
  | .shr pane slot w =>
    some { pane, slot, w, op := 0x0D, iForm := true, value := fun _ a b _ => BitVec.ofNat 32 (a.toNat / 2 ^ (b.toNat % 32)) }
  | .sar pane slot w =>
    some { pane, slot, w, op := 0x0E, iForm := true, value := fun _ a b _ => BitVec.ofInt 32 (a.toInt / 2 ^ (b.toNat % 32)) }
  | .popc pane slot w =>
    some { pane, slot, w, op := 0x0F, iForm := false, shape := { b := false },
           value := fun _ a _ _ => BitVec.ofNat 32 ((List.range 32).countP (fun i => a.getLsbD i)) }
  | .clz pane slot w =>
    some { pane, slot, w, op := 0x10, iForm := false, shape := { b := false },
           value := fun _ a _ _ => BitVec.ofNat 32 ((List.range 32).findIdx (fun i => a.getLsbD (31 - i))) }
  | .brev pane slot w =>
    some { pane, slot, w, op := 0x11, iForm := false, shape := { b := false },
           value := fun _ a _ _ => a.reverse }
  | .mov pane slot w =>
    some { pane, slot, w, op := 0x14, iForm := true, shape := { a := false }, value := fun _ _ b _ => b }
  | _ => none

/-! ## Matrix, remote and fabric commands -/

/-- The matrix instructions of Table 04-11: opcode and operands. -/
def matrixRow : Instr → Option (Nat × Nat × Nat × DWord × DWord)
  | .mma pane slot w0 w1 => some (0, pane, slot, w0, w1)
  | .accLd pane slot w0 w1 => some (1, pane, slot, w0, w1)
  | .accSt pane slot w0 w1 => some (2, pane, slot, w0, w1)
  | .accDrain pane slot w0 w1 => some (3, pane, slot, w0, w1)
  | _ => none

/-- The remote instructions of Table 04-14: opcode and operands. -/
def remoteRow : Instr → Option (Nat × Nat × Nat × DWord × DWord)
  | .put pane slot w0 w1 => some (0x00, pane, slot, w0, w1)
  | .get pane slot w0 w1 => some (0x01, pane, slot, w0, w1)
  | .accputOrd pane slot w0 w1 => some (0x02, pane, slot, w0, w1)
  | .ctrInc pane slot w0 w1 => some (0x03, pane, slot, w0, w1)
  | .amoAdd pane slot w0 w1 => some (0x08, pane, slot, w0, w1)
  | .amoMin pane slot w0 w1 => some (0x09, pane, slot, w0, w1)
  | .amoMax pane slot w0 w1 => some (0x0A, pane, slot, w0, w1)
  | .amoAnd pane slot w0 w1 => some (0x0B, pane, slot, w0, w1)
  | .amoOr pane slot w0 w1 => some (0x0C, pane, slot, w0, w1)
  | .amoXor pane slot w0 w1 => some (0x0D, pane, slot, w0, w1)
  | .amoExch pane slot w0 w1 => some (0x0E, pane, slot, w0, w1)
  | .amoCas pane slot w0 w1 => some (0x0F, pane, slot, w0, w1)
  | .amoTset pane slot w0 w1 => some (0x10, pane, slot, w0, w1)
  | _ => none

/-- A packet that has arrived, of its row's type, that the receiver keeps, that overtakes nothing, and that no stack, reset or pane's
edge holds. -/
def Arrives (s : Device) (type : Nat) (p : Packet) : Prop :=
  p ∈ s.fabric.arrived ∧ p.type = type ∧ s.accepts p = true ∧ s.overtakes p = false ∧ s.stackHolds p = false ∧ s.held? p = false
    ∧ (type ≤ 5 → p.space = 1 → p.taddr / 2 ^ 24 < 320 → s.edgeHeld (p.taddr / 2 ^ 24) = false)

/-- A packet has arrived on this chip, waits for a door, or has left by one in blocks that spell it. -/
def OnItsWay (t : Device) (p : Packet) : Prop :=
  p ∈ t.fabric.arrived ∨ (∃ n, (n, p) ∈ t.fabric.waiting)
    ∨ ∃ d b back nak crc, Emission.door d b back nak crc ∈ t.sent ∧ p ∈ b.packets ∧ (b.kinds, b.body) ∈ packetBlocks p

/-- A synchronisation cell has left on a door as the next block of its stream. -/
def CellLeft (s t : Device) (door : Nat) (c : SyncCell) : Prop :=
  ∃ b back nak crc, Emission.door door b back nak crc ∈ t.sent ∧ b.bseq = (s.door door).txNext ∧ b.packets = [] ∧ b.cells = [c]
    ∧ (b.kinds, b.body) = blockOf [(1, cellBytes c)]

/-- No acknowledgement of a queue pair has left. -/
def NoAck (s t : Device) (qpn : Nat) : Prop := ∀ h data, Emission.roce qpn 0 h data ∈ t.sent → Emission.roce qpn 0 h data ∈ s.sent

/-- The host port holds nothing back. -/
def PortFree (s : Device) : Prop := s.host.pausedUntil ≤ s.now ∧ s.host.held = []

/-- A response of a type, status and data to a request is on its way to the request's source. -/
def Answered (t : Device) (p : Packet) (type status : Nat) (data : List Byte) : Prop :=
  ∃ a : Packet, a.type = type ∧ a.vc = 1 ∧ a.dst = p.src ∧ a.tid = p.tid ∧ a.taddr = p.taddr ∧ a.status = status ∧ a.data = data
    ∧ OnItsWay t a

/-- What an error of a sector's code makes of it (R160): nothing, one wrong symbol, or two or three or a wrong address. -/
def codeClean (e : CodeError) : Prop := e.address = false ∧ wrongSymbols e = 0
def codeCorrected (e : CodeError) : Prop := e.address = false ∧ wrongSymbols e = 1
def codeDetected (e : CodeError) : Prop := e.address = true ∨ (2 ≤ wrongSymbols e ∧ wrongSymbols e ≤ 3)

/-- COUNT of a counter word after an increment by n: it saturates (R217). -/
def countAfter (w n : Nat) : Nat := min (w % 2 ^ 32 + n) (2 ^ 32 - 1)

/-! ## Transom -/

/-- A request that its session admits and whose turn it is (R342, R346). -/
def Accepted (s : Device) (type : Nat) (m : TMsg) (x : Session) : Prop :=
  s.session? m.session = some x ∧ s.carries m.iface = true ∧ headerOk type m x = true ∧ m.rsv = 0 ∧ x.busy = none
    ∧ m.seq = (x.lastSeq + 1) % 2 ^ 32

/-- A request's response has left, and its session keeps it and takes its next request (R344, R346). -/
def Responds (t : Device) (x : Session) (m : TMsg) (type status more : Nat) (body : List Byte) : Prop :=
  Emission.response x.iface m.session (type + 0x80) m.seq status more body ∈ t.sent
    ∧ ∃ y, t.session? m.session = some y ∧ y.lastSeq = m.seq ∧ y.busy = none ∧ y.kept = some (type + 0x80, status + 256 * more, body)

/-- A write of an action's entry that its checks pass and that finds its sequence free (R332, R335, R340). -/
def Acts (s : Device) (m : TMsg) (x : Session) (e : Entry) : Prop :=
  Accepted s 4 m x ∧ s.entryFor x m true = .ok e ∧ typeOk e m.value = true ∧ (e.type = .bool → ofBytes m.value = 1)
    ∧ s.writeFenced x.part e = false ∧ SMap.find s.transom.acting (sequenceOf e x.part) = none
    ∧ s.waitingIn (sequenceOf e x.part) = [] ∧ (e.index = 0x6010 → s.queueManages x.part = false)
    ∧ ∀ pm ∈ s.transom.queued, pm.2 ≠ m

/-- An action has completed with a status: its entry keeps it and its write is answered (R335). -/
def ActionDone (t : Device) (x : Session) (m : TMsg) (e : Entry) (status : Nat) : Prop :=
  Responds t x m 4 status 0 (ownAddress m) ∧ t.lastStatus x.part e = status ∧ SMap.find t.transom.acting (sequenceOf e x.part) = none

/-- An action of an entry completes at once with a status, and the module is as `P` says. -/
def ActionGives (i : Instr) (s : State) (m : TMsg) (x : Session) (e : Entry) (status : Nat) (P : Device → Prop) : Prop :=
  ∃ t, exec i s = .next t ∧ t.pending = s.pending ∧ ActionDone t.toDevice x m e status ∧ P t.toDevice

/-! ## Queues and management commands -/

/-- The next descriptor of a queue can start: its 512 bits are d, and its header passes (R284, R286, Table 12-4). -/
def Starts (s : Device) (part queue : Nat) (q : Queue) (d : Nat) : Prop :=
  s.queue? part queue = some q ∧ s.engineRuns part q = true
    ∧ (∃ b, s.readVa part (q.ring + 64 * (q.started % 2 ^ q.logsz)) 64 = .ok b ∧ d = ofBytes b)
    ∧ (bit d 8 = true → q.head = q.started) ∧ s.headerFits part d = true ∧ ∀ k ∈ q.running, k.n ≠ q.started

/-- A management command of an opcode and 512 bits executes for a partition: a write of OD 0x6010, or the next descriptor of a
queue with ADMIN = 1 (R279). -/
def Manages (s : Device) (opc : Nat) (via : CmdPath) (part d : Nat) : Prop :=
  fld d 0 8 = opc ∧ match via with
    | .session m => d = ofBytes m.value ∧ fld d 10 22 = 0 ∧ fld d 121 7 = 0 ∧ m.index = 0x6010 ∧ ∃ x e, Acts s m x e ∧ x.part = part
    | .queue p q => p = part ∧ s.manageFree p = true ∧ ∃ x, Starts s p q x d ∧ x.admin = true

/-- A command completes, and the module is as `P` says. -/
def Makes (i : Instr) (s : State) (P : Device → Prop) : Prop := ∃ t, exec i s = .next t ∧ t.pending = s.pending ∧ P t.toDevice

/-- A command of a group completes; beside what the fetch leaves, the module is as `P` says. -/
def Issued (i : Instr) (s : State) (y : Ctx) (P : Device → Prop) : Prop :=
  ∃ t, exec i s = .next t ∧ t.pending = s.pending ∧ Fetches s.toDevice y.s y.pane y.slot ∧ P t.toDevice

/-- The lanes of a local-store atomic, in the order given: the local store after them, and each lane with its old word and whether it
failed (R83). -/
def atomics (y : Ctx) (op : Nat) (p : Pane) : List Nat → Pane × List (Nat × Nat × Bool)
  | [] => (p, [])
  | l :: rest =>
    let n := y.aSize / 4
    let old := ofBytes (p.readLs (y.aAddr l) y.aSize)
    let new := atomicRule op (bit y.w 50) y.aSize old (y.g.vWide l y.fB n) (y.g.vWide l y.fC n)
    let r := atomics y op (match new with
      | some v => p.putLs (y.aAddr l) (bytesOf v y.aSize)
      | none => p) rest
    (r.1, (l, old, new.isNone) :: r.2)

/-- Where a virtual address of a partition is mapped: kind, owner, pool, offset and write permission. -/
def Partition.mapsTo (x : Partition) (va : Nat) : Option (Nat × Nat × Nat × Nat × Bool) :=
  (x.mapping? va).map (fun m => (m.kind, m.owner, m.pool, m.poff + (va - m.va), m.write))

end Sys2Proof.Machine
end

