-- ==== Sys2Proof/Certificates/Slice0/Obligations.lean ====
section
/-! DEFINITION. The statements for the provers. -/

open Sys2Proof Sys2Proof.Machine

/-! ## Arithmetic instructions (R75–R81) -/

/-- R75, R78, R81: an integer instruction whose word passes its checks completes. In the vector class D of every active lane
whose guard holds takes the instruction's result and every other v register keeps its value; in the scalar class D takes the
result where the guard holds in an active lane. No other register, no flag, no memory and no other group changes. -/
def Obligations.IntegerResults : Prop :=
  ∀ (i : Instr) (r : IntegerRow) (s : State) (y : Ctx),
    integerRow i = some r → intRow r.op r.iForm r.w.toNat = true →
    Issues s.toDevice r.pane r.slot r.w.toNat 0 8 r.shape.uses y →
    GroupResult i s r.pane r.slot (fun g =>
      (y.cls ≠ 5 → OnlyPaths { y.g with vregs := g.vregs } g
        ∧ ∀ l n, l < 128 → n < 256 → g.v l n =
            if y.act.getLsbD l ∧ n = y.fD ∧ n ≠ 255 then r.value y.mod (y.g.v l y.fA) (y.srcB l) (y.g.v l y.fC) else y.g.v l n)
      ∧ (y.cls = 5 → OnlyPaths { y.g with sregs := g.sregs } g
        ∧ ∀ n, g.s n = if y.act ≠ 0 ∧ n = y.fD then r.value y.mod (y.g.s y.fA) y.scalB (y.g.s y.fC) else y.g.s n))

/-- R76, R78, R81: setp writes its predicate in the lanes whose guard holds, and in the scalar class in every active lane of
the path; sel picks A or B by its predicate; p0 ignores writes. No other register and no flag changes.

R75, R78: a shuffle reads A of its source lane, the index modulo the group's width or the lane's own number exclusive-or
it; vote takes its predicate over every active lane of the path, and writes whether some, or all, hold it to the lanes whose guard
holds, or their ballot to s registers. Only D changes. -/
def Obligations.CompareAndSelect : Prop :=
  ((∀ (pane slot : Nat) (w : DWord) (s : State) (y : Ctx), intRow 0x12 true w.toNat = true →
    Issues s.toDevice pane slot w.toNat 0 8 (Shape.uses { mods := setpMods, dp := true }) y →
    GroupResult (.setp pane slot w) s pane slot (fun g => OnlyPaths { y.g with preds := g.preds } g
      ∧ (y.cls ≠ 5 → ∀ n l, l < 128 → (g.p n).getLsbD l =
          if n = y.fD ∧ n ≠ 0 ∧ y.act.getLsbD l then compares y.mod (y.g.v l y.fA) (y.srcB l) else (y.g.p n).getLsbD l)
      ∧ (y.cls = 5 → ∀ n l, l < 128 → (g.p n).getLsbD l =
          if n = y.fD ∧ n ≠ 0 ∧ y.act ≠ 0 ∧ y.p.mask.getLsbD l then compares y.mod (y.g.s y.fA) y.scalB
          else (y.g.p n).getLsbD l)))
  ∧ (∀ (pane slot : Nat) (w : DWord) (s : State) (y : Ctx), intRow 0x13 false w.toNat = true →
    Issues s.toDevice pane slot w.toNat 0 8 (Shape.uses { c := .pred }) y →
    GroupResult (.sel pane slot w) s pane slot (fun g =>
      (y.cls ≠ 5 → OnlyPaths { y.g with vregs := g.vregs } g ∧ ∀ l n, l < 128 → n < 256 → g.v l n =
        if y.act.getLsbD l ∧ n = y.fD ∧ n ≠ 255 then (if (y.g.p y.fC).getLsbD l then y.g.v l y.fA else y.srcB l)
        else y.g.v l n)
      ∧ (y.cls = 5 → OnlyPaths { y.g with sregs := g.sregs } g ∧ ∀ n, g.s n =
        if y.act ≠ 0 ∧ n = y.fD then (if (y.g.p y.fC).getLsbD y.p.low then y.g.s y.fA else y.scalB) else y.g.s n))))
  ∧ ((∀ (pane slot : Nat) (w : DWord) (s : State) (y : Ctx), intRow 0x15 true w.toNat = true →
    Issues s.toDevice pane slot w.toNat 0 8 (Shape.uses {}) y →
    GroupResult (.shflIdx pane slot w) s pane slot (fun g => OnlyPaths { y.g with vregs := g.vregs } g
      ∧ ∀ l n, l < 128 → n < 256 → g.v l n =
        if y.act.getLsbD l ∧ n = y.fD ∧ n ≠ 255 then y.g.v ((y.srcB l).toNat % y.g.width) y.fA else y.g.v l n))
  ∧ (∀ (pane slot : Nat) (w : DWord) (s : State) (y : Ctx), intRow 0x16 true w.toNat = true →
    Issues s.toDevice pane slot w.toNat 0 8 (Shape.uses {}) y →
    GroupResult (.shflXor pane slot w) s pane slot (fun g => OnlyPaths { y.g with vregs := g.vregs } g
      ∧ ∀ l n, l < 128 → n < 256 → g.v l n =
        if y.act.getLsbD l ∧ n = y.fD ∧ n ≠ 255 then y.g.v ((l ^^^ (y.srcB l).toNat) % y.g.width) y.fA else y.g.v l n))
  ∧ (∀ (pane slot : Nat) (w : DWord) (s : State) (y : Ctx), intRow 0x17 false w.toNat = true →
    Issues s.toDevice pane slot w.toNat 0 8 voteUses y →
    GroupResult (.vote pane slot w) s pane slot (fun g =>
      (y.mod = 0 → OnlyPaths { y.g with preds := g.preds } g ∧ ∀ n l, l < 128 → (g.p n).getLsbD l =
        if n = y.fD ∧ n ≠ 0 ∧ y.act.getLsbD l then decide (y.g.p y.fA &&& y.p.mask ≠ 0) else (y.g.p n).getLsbD l)
      ∧ (y.mod = 1 → OnlyPaths { y.g with preds := g.preds } g ∧ ∀ n l, l < 128 → (g.p n).getLsbD l =
        if n = y.fD ∧ n ≠ 0 ∧ y.act.getLsbD l then decide (y.g.p y.fA &&& y.p.mask = y.p.mask) else (y.g.p n).getLsbD l)
      ∧ (y.mod = 2 → OnlyPaths { y.g with sregs := g.sregs } g ∧ ∀ n, g.s n =
        if y.act ≠ 0 ∧ y.fD ≤ n ∧ n < y.fD + ballotRegs y.g.width
        then (y.g.p y.fA &&& y.p.mask).extractLsb' (32 * (n - y.fD)) 32 else y.g.s n))))

/-- R75, R79, R80: a floating-point instruction whose word passes its checks completes. D of every active lane whose guard holds
takes the result of the class, a pair in FP64, and the group's sticky flags take those that the results raise; every other
register keeps its value. -/
def Obligations.FloatResults : Prop :=
  ∀ (i : Instr) (r : FloatRow) (s : State) (y : Ctx),
    floatRow i = some r → fpRow r.classes r.op r.iForm r.w.toNat = true →
    Issues s.toDevice r.pane r.slot r.w.toNat 0 8 (fun x => (fpShape x r.b r.c r.rounds).uses x) y →
    GroupResult i s r.pane r.slot (fun g =>
      let result := fun l => fpLane y.cls (r.value (fpFmt y.cls y.mod) (rmOf (y.mod % 4))) (y.fpA l) (y.fpB l) (y.fpC l)
      OnlyPaths { y.g with vregs := g.vregs, flags := g.flags } g
      ∧ g.flags = (lanesOf y.act).foldl (fun f l => f ||| (result l).2) y.g.flags
      ∧ ∀ l n, l < 128 → n < 256 → n ≠ 255 → g.v l n =
          if y.act.getLsbD l ∧ y.fD ≤ n ∧ n < y.fD + fpCount y.cls
          then BitVec.ofNat 32 ((result l).1 / 2 ^ (32 * (n - y.fD))) else y.g.v l n)

/-- R79, R80: a floating-point compare writes its predicate in the lanes whose guard holds, and a conversion D; both raise the
flags of their results and leave every other register. -/
def Obligations.FloatCompareAndConvert : Prop :=
  (∀ (pane slot : Nat) (w : DWord) (s : State) (y : Ctx), fpRow [2, 3] 0x08 true w.toNat = true →
    Issues s.toDevice pane slot w.toNat 0 8 (fun x => (fpSetpShape x).uses x) y →
    GroupResult (.fpSetp pane slot w) s pane slot (fun g =>
      let cmp := fun l => fpCompare (if y.cls = 3 then fp64 else fp32) (y.mod % 8) (y.fpA l) (y.fpB l)
      OnlyPaths { y.g with preds := g.preds, flags := g.flags } g
      ∧ g.flags = (lanesOf y.act).foldl (fun f l => f ||| (cmp l).2) y.g.flags
      ∧ ∀ n l, l < 128 → (g.p n).getLsbD l =
          if n = y.fD ∧ n ≠ 0 ∧ y.act.getLsbD l then (cmp l).1 else (y.g.p n).getLsbD l))
  ∧ (∀ (pane slot : Nat) (w : DWord) (s : State) (y : Ctx), fpRow [2, 3, 4] 0x09 false w.toNat = true →
    Issues s.toDevice pane slot w.toNat 0 8 (fun x => (cvtShape x).uses x) y →
    GroupResult (.cvt pane slot w) s pane slot (fun g =>
      let k := cvtCounts y.cls (y.mod / 4)
      let result := fun l => cvtValue y.cls y.mod (y.g.vWide l y.fA k.2) (y.cvtB l)
      OnlyPaths { y.g with vregs := g.vregs, flags := g.flags } g
      ∧ g.flags = (lanesOf y.act).foldl (fun f l => f ||| (result l).2) y.g.flags
      ∧ ∀ l n, l < 128 → n < 256 → n ≠ 255 → g.v l n =
          if y.act.getLsbD l ∧ y.fD ≤ n ∧ n < y.fD + k.1
          then BitVec.ofNat 32 ((result l).1 / 2 ^ (32 * (n - y.fD))) else y.g.v l n))

/-! ## Memory instructions (R82, R83) -/

/-- R82: a load from local store whose lanes are aligned, populated, free of poison and of the group's own pending drains
completes: D takes the bytes, extended by SX, in each lane whose guard holds; ld.s reads once, at the lowest such lane, for
an s register. No memory and no other register changes. -/
def Obligations.LocalLoads : Prop :=
  ∀ (scalar : Bool) (pane slot : Nat) (w : DWord) (s : State) (y : Ctx),
    isWord 0x6 [if scalar then 0x02 else 0x00] w.toNat = true →
    Issues s.toDevice pane slot w.toNat 0 8 (memUses scalar false) y → y.mSpace = false → y.acquiring = false → y.act ≠ 0 →
    (∀ l, y.act.getLsbD l = true → (y.s.pane pane).lsFault y.mSize (y.lsAddr l) = none
      ∧ (y.s.pane pane).lsBad (y.lsAddr l) y.mSize = false
      ∧ (y.s.pane pane).drainPending slot (y.lsAddr l, y.mSize) = false) →
    GroupResult (if scalar then .ldS pane slot w else .ld pane slot w) s pane slot (fun g =>
      let value := fun l => extended y.mSize y.mSx (ofBytes ((y.s.pane pane).readLs (y.lsAddr l) y.mSize))
      if scalar then OnlyPaths { y.g with sregs := g.sregs } g ∧ ∀ n, g.s n =
        if y.fD ≤ n ∧ n < y.fD + regsOf y.mSize
        then BitVec.ofNat 32 (value (lowLane y.act) / 2 ^ (32 * (n - y.fD))) else y.g.s n
      else OnlyPaths { y.g with vregs := g.vregs } g ∧ ∀ l n, l < 128 → n < 256 → n ≠ 255 → g.v l n =
        if y.act.getLsbD l ∧ y.fD ≤ n ∧ n < y.fD + regsOf y.mSize
        then BitVec.ofNat 32 (value l / 2 ^ (32 * (n - y.fD))) else y.g.v l n)

/-- R82, R83, R469: a store to local store whose lanes are aligned and populated, that covers every poisoned sector it meets whole and
has nothing to wait for, completes: every byte of every lane whose guard holds is stored, the highest lane last where lanes meet, the
sectors it covers lose their poison, and every other byte of the pane's local store, all memory and all other panes are as before. -/
def Obligations.LocalStores : Prop :=
  ∀ (pane slot : Nat) (w : DWord) (s : State) (y : Ctx), isWord 0x6 [0x01] w.toNat = true →
    Issues s.toDevice pane slot w.toNat 0 8 (memUses false true) y → y.mSpace = false → y.acquiring = false →
    y.checkHeld = false → y.releasing = false → (y.mOrd ≠ 1 ∨ y.fenceMet 1 = true) → y.act ≠ 0 →
    (∀ l, y.act.getLsbD l = true → (y.s.pane pane).lsFault y.mSize (y.lsAddr l) = none
      ∧ (y.s.pane pane).readPending slot (y.lsAddr l, y.mSize) = false) →
    (y.s.pane pane).partSectors ((lanesOf y.act).map y.lsAddr) y.mSize = [] →
    Issued (.st pane slot w) s y (fun t => t.mem = y.s.mem ∧ t.fabric = y.s.fabric ∧ t.od = y.s.od
      ∧ (∀ a, a ≠ pane → t.pane a = y.s.pane a)
      ∧ (∃ g, t.group? pane slot = some g ∧ OnlyPaths y.g g)
      ∧ (∀ l, y.act.getLsbD l = true → (t.pane pane).lsBad (y.lsAddr l) y.mSize = false)
      ∧ (∀ a, (∀ l, y.act.getLsbD l = true → a < y.lsAddr l ∨ y.lsAddr l + y.mSize ≤ a) →
          SMap.get (t.pane pane).ls a 0 = SMap.get (s.pane pane).ls a 0)
      ∧ ∀ l i, y.act.getLsbD l = true → i < y.mSize →
          (∀ k, y.act.getLsbD k = true → l < k → y.lsAddr l + i < y.lsAddr k ∨ y.lsAddr k + y.mSize ≤ y.lsAddr l + i) →
          SMap.get (t.pane pane).ls (y.lsAddr l + i) 0 = (y.datum l).getD i 0)

/-- R55, R184, R281: a load or store of memory that the address checks pass and nothing holds leaves requests for its sectors, and no
byte of memory or local store changes before they are served. A load whose sectors the pane cache does not all hold stays
outstanding in its group, and names the register that waits for it. A store to doorbell pages writes their words at once, lane by
lane. -/
def Obligations.MemoryRequests : Prop :=
  (∀ (scalar : Bool) (pane slot : Nat) (w : DWord) (s : State) (y : Ctx),
    isWord 0x6 [if scalar then 0x02 else 0x00] w.toNat = true →
    Issues s.toDevice pane slot w.toNat 0 8 (memUses scalar false) y → y.mSpace = true → y.acquiring = false → y.act ≠ 0 →
    (let lanes := if scalar then [lowLane y.act] else lanesOf y.act
     let missed := (y.targets lanes .read).filter (y.s.pane pane).misses
     (∀ l ∈ lanes, y.s.memFault y.part y.mSize (y.vaddr l) .read = none) → missed ≠ [] → y.outstanding < 16 →
     missed.any (y.s.mirrorBusy pane) = false →
     Issued (if scalar then .ldS pane slot w else .ld pane slot w) s y (fun t => ∃ g k reqs,
       t.mem.bytes = y.s.mem.bytes ∧ t.mem.reqs = y.s.mem.reqs ++ reqs ∧ reqs ≠ [] ∧ (∀ a, (t.pane a).ls = (y.s.pane a).ls)
       ∧ (∀ r ∈ reqs, r.load = some k.id ∧ r.pane = pane ∧ r.slot = slot ∧ r.off % 32 = 0)
       ∧ t.group? pane slot = some g ∧ OnlyPaths { y.g with loads := y.g.loads ++ [k] } g
       ∧ k.dst = y.fD ∧ k.size = y.mSize ∧ k.scalar = scalar ∧ k.acquire = (y.mOrd == 1) ∧ k.waiting = reqs.map (·.id))))
  ∧ ∀ (pane slot : Nat) (w : DWord) (s : State) (y : Ctx), isWord 0x6 [0x01] w.toNat = true →
    Issues s.toDevice pane slot w.toNat 0 8 (memUses false true) y → y.mSpace = true → y.acquiring = false →
    y.checkHeld = false → y.releasing = false → (y.mOrd ≠ 1 ∨ y.fenceMet 3 = true) → y.act ≠ 0 →
    (∀ l ∈ lanesOf y.act, y.s.memFault y.part y.mSize (y.vaddr l) .write = none) →
    ((∀ q ∈ y.targets (lanesOf y.act) .write, q.t.map.kind = 0) →
      Issued (.st pane slot w) s y (fun t => ∃ g old reqs, t.mem.bytes = y.s.mem.bytes ∧ (∀ a, (t.pane a).ls = (y.s.pane a).ls)
        ∧ t.mem.reqs = old ++ reqs ∧ old.map (·.id) = y.s.mem.reqs.map (·.id) ∧ reqs ≠ []
        ∧ (∀ r ∈ reqs, r.load = none ∧ r.pane = pane ∧ r.off % 32 = 0)
        ∧ t.group? pane slot = some g ∧ OnlyPaths { y.g with stores := y.g.stores ++ reqs.map (·.id) } g))
    ∧ ((∀ q ∈ y.targets (lanesOf y.act) .write, q.t.map.kind = 1) →
      Gives (.st pane slot w) s (y.finish ((y.targets (lanesOf y.act) .write).foldl (fun d q =>
        d.doorbellWrite y.part q.t.map.queue q.t.off y.mSize (ofBytes (y.datum q.lane))) y.s) y.g 8))

/-- R61, R83, R470: a local-store atomic whose lanes are aligned, populated, free of poison and with nothing to wait for serves them in
ascending order: each lane's D takes the old value of its word, and the word the new one, or stays where cas or tset fails. Failing
lanes stand past the instruction on a path of their own. Every other byte of local store is as before. -/
def Obligations.LocalAtomics : Prop :=
  ∀ (i : Instr) (op pane slot : Nat) (w : DWord) (s : State) (y : Ctx),
    atomicRow i = some (op, pane, slot, w) → isWord 0x6 [op] w.toNat = true →
    Issues s.toDevice pane slot w.toNat 0 8 atomUses y → y.act ≠ 0 → y.acquiring = false → y.releasing = false →
    (y.aOrd < 2 ∨ y.fenceMet 1 = true) →
    (∀ l, y.act.getLsbD l = true → (y.s.pane pane).lsFault y.aSize (y.aAddr l) = none
      ∧ (y.s.pane pane).readPending slot (y.aAddr l, y.aSize) = false
      ∧ (y.s.pane pane).drainPending slot (y.aAddr l, y.aSize) = false ∧ (y.s.pane pane).lsBad (y.aAddr l) y.aSize = false) →
    (let r := atomics y op (y.s.pane pane) (lanesOf y.act)
     let failed := maskOf ((r.2.filter (fun q => q.2.2)).map (fun q => q.1))
     Issued i s y (fun t => ∃ g, t.mem = y.s.mem ∧ t.fabric = y.s.fabric ∧ t.od = y.s.od
       ∧ (∀ a, a ≠ pane → t.pane a = y.s.pane a)
       ∧ t.group? pane slot = some g ∧ OnlyPaths { y.g with vregs := g.vregs } g
       ∧ (∀ a, SMap.get (t.pane pane).ls a 0 = SMap.get r.1.ls a 0)
       ∧ (∀ q ∈ r.2, ∀ n, n < 256 → n ≠ 255 → y.fD ≤ n → n < y.fD + y.aSize / 4 →
           g.v q.1 n = BitVec.ofNat 32 (q.2.1 / 2 ^ (32 * (n - y.fD))))
       ∧ (∀ l n, l < 128 → n < 256 → ¬(y.act.getLsbD l = true ∧ y.fD ≤ n ∧ n < y.fD + y.aSize / 4) → g.v l n = y.g.v l n)
       ∧ (∀ l, y.p.mask.getLsbD l = true → g.stands l (y.p.pc + 8))
       ∧ (failed ≠ 0 → (∀ sp ∈ y.g.splits, sp.rcv ≠ some (y.p.pc + 8)) → ∃ q ∈ g.paths, q.mask = failed ∧ q.pc = y.p.pc + 8)))

/-! ## Control, fences and counters (R84–R87) -/

/-- R84, R85: the threads of a branch go on at its target where the guard holds and at the next instruction elsewhere; call also
leaves the offset of the next instruction in D. Only where the group's threads stand changes, and D of a call.

R64, R85: exit takes the threads whose guard holds from their path; the others go on past it. A group whose threads have all
exited ends, and every barrier of the cohort is looked at. -/
def Obligations.ControlFlow : Prop :=
  ((∀ (pane slot : Nat) (w : DWord) (s : State) (y : Ctx) (a : Nat), isWord 0x0 [0x01] w.toNat = true →
    Issues s.toDevice pane slot w.toNat 0 8 (fun _ => { ok := true }) y → (y.act ≠ 0 → y.relative (sfld y.w 16 24) = some a) →
    (y.rcvWords ≠ 0 → (y.relative y.rcvWords).isSome = true) →
    (y.rcvWords = 0 → y.act = 0 ∨ y.p.mask &&& ~~~y.act = 0) →
    GroupResult (.bra pane slot w) s pane slot (fun g => OnlyPaths y.g g
      ∧ ∀ l, y.p.mask.getLsbD l = true → g.stands l (if y.act.getLsbD l then a else y.p.pc + 8)))
  ∧ (∀ (pane slot : Nat) (w : DWord) (s : State) (y : Ctx) (a : Nat), isWord 0x0 [0x02] w.toNat = true →
    Issues s.toDevice pane slot w.toNat 0 8 (fun x => { ok := fld x.w 48 16 == 0, wv := [(x.fD, 1)] }) y →
    (y.act ≠ 0 → y.relative (sfld y.w 24 24) = some a) →
    GroupResult (.call pane slot w) s pane slot (fun g => OnlyPaths { y.g with vregs := g.vregs } g
      ∧ (∀ l, y.p.mask.getLsbD l = true → g.stands l (if y.act.getLsbD l then a else y.p.pc + 8))
      ∧ ∀ l n, l < 128 → n < 256 → g.v l n =
          if y.act.getLsbD l ∧ n = y.fD ∧ n ≠ 255 then BitVec.ofNat 32 (y.p.pc + 8 - y.l.entry) else y.g.v l n))
  ∧ (∀ (pane slot : Nat) (w : DWord) (s : State) (y : Ctx), isWord 0x0 [0x03] w.toNat = true →
    Issues s.toDevice pane slot w.toNat 0 8 jmpUses y → (y.rcvWords ≠ 0 → (y.relative y.rcvWords).isSome = true) →
    (y.rcvWords = 0 → y.act = 0 ∨ (y.p.mask &&& ~~~y.act = 0 ∧ ∀ l k, y.act.getLsbD l = true → y.act.getLsbD k = true →
      y.jmpTarget l = y.jmpTarget k)) →
    (∀ l, l < 128 → y.act.getLsbD l = true → (y.jmpTarget l - y.l.entry) % 8 = 0 ∧ y.inCode (y.jmpTarget l) 8 = true) →
    GroupResult (.jmp pane slot w) s pane slot (fun g => OnlyPaths y.g g
      ∧ ∀ l, l < 128 → y.p.mask.getLsbD l = true →
          g.stands l (if y.act.getLsbD l then y.jmpTarget l else y.p.pc + 8))))
  ∧ (∀ (pane slot : Nat) (w : DWord) (s : State) (y : Ctx), isWord 0x0 [0x04] w.toNat = true →
    Issues s.toDevice pane slot w.toNat 0 8 (fun x => { ok := fld x.w 16 48 == 0 }) y → y.act ≠ 0 →
    Gives (.exit pane slot w) s
      (((y.s.setGroup pane slot (y.g.exitLanes y.p y.act 8)).endGroup pane slot).completeBarriers y.g.cohort)
    ∧ ((∀ q ∈ y.g.paths, q ≠ y.p → q.mask &&& y.p.mask = 0) →
        ∀ q ∈ (y.g.exitLanes y.p y.act 8).paths, q.mask &&& y.act = 0)
    ∧ ∀ l, y.p.mask.getLsbD l = true → y.act.getLsbD l = false → (y.g.exitLanes y.p y.act 8).stands l (y.p.pc + 8))

/-- R64, R65: bar.pane, where its fence is met, blocks the threads whose guard holds at their barrier and passes the others;
then every barrier of the cohort that all live threads have reached is released.

R86, R189, R190: a full or acquire fence whose ordering is met completes, and at .dev or .sys scope empties the pane cache. A release
fence completes at once, and what its earlier accesses lack holds the group's later writes. No fence changes a register or a byte
of memory. -/
def Obligations.BarriersAndFences : Prop :=
  (∀ (pane slot : Nat) (w : DWord) (s : State) (y : Ctx), isWord 0x0 [0x05] w.toNat = true →
    Issues s.toDevice pane slot w.toNat 0 8 (fun x => { ok := fld x.w 19 45 == 0 }) y → y.act ≠ 0 → y.fenceMet 1 = true →
    (let n := fld y.w 16 3
     let t := y.s.setGroup pane slot (y.g.block y.p y.act (.barrier n) 8)
     let u := if y.s.arrivedAt y.g.cohort n = 0
       then t.modCohort y.g.cohort (fun c => { c with barStart := SMap.put c.barStart n y.s.now }) else t
     Gives (.barPane pane slot w) s (u.completeBarriers y.g.cohort)
     ∧ (∃ q ∈ (y.g.block y.p y.act (.barrier n) 8).paths, q.mask = y.act ∧ q.pc = y.p.pc ∧ q.st = .barrier n)
     ∧ ∀ l, y.p.mask.getLsbD l = true → y.act.getLsbD l = false → (y.g.block y.p y.act (.barrier n) 8).stands l (y.p.pc + 8)))
  ∧ (∀ (acquire : Bool) (pane slot : Nat) (w : DWord) (s : State) (y : Ctx), isWord 0x7 [0x00] w.toNat = true →
    fld w.toNat 18 2 = (if acquire then 2 else 0) → Issues s.toDevice pane slot w.toNat 0 8 fenceUses y → y.act ≠ 0 →
    (if acquire then y.readsMet else y.fenceMet (fld y.w 16 2)) = true →
    Issued (if acquire then .fenceAcq pane slot w else .fence pane slot w) s y (fun t => ∃ g, t.mem = y.s.mem
      ∧ (t.pane pane).ls = (y.s.pane pane).ls ∧ (t.pane pane).cache = (if 2 ≤ fld y.w 16 2 then [] else (y.s.pane pane).cache)
      ∧ t.group? pane slot = some g ∧ OnlyPaths y.g g))
  ∧ (∀ (pane slot : Nat) (w : DWord) (s : State) (y : Ctx), isWord 0x7 [0x00] w.toNat = true → fld w.toNat 18 2 = 1 →
    Issues s.toDevice pane slot w.toNat 0 8 fenceUses y → y.act ≠ 0 →
    Issued (.fenceRel pane slot w) s y (fun t => ∃ g, t.mem.bytes = y.s.mem.bytes ∧ t.mem.reqs = y.s.mem.reqs
      ∧ (t.pane pane).ls = (y.s.pane pane).ls ∧ (t.pane pane).cache = (y.s.pane pane).cache
      ∧ t.group? pane slot = some g ∧ OnlyPaths { y.g with releases := g.releases } g
      ∧ (let left := y.g.releases.filter (fun r => !y.metBefore r)
         g.releases = if y.fenceMet (fld y.w 16 2) = true then left else left ++ [y.fenceHere (fld y.w 16 2)])))

/-- R37, R84: nop only passes; rdtime reads the pane's view of the lintel into an s pair; rdsr reads its special value into D of
every active lane of the path, or into an s register, and clears the flags when asked. -/
def Obligations.SpecialReads : Prop :=
  (∀ (pane slot : Nat) (w : DWord) (s : State) (y : Ctx), isWord 0x0 [0x00] w.toNat = true →
    Issues s.toDevice pane slot w.toNat 0 8 (fun x => { ok := fld x.w 16 48 == 0 }) y →
    GroupResult (.nop pane slot w) s pane slot (fun g => OnlyPaths y.g g))
  ∧ (∀ (pane slot : Nat) (w : DWord) (s : State) (y : Ctx), isWord 0x0 [0x06] w.toNat = true →
    Issues s.toDevice pane slot w.toNat 0 8 (fun x => { ok := fld x.w 22 42 == 0, ws := [(fld x.w 16 6, 2)] }) y → y.act ≠ 0 →
    GroupResult (.rdtime pane slot w) s pane slot (fun g => OnlyPaths { y.g with sregs := g.sregs } g
      ∧ g.s (fld y.w 16 6) = BitVec.ofNat 32 (s.view pane) ∧ g.s (fld y.w 16 6 + 1) = BitVec.ofNat 32 (s.view pane / 2 ^ 32)
      ∧ ∀ n, n ≠ fld y.w 16 6 → n ≠ fld y.w 16 6 + 1 → g.s n = y.g.s n))
  ∧ (∀ (pane slot : Nat) (w : DWord) (s : State) (y : Ctx), isWord 0x0 [0x07] w.toNat = true →
    Issues s.toDevice pane slot w.toNat 0 8 rdsrUses y → y.act ≠ 0 →
    GroupResult (.rdsr pane slot w) s pane slot (fun g =>
      g.preds = y.g.preds
      ∧ g.flags = (if fld y.w 32 8 = 5 ∧ bit y.w 25 then 0 else y.g.flags)
      ∧ (∀ n, g.s n = if bit y.w 24 ∧ n = y.fD then y.special (fld y.w 32 8) 0 else y.g.s n)
      ∧ ∀ l n, l < 128 → n < 256 → g.v l n =
          if !bit y.w 24 ∧ y.p.mask.getLsbD l ∧ n = y.fD ∧ n ≠ 255 then y.special (fld y.w 32 8) l else y.g.v l n))

/-- R67, R93: trap stops its cohort: the cohort takes the instruction's STATUS and a fault record of code 0x2C with the lanes that
took it and their address; every register stays. -/
def Obligations.TrapStopsCohort : Prop :=
  ∀ (pane slot : Nat) (w : DWord) (s : State) (y : Ctx), isWord 0x0 [0x08] w.toNat = true →
    Issues s.toDevice pane slot w.toNat 0 8
      (fun x => { ok := decide (1 ≤ fld x.w 16 8 ∧ fld x.w 16 8 ≤ 0x0B) && fld x.w 24 40 == 0 }) y → y.act ≠ 0 →
    Issued (.trap pane slot w) s y (fun t => ∃ c, t.mem = y.s.mem ∧ t.parts = y.s.parts
      ∧ t.cohort? y.g.cohort = some c ∧ c.fault = some (fld y.w 16 8)
      ∧ ((∀ r ∈ y.c.records, r.gic ≠ y.g.gic) → ∃ r, c.records = y.c.records ++ [r]
        ∧ r.code = 0x2C ∧ r.lanes = y.act ∧ r.pc = y.p.pc ∧ r.slot = slot ∧ r.gic = y.g.gic)
      ∧ (y.c.pane = pane → t.group? pane slot = some { y.g with stopped := true }))

/-- R87, R217: ctr.add adds SB to COUNT, saturating, and leaves STATUS and NBAD; ctr.set writes COUNT = SB and clears the rest; no
other byte of local store changes.

R87, R196, R197: test.ctr tells in PD whether COUNT has reached SB, and a true test empties the pane cache; wait.ctr blocks its
path on the counter until its deadline. -/
def Obligations.Counters : Prop :=
  (∀ (adds : Bool) (pane slot : Nat) (w : DWord) (s : State) (y : Ctx),
    isWord 0x8 [if adds then 0x02 else 0x03] w.toNat = true → Issues s.toDevice pane slot w.toNat 0 8 ctrUses y → y.act ≠ 0 →
    (let a := y.counter.addr
     let p := y.s.pane pane
     let old := ofBytes (p.readLs a 8)
     let new := if adds then min (old % 2 ^ 32 + y.cValue) (2 ^ 32 - 1) + old / 2 ^ 32 * 2 ^ 32 else y.cValue
     p.lsFault 8 a = none → p.lsBad a 8 = false → p.drainPending slot (a, 8) = false → p.readPending slot (a, 8) = false →
     y.acquiring = false → y.checkHeld = false → y.releasing = false →
     Issued (if adds then .ctrAdd pane slot w else .ctrSet pane slot w) s y (fun t => ∃ g,
       t.mem = y.s.mem ∧ t.group? pane slot = some g ∧ OnlyPaths y.g g ∧ (∀ b, b ≠ pane → t.pane b = y.s.pane b)
       ∧ ofBytes ((t.pane pane).readLs a 8) = new
       ∧ ∀ b, b < a ∨ a + 8 ≤ b → SMap.get (t.pane pane).ls b 0 = SMap.get (s.pane pane).ls b 0)))
  ∧ ((∀ (pane slot : Nat) (w : DWord) (s : State) (y : Ctx) (word : Nat), isWord 0x8 [0x01] w.toNat = true →
    Issues s.toDevice pane slot w.toNat 0 8 ctrUses y → y.act ≠ 0 → y.counterFault = none → y.acquiring = false →
    y.ownStoreOn = false → (y.cSpace = true ∨ (y.s.pane pane).drainPending slot (y.counter.addr, 8) = false) →
    (y.s.counterWord y.part y.counter (sashOf pane)).1 = some word →
    Issued (.testCtr pane slot w) s y (fun t => ∃ g, t.mem.bytes = y.s.mem.bytes ∧ (t.pane pane).ls = (y.s.pane pane).ls
      ∧ (t.pane pane).cache = (if y.cValue ≤ word % 2 ^ 32 then [] else (y.s.pane pane).cache)
      ∧ t.group? pane slot = some g ∧ OnlyPaths { y.g with preds := g.preds } g
      ∧ ∀ n l, l < 128 → (g.p n).getLsbD l =
          if n = fld y.w 48 3 ∧ n ≠ 0 ∧ y.p.mask.getLsbD l then decide (y.cValue ≤ word % 2 ^ 32) else (y.g.p n).getLsbD l))
  ∧ (∀ (pane slot : Nat) (w : DWord) (s : State) (y : Ctx) (word : Nat), isWord 0x8 [0x00] w.toNat = true →
    Issues s.toDevice pane slot w.toNat 0 8 ctrUses y → y.act ≠ 0 → y.counterFault = none → y.acquiring = false →
    y.ownStoreOn = false → (y.cSpace = true ∨ (y.s.pane pane).drainPending slot (y.counter.addr, 8) = false) →
    (y.s.counterWord y.part y.counter (sashOf pane)).1 = some word →
    Issued (.waitCtr pane slot w) s y (fun t => ∃ g q, t.mem.bytes = y.s.mem.bytes ∧ (t.pane pane).ls = (y.s.pane pane).ls
      ∧ t.group? pane slot = some g ∧ OnlyPaths y.g g
      ∧ q ∈ g.paths ∧ q.mask = y.p.mask ∧ q.pc = y.p.pc
      ∧ q.st = .counter y.cSpace y.counter.addr y.cValue (fld y.w 36 6)
          (s.now + 1000 * (if fld y.w 32 4 = 0 then s.odGet y.part 0x6111 0 else 2 ^ (fld y.w 32 4 - 1))))))

/-! ## Copies (R68–R71) -/

/-- R68, R69, R71: copy whose descriptor passes its checks enters the unit with a number of its own while the unit holds fewer
than 64; nothing moves yet.

R70: a copy that ends leaves the unit, its pane's waiting copies as they are; between places of local store that share no
byte and hold no poison, every byte of every row has then moved, and every other byte but the counter's is as before. -/
def Obligations.Copies : Prop :=
  (∀ (pane slot : Nat) (w : DWord) (s : State) (y : Ctx) (d : Nat), isWord 0x9 [0x00] w.toNat = true →
    Issues s.toDevice pane slot w.toNat 0 8 (fun x => { ok := fld x.w 22 42 == 0, s := [(fld x.w 16 6, 1)] }) y → y.act ≠ 0 →
    y.acquiring = false → y.checkHeld = false → y.releasing = false →
    (y.s.pane pane).drainPending slot ((y.g.s (fld y.w 16 6)).toNat, 64) = false → y.readDescriptor = .ok d →
    (s.pane pane).copies.length < 64 →
    Issued (.copy pane slot w) s y (fun t => ∃ g c, t.mem = y.s.mem ∧ t.cohorts = y.s.cohorts
      ∧ (∀ a, a ≠ pane → t.pane a = y.s.pane a) ∧ (t.pane pane).ls = (s.pane pane).ls
      ∧ (t.pane pane).copies = (s.pane pane).copies ++ [c] ∧ c.desc = d ∧ c.cohort = y.g.cohort ∧ c.slot = slot
      ∧ d = ofBytes ((s.pane pane).readLs (y.g.s (fld y.w 16 6)).toNat 64)
      ∧ (∀ k ∈ (s.pane pane).copies, k.id ≠ c.id) ∧ t.group? pane slot = some g ∧ OnlyPaths y.g g))
  ∧ (∀ (pane copy parts : Nat) (s : State) (c : Copy) (k : Cohort), (s.pane pane).copies.find? (fun c => c.id == copy) = some c →
    s.cohort? c.cohort = some k → s.storesBefore pane c = false → s.copyHeld k.part c parts = false →
    c.moved = 0 → c.status = stOk → (parts = 0 ∨ (copyParts c.desc).length ≤ parts) →
    ∃ t, exec (.copyComplete pane copy parts) s = .next t ∧ t.pending = s.pending
      ∧ (t.pane pane).copies = (s.pane pane).copies.filter (fun k => k.id != c.id)
      ∧ (let src := fun r i => dSrc c.desc + r * dSStride c.desc + i
         let dst := fun r i => dDst c.desc + r * dDStride c.desc + i
         let within := fun r i => r < dRows c.desc ∧ i < dRowBytes c.desc
         let apart := fun a => dCtrLs c.desc = true → a < dCtr c.desc ∨ dCtr c.desc + 8 ≤ a
         dSrcLs c.desc = true → dDstLs c.desc = true →
         (∀ r i, within r i → (s.pane pane).lsPoisoned (src r i / 32) = false ∧ (s.pane pane).lsPoisoned (dst r i / 32) = false) →
         (∀ r i q j, within r i → within q j → dst r i ≠ src q j ∧ (dst r i = dst q j → r = q ∧ i = j)) →
         (∀ r i, within r i → apart (dst r i) → SMap.get (t.pane pane).ls (dst r i) 0 = SMap.get (s.pane pane).ls (src r i) 0)
         ∧ ∀ a, (∀ r i, within r i → a ≠ dst r i) → apart a → SMap.get (t.pane pane).ls a 0 = SMap.get (s.pane pane).ls a 0))

/-! ## The matrix unit (R89–R116, R122–R137) -/

/-- R90, R104: a matrix instruction that passes its checks enters the queue of 32 with the values of its s registers; an
acc.drain takes its ordinal. No tile, no byte of local store and no register changes. -/
def Obligations.MatrixEnters : Prop :=
  ∀ (i : Instr) (op pane slot : Nat) (w0 w1 : DWord) (s : State) (y : Ctx), matrixRow i = some (op, pane, slot, w0, w1) →
    isWord 0xA [op] w0.toNat = true → Issues s.toDevice pane slot w0.toNat w1.toNat 16 matrixUses y → y.act ≠ 0 →
    y.acquiring = false → y.recordPending = false → y.matrixFault = none → (s.pane pane).mq.length < 32 →
    Issued i s y (fun t => ∃ g e, t.mem = y.s.mem ∧ t.cohorts = y.s.cohorts
      ∧ (∀ a, a ≠ pane → t.pane a = y.s.pane a) ∧ (t.pane pane).mq = (s.pane pane).mq ++ [e]
      ∧ e.mx = y.mx ∧ e.slot = slot ∧ e.cohort = y.g.cohort ∧ e.ordinal = y.g.drains % 2 ^ 32
      ∧ (t.pane pane).ls = (s.pane pane).ls ∧ (t.pane pane).acc = (s.pane pane).acc
      ∧ (t.pane pane).accGroups = (s.pane pane).accGroups
      ∧ t.group? pane slot = some g ∧ OnlyPaths { y.g with drains := y.g.drains + if op = 3 then 1 else 0 } g)

/-- R101, R107, R123: an INT8 mma at the head of the queue adds to each element of its group, zero in one that it opens, the
exact sum of the products of A's row and B's column, modulo 2^32. No byte of another tile, of local store or of memory
changes. -/
def Obligations.IntegerProducts : Prop :=
  ∀ (pane n : Nat) (s : State) (e : MqEntry) (rest : List MqEntry), s.paneRuns pane = true → s.queueHeld pane = false →
    (s.pane pane).mq = e :: rest → e.mx.op = 0 → e.mx.am = 2 → e.mx.fmt = 0xB → e.mx.m ≠ 0 → e.mx.n ≠ 0 → e.mx.k ≠ 0 →
    (let x := e.mx
     let p := s.pane pane
     let a := fun i k => sfld (SMap.get p.ls (x.sa + if x.ta then k * x.ldA + i else i * x.ldA + k) 0).toNat 0 8
     let b := fun k j => sfld (SMap.get p.ls (x.sb + if x.tb then j * x.ldB + k else k * x.ldB + j) 0).toNat 0 8
     ∃ t, exec (.matrixQueueHead pane [] [] n) s = .next t ∧ t.pending = s.pending ∧ t.mem = s.mem
       ∧ (∀ q, q ≠ pane → t.pane q = s.pane q) ∧ (t.pane pane).mq = rest ∧ (t.pane pane).ls = p.ls
       ∧ (∀ i j, i < x.m → j < x.n → (t.pane pane).accBytes (x.accAt i j) 4 =
           ofInt 32 ((if x.opn then 0 else (p.accBytes (x.accAt i j) 4 : Int))
             + ((List.range x.k).map (fun k => a i k * b k j)).foldl (· + ·) 0))
       ∧ ∀ c, c / 4096 ∉ x.tileList → SMap.get (t.pane pane).acc c 0 = SMap.get p.acc c 0)

/-- R107, R108: acc.ld at the head of the queue gives its tiles the elements that stand in local store, and opens its group with
the dimensions it names and the SCALE and KDONE of the group record.

R107, R108, R112: acc.st leaves its group open and its tiles as they are, and their elements stand in local store; acc.drain
closes its group, and of an INT32 group drained with no function the elements stand in local store as they are. With no
poison about, every other byte of local store but a group record's is as before. Log entry 38: a command may write some of the
sectors; the instruction then stays at the head. -/
def Obligations.TileTransfers : Prop :=
  (∀ (pane n : Nat) (s : State) (e : MqEntry) (rest : List MqEntry), s.paneRuns pane = true → s.queueHeld pane = false →
    (s.pane pane).mq = e :: rest → e.mx.op = 1 →
    (let x := e.mx
     let p := s.pane pane
     ∃ t g, exec (.matrixQueueHead pane [] [] n) s = .next t ∧ t.pending = s.pending ∧ t.mem = s.mem
       ∧ (∀ q, q ≠ pane → t.pane q = s.pane q) ∧ (t.pane pane).mq = rest ∧ (t.pane pane).ls = p.ls
       ∧ (∀ la ∈ x.nativeMap, (t.pane pane).accBytes la.2 x.e = ofBytes (p.readLs la.1 x.e))
       ∧ SMap.find (t.pane pane).accGroups x.grp = some g ∧ g.acc = x.acc ∧ g.m = x.m ∧ g.n = x.n ∧ g.am = x.am
       ∧ g.scale = sfld (ofBytes (p.readLs x.record 32)) 8 8 ∧ g.kdone = fld (ofBytes (p.readLs x.record 32)) 64 32
       ∧ ∀ k, k ≠ x.grp → SMap.find (t.pane pane).accGroups k = SMap.find p.accGroups k))
  ∧ (∀ (pane : Nat) (s : State) (e : MqEntry) (rest : List MqEntry), s.paneRuns pane = true → s.queueHeld pane = false →
    (s.pane pane).mq = e :: rest → e.moved = 0 →
    (∀ k, (s.pane pane).lsPoisoned k = false) → (∀ a n, (s.pane pane).accBad a n = false) →
    (let x := e.mx
     let p := s.pane pane
     (x.op = 2 → x.ldA = 0 ∨ 128 * x.tilesN ≤ x.ldA →
       ∃ t, exec (.matrixQueueHead pane [] [] 0) s = .next t ∧ t.pending = s.pending ∧ t.mem = s.mem
         ∧ (∀ q, q ≠ pane → t.pane q = s.pane q) ∧ (t.pane pane).mq = rest
         ∧ (t.pane pane).acc = p.acc ∧ (t.pane pane).accGroups = p.accGroups
         ∧ (∀ la ∈ x.nativeMap, ofBytes ((t.pane pane).readLs la.1 x.e) = p.accBytes la.2 x.e)
         ∧ ∀ c, (∀ la ∈ x.nativeMap, c < la.1 ∨ la.1 + x.e ≤ c) → (c < x.record ∨ x.record + 32 ≤ c) →
             SMap.get (t.pane pane).ls c 0 = SMap.get p.ls c 0)
     ∧ (x.op = 3 → x.am = 2 → x.fmt = 0xB → x.fuse = 0 → 4 * x.n ≤ x.ldA →
       ∃ t, exec (.matrixQueueHead pane [] [] 0) s = .next t ∧ t.pending = s.pending ∧ t.mem = s.mem
         ∧ (∀ q, q ≠ pane → t.pane q = s.pane q) ∧ (t.pane pane).mq = rest
         ∧ (t.pane pane).acc = p.acc ∧ SMap.find (t.pane pane).accGroups x.grp = none
         ∧ (∀ k, k ≠ x.grp → SMap.find (t.pane pane).accGroups k = SMap.find p.accGroups k)
         ∧ (∀ i j, i < x.m → j < x.n →
             ofBytes ((t.pane pane).readLs (x.sa + i * x.ldA + 4 * j) 4) = p.accBytes (x.accAt i j) 4)
         ∧ ∀ c, (∀ i j, i < x.m → j < x.n → c < x.sa + i * x.ldA + 4 * j ∨ x.sa + i * x.ldA + 4 * j + 4 ≤ c) →
             SMap.get (t.pane pane).ls c 0 = SMap.get p.ls c 0)))
  ∧ (∀ (pane n : Nat) (s : State) (e : MqEntry) (rest : List MqEntry), s.paneRuns pane = true → s.queueHeld pane = false →
    (s.pane pane).mq = e :: rest → 2 ≤ e.mx.op →
    (let out := if e.mx.op = 2 then (s.pane pane).storeOut e.mx else (s.pane pane).drainOut e e.mx
     0 < n → e.moved + n < (outSectors out).length →
     Makes (.matrixQueueHead pane [] [] n) s (fun t => t.mem = s.mem ∧ (∀ q, q ≠ pane → t.pane q = s.pane q)
       ∧ (t.pane pane).mq = { e with moved := e.moved + n } :: rest ∧ (t.pane pane).acc = (s.pane pane).acc
       ∧ (t.pane pane).accGroups = (s.pane pane).accGroups)))

/-! ## Remote operations (R91, R92, R207–R231) -/

/-- R91, R92, R119, R207: a remote instruction that passes its checks, that nothing holds and whose chips can be reached leaves one
operation for each lane whose guard holds, or one for its block, under transaction tags of their own. Where its pane's unit has
nothing more to send, the operations leave at once but for one that verdicts hold; behind an operation that verdicts hold they wait
their turn. A lane-form get or atomic stays outstanding in its group; no register, no byte of memory and no byte of local store
changes, and no other operation. -/
def Obligations.RemoteOperationsLeave : Prop :=
  ∀ (i : Instr) (op pane slot : Nat) (w0 w1 : DWord) (s : State) (y : Ctx) (idle : Bool),
    remoteRow i = some (op, pane, slot, w0, w1) →
    isWord 0xB [op] w0.toNat = true → Issues s.toDevice pane slot w0.toNat w1.toNat 16 remoteUses y → y.act ≠ 0 →
    y.remoteBad = 0 → y.remoteHeld = false →
    (if idle then ∀ kv ∈ s.fabric.ops, kv.2.pane = pane → kv.2.stats = false → kv.2.sent = true ∧ kv.2.later = []
     else (∃ o, (s.unsent pane).head? = some o ∧ o.held ≠ []) ∧ ∀ o ∈ s.unsent pane, o.order < s.fabric.nextOp) →
    (let lanes := if y.rBlk then [0] else lanesOf y.act
     let reads := !y.rBlk && (op == 1 || isAmo op)
     let leave := idle && y.heldBy.isEmpty
     (∀ l ∈ lanes, s.routed (faChip (y.faddr l)) = true) → s.fabric.ops.length + 128 ≤ 2 ^ 20 →
     Issued i s y (fun t => ∃ g tids ls, t.mem.bytes = y.s.mem.bytes
       ∧ (∀ a, (t.pane a).ls = (y.s.pane a).ls) ∧ tids.length = lanes.length ∧ tids.Nodup
       ∧ (∀ d ∈ tids, s.op? d = none) ∧ (∀ d, d ∉ tids → t.op? d = s.op? d)
       ∧ (∀ lt ∈ lanes.zip tids, ∃ o, t.op? lt.2 = some o ∧ o.kind = op ∧ o.faddr = y.faddr lt.1 ∧ o.lane = lt.1
           ∧ o.block = y.rBlk ∧ o.pane = pane ∧ o.slot = slot ∧ o.cohort = y.g.cohort ∧ o.held = y.heldBy ∧ o.sent = leave
           ∧ o.lctr = (if y.rLce then some y.rLctr else none) ∧ o.deadline = s.now + s.timeoutOf y.part y.rTmo)
       ∧ (leave = true → y.rBlk = false → ∀ lt ∈ lanes.zip tids, faChip (y.faddr lt.1) = s.chip →
           ∃ p ∈ t.fabric.arrived, p.tid = lt.2 ∧ p.type = (if op ≤ 1 then op + 1 else 3) ∧ p.dst = s.chip ∧ p.src = s.chip
             ∧ p.space = faSpace (y.faddr lt.1) ∧ p.taddr = faLocal (y.faddr lt.1))
       ∧ t.group? pane slot = some g ∧ OnlyPaths { y.g with loads := y.g.loads ++ ls } g
       ∧ (if reads then ∃ k, ls = [k] ∧ k.waiting = tids ∧ k.dst = y.fD ∧ k.size = y.rSize ∧ k.remote = true ∧ k.lanes = y.act
          else ls = [])))

/-- R212, R214, R216: a PUT that its checks admit and that meets no poison writes its data, and nothing else, and is answered with
OK, in local store and in memory. In a mirrored pool the home copy takes the data, and the answer waits for the partner's (R165).

R212, R214, R216: a GET that its checks admit and that meets no poison is answered with the bytes it asks for; no byte of local
store or memory changes. -/
def Obligations.PutsAndGets : Prop :=
  (∀ (p : Packet) (s : State) (part : Nat), Arrives s.toDevice 1 p → s.jobPart? p.job = some part → p.poison = [] → p.rce = false →
    p.progress = (0, stOk) → p.waits = [] → 0 < (dataOfPacket p).length →
    (let data := dataOfPacket p
     (∀ pane off, s.reach part p.src p.space p.taddr data.length .write = .ok (.ls pane off) →
       (s.pane pane).lsBad off data.length = false →
       ∃ t, exec (.putPacket p 0) s = .next t ∧ t.pending = s.pending ∧ Answered t.toDevice p 8 stOk []
         ∧ t.mem.bytes = s.mem.bytes ∧ (∀ a, a ≠ pane → (t.pane a).ls = (s.pane a).ls)
         ∧ (∀ i, i < data.length → SMap.get (t.pane pane).ls (off + i) 0 = data.getD i 0)
         ∧ ∀ a, a < off ∨ off + data.length ≤ a → SMap.get (t.pane pane).ls a 0 = SMap.get (s.pane pane).ls a 0)
     ∧ ∀ q : Target, s.reach part p.src p.space p.taddr data.length .write = .ok (.mem q) → q.map.kind = 0 →
       q.off + data.length ≤ 2 ^ 43 →
       Memory.wf s.mem = true →
       (∀ i c, i < data.length → s.poisonAt q.owner q.pool c (q.off + i) = false
         ∧ s.mem.agrees (sectorKey q.owner q.pool c (q.off + i))) →
       ∃ t, exec (.putPacket p 0) s = .next t ∧ t.pending = s.pending
         ∧ (s.copies q.owner q.pool = [0] → Answered t.toDevice p 8 stOk [])
         ∧ (s.copies q.owner q.pool = [0, 1] → (∀ f ∈ s.mem.forwards, f.id < s.mem.nextReq) → ∃ a ∈ t.mem.after, a.1 ≠ [] ∧ a.2 = .answer part p 8 stOk [] true false)
         ∧ (∀ a, (t.pane a).ls = (s.pane a).ls)
         ∧ (∀ i, i < data.length → t.byteAt q.owner q.pool 0 (q.off + i) = data.getD i 0)
         ∧ ∀ o, o < 2 ^ 43 → (o < q.off ∨ q.off + data.length ≤ o) →
             t.byteAt q.owner q.pool 0 o = s.byteAt q.owner q.pool 0 o))
  ∧ (∀ (p : Packet) (s : State) (part : Nat), Arrives s.toDevice 2 p → s.jobPart? p.job = some part → p.rce = false →
    (let n := getLength p
     (∀ pane off, s.reach part p.src p.space p.taddr n .read = .ok (.ls pane off) → (s.pane pane).lsBad off n = false →
       ∃ t, exec (.getPacket p) s = .next t ∧ t.pending = s.pending ∧ t.mem = s.mem ∧ (∀ a, (t.pane a).ls = (s.pane a).ls)
         ∧ Answered t.toDevice p 9 stOk ((s.pane pane).readLs off n))
     ∧ ∀ (q : Target) (b : Nat → Byte), s.reach part p.src p.space p.taddr n .read = .ok (.mem q) → q.map.kind = 0 →
       (∀ i c, i < n → s.poisonAt q.owner q.pool c (q.off + i) = false) →
       (∀ i c, i < n → c ∈ s.copies q.owner q.pool → s.byteAt q.owner q.pool c (q.off + i) = b i) →
       ∃ t, exec (.getPacket p) s = .next t ∧ t.pending = s.pending ∧ t.mem.bytes = s.mem.bytes
         ∧ (∀ a, (t.pane a).ls = (s.pane a).ls) ∧ Answered t.toDevice p 9 stOk ((List.range n).map b)))

/-- R212, R215, R217: an AMO on a word of local store or of memory that holds no poison is answered with the old value, and the word is
as its rule says; a CTRINC of a word of local store adds its VALUE to COUNT, saturating, and leaves the word's other fields. No other
byte of local store and of the pool changes. -/
def Obligations.RemoteAtomics : Prop :=
  (∀ (p : Packet) (s : State) (part pane off : Nat), Arrives s.toDevice 3 p → s.jobPart? p.job = some part → p.rce = false →
    2 ≤ p.sz ∧ p.sz ≤ 3 → p.aop ≤ 8 → s.reach part p.src p.space p.taddr (2 ^ p.sz) .write = .ok (.ls pane off) →
    (s.pane pane).lsBad off (2 ^ p.sz) = false →
    (let n := 2 ^ p.sz
     let old := ofBytes ((s.pane pane).readLs off n)
     ∃ t, exec (.amoPacket p) s = .next t ∧ t.pending = s.pending ∧ t.mem.bytes = s.mem.bytes
       ∧ Answered t.toDevice p 0xA stOk (bytesOf old n ++ List.replicate (32 - n) 0)
       ∧ (∀ a, a ≠ pane → (t.pane a).ls = (s.pane a).ls)
       ∧ (t.pane pane).readLs off n = (match atomicRule (8 + p.aop) p.sgn n old (ofBytes (p.data.take n))
             (ofBytes ((p.data.drop 16).take n)) with
           | some v => bytesOf v n
           | none => (s.pane pane).readLs off n)
       ∧ ∀ a, a < off ∨ off + n ≤ a → SMap.get (t.pane pane).ls a 0 = SMap.get (s.pane pane).ls a 0))
  ∧ (∀ (p : Packet) (s : State) (part : Nat) (q : Target), Arrives s.toDevice 3 p → s.jobPart? p.job = some part → p.rce = false →
    2 ≤ p.sz ∧ p.sz ≤ 3 → p.aop ≤ 8 → s.reach part p.src p.space p.taddr (2 ^ p.sz) .write = .ok (.mem q) → q.map.kind = 0 →
    q.off % 2 ^ p.sz = 0 → q.off < 2 ^ 43 → s.copies q.owner q.pool = [0] → s.poisonAt q.owner q.pool 0 q.off = false →
    (let n := 2 ^ p.sz
     let old := ofBytes (s.bytesAt q.owner q.pool 0 q.off n)
     ∃ t, exec (.amoPacket p) s = .next t ∧ t.pending = s.pending ∧ (∀ a, (t.pane a).ls = (s.pane a).ls)
       ∧ Answered t.toDevice p 0xA stOk (bytesOf old n ++ List.replicate (32 - n) 0)
       ∧ t.bytesAt q.owner q.pool 0 q.off n = (match atomicRule (8 + p.aop) p.sgn n old (ofBytes (p.data.take n))
             (ofBytes ((p.data.drop 16).take n)) with
           | some v => bytesOf v n
           | none => s.bytesAt q.owner q.pool 0 q.off n)
       ∧ ∀ o, o < 2 ^ 43 → o < q.off ∨ q.off + n ≤ o → t.byteAt q.owner q.pool 0 o = s.byteAt q.owner q.pool 0 o))
  ∧ (∀ (p : Packet) (s : State) (part pane off : Nat), Arrives s.toDevice 5 p → s.jobPart? p.job = some part →
    s.reach part p.src p.space p.taddr 8 .write = .ok (.ls pane off) → (s.pane pane).populated off 8 = true →
    (s.pane pane).lsBad off 8 = false →
    (let old := ofBytes ((s.pane pane).readLs off 8)
     ∃ t, exec (.ctrincPacket p) s = .next t ∧ t.pending = s.pending ∧ t.mem.bytes = s.mem.bytes
       ∧ Answered t.toDevice p 8 stOk [] ∧ (∀ a, a ≠ pane → (t.pane a).ls = (s.pane a).ls)
       ∧ ofBytes ((t.pane pane).readLs off 8) = countAfter old p.arg + 2 ^ 32 * (old / 2 ^ 32)
       ∧ ∀ a, a < off ∨ off + 8 ≤ a → SMap.get (t.pane pane).ls a 0 = SMap.get (s.pane pane).ls a 0))

/-- R222, R224, R226, R258: an ordered accumulate-put of one segment whose turn it is adds each of its elements to memory in one
rounding, and NEXT of its range advances; one whose turn is to come is held in the staging region, and one behind its turn is
answered MALFORMED, as is a second contribution to a gradient plane under a SEQ that is still held. A stalled range drops its held pieces at the collective watchdog. -/
def Obligations.OrderedAccumulates : Prop :=
  (∀ (p : Packet) (s : State) (part : Nat) (q : Target), Arrives s.toDevice 4 p → s.jobPart? p.job = some part →
    s.pieceSegments p = [] → p.status = 64 → p.space = 0 → p.poison = [] → fld p.rctr 48 4 = 1 → p.arg < 2 ^ 32 →
    (let range := rangeKey q.owner q.pool q.off
     let e := contributionBytes p.elt
     let n := p.data.length / e
     let ahead := (p.arg + 2 ^ 32 - s.nextOf range) % 2 ^ 32
     let twin := ((s.part q.owner).shardAt q.owner q.pool q.off).isSome && (s.heldIn range).any (fun h => h.seq == p.arg)
     s.reach part p.src 0 p.taddr (4 * n) .accumulate = .ok (.mem q) → q.map.kind = 0 → s.nextOf range < 2 ^ 32 →
     (ahead = 0 → s.copies q.owner q.pool = [0] → q.off % 32 = 0 → q.off + 4 * n ≤ 2 ^ 43 →
       (s.part q.owner).shardAt q.owner q.pool q.off = none →
       (∀ h ∈ s.mem.held, h.range = range → h.seq ≠ (s.nextOf range + 1) % 2 ^ 32) →
       Memory.wf s.mem = true →
       (∀ i, i < 4 * n → s.poisonAt q.owner q.pool 0 (q.off + i) = false ∧ s.mem.agrees (sectorKey q.owner q.pool 0 (q.off + i))) →
       ∃ t, exec (.accputPacket p) s = .next t ∧ t.pending = s.pending ∧ Answered t.toDevice p 8 stOk []
         ∧ t.nextOf range = (s.nextOf range + 1) % 2 ^ 32 ∧ t.mem.held = s.mem.held
         ∧ (∀ i, i < n → ofBytes (t.bytesAt q.owner q.pool 0 (q.off + 4 * i) 4) =
             sumElement (ofBytes (s.bytesAt q.owner q.pool 0 (q.off + 4 * i) 4))
               (contributionVal p.elt (ofBytes ((p.data.drop (e * i)).take e))))
         ∧ ∀ o, o < 2 ^ 43 → o < q.off ∨ q.off + 4 * n ≤ o → t.byteAt q.owner q.pool 0 o = s.byteAt q.owner q.pool 0 o)
     ∧ (0 < ahead → ahead < 2 ^ 31 → twin = false →
         s.stagedBytes (s.place q.owner q.pool 0 q.off).stack + p.data.length ≤ s.odGet 0 0x3030 0 * 1048576 →
       ∃ t h, exec (.accputPacket p) s = .next t ∧ t.pending = s.pending ∧ Answered t.toDevice p 8 stOk []
         ∧ t.mem.held = s.mem.held ++ [h] ∧ h.seq = p.arg ∧ h.data = p.data ∧ h.range = range ∧ h.off = q.off
         ∧ t.mem.bytes = s.mem.bytes ∧ t.mem.order = s.mem.order)
     ∧ (0 < ahead → ahead < 2 ^ 31 → twin = false →
         s.odGet 0 0x3030 0 * 1048576 < s.stagedBytes (s.place q.owner q.pool 0 q.off).stack + p.data.length →
       ∃ t, exec (.accputPacket p) s = .next t ∧ t.pending = s.pending ∧ Answered t.toDevice p 0xB stResource []
         ∧ t.mem.held = s.mem.held ∧ t.mem.bytes = s.mem.bytes ∧ t.mem.order = s.mem.order)
     ∧ (ahead ≠ 0 → 2 ^ 31 ≤ ahead ∨ twin = true →
       ∃ t, exec (.accputPacket p) s = .next t ∧ t.pending = s.pending ∧ Answered t.toDevice p 8 stMalformed []
         ∧ t.mem.held = s.mem.held ∧ t.mem.bytes = s.mem.bytes ∧ t.mem.order = s.mem.order)))
  ∧ ∀ (part pool range t0 : Nat) (s : State), SMap.find s.mem.stall (rangeKey part pool (range * 32768)) = some t0 →
    t0 + 1000 * s.odGet part 0x6112 0 ≤ s.now →
    ∃ t, exec (.orderStall part pool range) s = .next t ∧ t.pending = s.pending ∧ t.mem.bytes = s.mem.bytes
      ∧ t.mem.order = s.mem.order ∧ t.mem.held = s.mem.held.filter (fun h => h.range != rangeKey part pool (range * 32768))
      ∧ SMap.find t.mem.stall (rangeKey part pool (range * 32768)) = none

/-- R226: the stall timer of a range starts when the range, which holds no piece, takes a held one, and stands while it takes more;
when NEXT advances it starts again while pieces stay held, and stops when none does. At the collective watchdog the held pieces of the
range are discarded and counted, ORDER_STALL is raised with the range's address and NEXT, and nothing is incremented or written: their
sources have had OK already. A piece whose turn it is is applied as ever. -/
def Obligations.StalledRanges : Prop :=
  (∀ (p : Packet) (s : State) (part : Nat) (q : Target), Arrives s.toDevice 4 p → s.jobPart? p.job = some part →
    s.pieceSegments p = [] → p.status = 64 → p.space = 0 → p.poison = [] → fld p.rctr 48 4 = 1 → p.arg < 2 ^ 32 →
    (let range := rangeKey q.owner q.pool q.off
     let e := contributionBytes p.elt
     let n := p.data.length / e
     let ahead := (p.arg + 2 ^ 32 - s.nextOf range) % 2 ^ 32
     s.reach part p.src 0 p.taddr (4 * n) .accumulate = .ok (.mem q) → q.map.kind = 0 → s.nextOf range < 2 ^ 32 →
     (0 < ahead → ahead < 2 ^ 31 →
         (s.part q.owner).shardAt q.owner q.pool q.off = none ∨ (∀ h ∈ s.heldIn range, h.seq ≠ p.arg) →
         s.stagedBytes (s.place q.owner q.pool 0 q.off).stack + p.data.length ≤ s.odGet 0 0x3030 0 * 1048576 →
       ∃ t, exec (.accputPacket p) s = .next t ∧ t.pending = s.pending ∧ Answered t.toDevice p 8 stOk []
         ∧ SMap.find t.mem.stall range = (if s.heldIn range = [] then some s.now else SMap.find s.mem.stall range))
     ∧ (ahead = 0 → s.copies q.owner q.pool = [0] → q.off % 32 = 0 → q.off + 4 * n ≤ 2 ^ 43 →
       (s.part q.owner).shardAt q.owner q.pool q.off = none →
       (∀ h ∈ s.mem.held, h.range = range → h.seq ≠ (s.nextOf range + 1) % 2 ^ 32) →
       Memory.wf s.mem = true →
       (∀ i, i < 4 * n → s.poisonAt q.owner q.pool 0 (q.off + i) = false ∧ s.mem.agrees (sectorKey q.owner q.pool 0 (q.off + i))) →
       ∃ t, exec (.accputPacket p) s = .next t ∧ t.pending = s.pending ∧ t.nextOf range = (s.nextOf range + 1) % 2 ^ 32
         ∧ (∀ i, i < n → ofBytes (t.bytesAt q.owner q.pool 0 (q.off + 4 * i) 4) =
             sumElement (ofBytes (s.bytesAt q.owner q.pool 0 (q.off + 4 * i) 4))
               (contributionVal p.elt (ofBytes ((p.data.drop (e * i)).take e))))
         ∧ SMap.find t.mem.stall range = (if s.heldIn range = [] then none else some s.now))))
  ∧ ∀ (part pool range t0 : Nat) (s : State), SMap.find s.mem.stall (rangeKey part pool (range * 32768)) = some t0 →
    (let key := rangeKey part pool (range * 32768)
     (s.now < t0 + 1000 * s.odGet part 0x6112 0 → Gives (.orderStall part pool range) s s.toDevice)
     ∧ (t0 + 1000 * s.odGet part 0x6112 0 ≤ s.now →
       Makes (.orderStall part pool range) s (fun t => t.mem.bytes = s.mem.bytes ∧ t.mem.order = s.mem.order ∧ t.panes = s.panes
         ∧ t.mem.held = s.mem.held.filter (fun h => h.range != key) ∧ SMap.find t.mem.stall key = none
         ∧ t.odGet part 0x6130 6 = min (s.odGet part 0x6130 6 + (s.heldIn key).length) (2 ^ 64 - 1)
         ∧ eventBody 0x6002 2 part s.now [((s.part part).vaOf part pool (range * 32768), 8), (s.nextOf key, 4)]
             ∈ (t.part part).events)))

/-- R214–R216, R223, R229: a reply takes its part from its operation; the last part ends the operation, and a block's local
counter counts it with the operation's lowest status. A GETDATA writes a block's bytes to local store, and the value of a
lane's get or amo to its registers; a DEFER keeps the piece and notes the time. -/
def Obligations.RepliesComplete : Prop :=
  (∀ (p : Packet) (s : State) (o : RemOp), Arrives s.toDevice 8 p → s.op? p.tid = some o → o.tid = p.tid → o.held = [] →
    p.taddr ∈ o.todo → (s.paneOps o.pane).all (·.later.isEmpty) = true →
    (o.todo.erase p.taddr ≠ [] →
      ∃ t o', exec (.ackPacket p) s = .next t ∧ t.pending = s.pending ∧ t.mem = s.mem ∧ t.panes = s.panes
        ∧ t.op? p.tid = some o' ∧ o'.todo = o.todo.erase p.taddr ∧ o'.status = recordStatus o.status p.status
        ∧ SMap.find o'.resend p.taddr = none ∧ ∀ d, d ≠ p.tid → t.op? d = s.op? d)
    ∧ (o.todo.erase p.taddr = [] → o.block = true → o.acquire = false → ∀ a, o.lctr = some a →
      (s.pane o.pane).populated a 8 = true → (s.pane o.pane).lsBad a 8 = false →
      (∀ g, s.group? o.pane o.slot = some g → ∀ l ∈ g.loads, l.waiting.contains p.tid = false) →
      (let old := ofBytes ((s.pane o.pane).readLs a 8)
       let status := recordStatus o.status p.status
       ∃ t, exec (.ackPacket p) s = .next t ∧ t.pending = s.pending ∧ t.mem.bytes = s.mem.bytes ∧ (∀ d, d ≠ p.tid → t.op? d = s.op? d)
         ∧ t.op? p.tid = none ∧ ofBytes ((t.pane o.pane).readLs a 8) = bump old 1 status
         ∧ ∀ b, b < a ∨ a + 8 ≤ b → SMap.get (t.pane o.pane).ls b 0 = SMap.get (s.pane o.pane).ls b 0)))
  ∧ (∀ (p : Packet) (s : State) (o : RemOp), Arrives s.toDevice 9 p → s.op? p.tid = some o → o.tid = p.tid → o.held = [] →
    p.taddr ∈ o.todo → o.block = true → p.status = stOk → o.lctr = none → o.stats = false →
    (s.paneOps o.pane).all (·.later.isEmpty) = true →
    (let off := o.lsOff + (p.taddr - fld o.faddr 0 48)
     (s.pane o.pane).lsBad off p.data.length = false →
     ∃ t, exec (.getdataPacket p) s = .next t ∧ t.pending = s.pending ∧ t.mem.bytes = s.mem.bytes
       ∧ (∀ i, i < p.data.length → SMap.get (t.pane o.pane).ls (off + i) 0 = p.data.getD i 0)
       ∧ (∀ b, b < off ∨ off + p.data.length ≤ b → SMap.get (t.pane o.pane).ls b 0 = SMap.get (s.pane o.pane).ls b 0)
       ∧ (t.op? p.tid = none ↔ o.todo.erase p.taddr = [])))
  ∧ (∀ (amo : Bool) (p : Packet) (s : State) (o : RemOp) (g : Group) (l : Load), Arrives s.toDevice (if amo then 0xA else 9) p →
    s.op? p.tid = some o → o.tid = p.tid → o.held = [] → o.todo = [p.taddr] → o.block = false → p.status = stOk →
    o.status = stOk → o.lctr = none → o.stats = false → s.group? o.pane o.slot = some g → g.loads = [l] → l.remote = true →
    l.waiting = [p.tid] → l.dst < 256 → l.bad = 0 → l.failed = 0 → l.got = [] → l.scalar = false → l.sx = false → g.paths ≠ [] →
    (s.paneOps o.pane).all (·.later.isEmpty) = true →
    (amo = true → o.kind < 0x0F ∨ ofBytes (p.data.take o.len) = o.cmp) → o.lane < 128 →
    ∃ t g', exec (if amo then .amodataPacket p else .getdataPacket p) s = .next t ∧ t.pending = s.pending ∧ t.mem.bytes = s.mem.bytes
      ∧ t.op? p.tid = none ∧ t.group? o.pane o.slot = some g' ∧ g'.loads = [] ∧ g'.sregs = g.sregs ∧ g'.preds = g.preds
      ∧ g'.paths = g.paths ∧ ∀ k n, k < 128 → n < 256 → n ≠ 255 → g'.v k n =
          if k = o.lane ∧ l.dst ≤ n ∧ n < l.dst + regsOf l.size
          then BitVec.ofNat 32 (ofBytes (p.data.take o.len) / 2 ^ (32 * (n - l.dst))) else g.v k n)
  ∧ ∀ (p : Packet) (s : State) (o : RemOp), Arrives s.toDevice 0xB p → s.op? p.tid = some o → o.tid = p.tid → o.held = [] →
    p.taddr ∈ o.todo →
    ∃ t o', exec (.deferPacket p) s = .next t ∧ t.pending = s.pending ∧ t.mem = s.mem ∧ t.panes = s.panes
      ∧ t.op? p.tid = some o' ∧ SMap.find o'.deferred p.taddr = some s.now ∧ o' = { o with deferred := o'.deferred }

/-- R223, R229, R230, R301: an operation whose timer has run out ends, is counted, and is remembered for its late replies; a
deferred piece is sent again from the resend buffer 1 µs after its DEFER; returned credit lets waiting packets go, and none
of them is lost.

R219: the first partial of an operation makes an entry at the unit that serves its counter; the last one removes the entry and
adds 1 to the counter, with the lowest status of them all; an entry that the collective watchdog finds idle is dropped and
counted. -/
def Obligations.RemoteUpkeep : Prop :=
  ((∀ (tid : Nat) (s : State) (o : RemOp), s.op? tid = some o → o.tid = tid → o.deadline ≤ s.now →
    (s.paneOps o.pane).all (·.later.isEmpty) = true →
    (o.sent = true ∨ o.stats = true ∨ ((s.dropOp tid).unsent o.pane).takeWhile (fun q => q.held.isEmpty) = []) →
    ∃ t, exec (.remoteTimeout tid) s = .next t ∧ t.pending = s.pending ∧ t.op? tid = none
      ∧ (o.todo ≠ [] → o.sent = true → SMap.find t.fabric.expired tid = some o)
      ∧ (o.lctr = none → o.stats = false →
          t.odGet o.part 0x6130 2 = min (s.odGet o.part 0x6130 2 + 1) (2 ^ 64 - 1) ∧ t.mem.bytes = s.mem.bytes)
      ∧ (o.lctr = none → o.kind ≠ 1 ∨ o.block = false → ∀ a, (t.pane a).ls = (s.pane a).ls)
      ∧ ∀ d, d ≠ tid → t.op? d = s.op? d)
  ∧ (∀ (tid piece t0 : Nat) (s : State) (o : RemOp), s.op? tid = some o → o.tid = tid →
    SMap.find o.deferred piece = some t0 → t0 + 1000 ≤ s.now →
    ∃ t o', exec (.accputResend tid piece) s = .next t ∧ t.pending = s.pending ∧ t.mem = s.mem ∧ t.panes = s.panes
      ∧ t.op? tid = some o' ∧ SMap.find o'.deferred piece = none ∧ o'.resend = o.resend
      ∧ ∀ q ∈ SMap.get o.resend piece [], OnItsWay t.toDevice q)
  ∧ ∀ (door vc0 vc1 : Nat) (s : State), s.doorUp door = true →
    ∃ t, exec (.creditPacket door vc0 vc1) s = .next t ∧ t.pending = s.pending ∧ t.mem = s.mem ∧ t.panes = s.panes
      ∧ (s.fabric.waiting = [] → (t.door door).credit0 = (s.door door).credit0 + vc0
          ∧ (t.door door).credit1 = (s.door door).credit1 + vc1)
      ∧ ∀ q ∈ s.fabric.waiting, OnItsWay t.toDevice q.2)
  ∧ ((∀ (q : Partial) (s : State) (part : Nat), s.jobPart? q.job = some part → fld q.rctr 48 4 = 1 → fld q.rctr 24 24 < 320 →
    (let pane := fld q.rctr 24 24
     (2 ≤ q.nseg → (s.pane pane).pend.find? (·.isFor part q) = none → (s.pane pane).pend.length < 1024 →
       ∃ t c, exec (.partialIncrement q) s = .next t ∧ t.pending = s.pending ∧ t.mem = s.mem
         ∧ (t.pane pane).pend = (s.pane pane).pend ++ [c] ∧ c.seen = 1 ∧ c.nseg = q.nseg ∧ c.status = q.status ∧ c.last = s.now
         ∧ c.part = part ∧ c.src = q.src ∧ c.tid = q.tid ∧ (t.pane pane).ls = (s.pane pane).ls
         ∧ t.fabric.partials = s.fabric.partials.erase q)
     ∧ ∀ c, (s.pane pane).pend.find? (·.isFor part q) = some c → q.nseg ≤ c.seen + 1 → (s.part part).fence = .none →
       (s.part part).hasPane pane = true → s.paneState pane ≠ .vacant →
       (let a := fld q.rctr 0 24
        (s.pane pane).populated a 8 = true → (s.pane pane).lsBad a 8 = false →
        ∃ t, exec (.partialIncrement q) s = .next t ∧ t.pending = s.pending ∧ t.mem = s.mem
          ∧ (t.pane pane).pend = (s.pane pane).pend.filter (fun c => !c.isFor part q)
          ∧ ofBytes ((t.pane pane).readLs a 8) =
              bump (ofBytes ((s.pane pane).readLs a 8)) 1 (recordStatus c.status q.status)
          ∧ ∀ b, b < a ∨ a + 8 ≤ b → SMap.get (t.pane pane).ls b 0 = SMap.get (s.pane pane).ls b 0)))
  ∧ ∀ (q : Partial) (s : State) (part : Nat) (c : PendCount), s.jobPart? q.job = some part → fld q.rctr 48 4 = 1 →
    fld q.rctr 24 24 < 320 → (s.pane (fld q.rctr 24 24)).pend.find? (·.isFor part q) = some c →
    c.last + 1000 * s.odGet part 0x6112 0 ≤ s.now →
    ∃ t, exec (.pendingCountTimeout q) s = .next t ∧ t.pending = s.pending ∧ t.mem = s.mem
      ∧ (t.pane (fld q.rctr 24 24)).pend = (s.pane (fld q.rctr 24 24)).pend.filter (fun c => !c.isFor part q)
      ∧ (t.pane (fld q.rctr 24 24)).ls = (s.pane (fld q.rctr 24 24)).ls
      ∧ t.odGet part 0x6130 7 = min (s.odGet part 0x6130 7 + 1) (2 ^ 64 - 1))

/-- R230: a reply to an operation that has completed with TIMEOUT is late. Its data is discarded: no register, no byte of local store
and no byte of memory changes, and no operation does; it is counted in OD 0x6130.03, and the late log takes a row of status LATE with
the operation's address. -/
def Obligations.LateReplies : Prop :=
  ∀ (p : Packet) (s : State) (o : RemOp), s.op? p.tid = none → SMap.find s.fabric.expired p.tid = some o → o.faddr < 2 ^ 64 →
    o.kind < 256 →
    (let late := fun (t : Device) => t.mem = s.mem ∧ t.panes = s.panes ∧ (∀ d, t.op? d = s.op? d)
       ∧ t.odGet o.part 0x6130 3 = min (s.odGet o.part 0x6130 3 + 1) (2 ^ 64 - 1)
       ∧ ∃ row ∈ (t.part o.part).late, fld row 72 8 = stLate ∧ fld row 0 64 = o.faddr ∧ row / 2 ^ 128 = s.now
     (Arrives s.toDevice 8 p → Makes (.ackPacket p) s late)
     ∧ (Arrives s.toDevice 9 p → Makes (.getdataPacket p) s late)
     ∧ (Arrives s.toDevice 0xA p → Makes (.amodataPacket p) s late)
     ∧ (Arrives s.toDevice 0xB p → Makes (.deferPacket p) s late))

/-! ## Sills, memory requests and stacks (R149–R176, R184–R190) -/

/-- R161, R163: a load that its sill serves free of poison takes the bytes of the copy that serves it, and a store writes its bytes
at the home copy; no other byte of that copy changes, and the request waits for its answer. -/
def Obligations.SillsServe : Prop :=
  ∀ (req : Nat) (code other : CodeError) (sram : Ecc) (s : State) (r : MemReq),
    s.mem.reqs.find? (fun r => r.id == req) = some r → r.served = false →
    s.reqBehind r = false → (s.pool? r.owner r.pool).isSome = true →
    s.channelHeld (s.channelOf r.owner r.pool (r.servedAt s.toDevice) r.off) = false →
    codeClean code ∨ codeCorrected code → sram ≠ .uncorrectable →
    (r.load.isSome = true → s.poisonAt r.owner r.pool (r.servedAt s.toDevice) r.off = false →
      ∃ t, exec (.sillAccess req code other sram) s = .next t ∧ t.pending = s.pending ∧ t.mem.bytes = s.mem.bytes ∧ t.panes = s.panes
        ∧ t.mem.reqs = s.mem.reqs.map (fun q => if q.id = req then { q with
            served := true, result := some (s.bytesAt r.owner r.pool (r.servedAt s.toDevice) r.off 32) } else q))
    ∧ (r.load = none → s.poisonAt r.owner r.pool 0 r.off = false → (r.writes.map Prod.fst).Nodup → r.off + 32 ≤ 2 ^ 43 →
      (∀ w ∈ r.writes, w.1 < 32) →
      ∃ t, exec (.sillAccess req code other sram) s = .next t ∧ t.pending = s.pending ∧ t.panes = s.panes
        ∧ (∀ w ∈ r.writes, t.byteAt r.owner r.pool 0 (r.off + w.1) = w.2)
        ∧ (∀ o, o < 2 ^ 43 → (∀ w ∈ r.writes, o ≠ r.off + w.1) → t.byteAt r.owner r.pool 0 o = s.byteAt r.owner r.pool 0 o)
        ∧ (s.copies r.owner r.pool = [0] → t.mem.forwards = s.mem.forwards)
        ∧ (s.copies r.owner r.pool = [0, 1] → ∃ f : Forward, t.mem.forwards = s.mem.forwards ++ [f]
            ∧ f = { id := r.id, part := r.part, owner := r.owner, pool := r.pool, off := r.off, writes := some r.writes, view := r.view })
        ∧ t.mem.reqs = s.mem.reqs.map (fun q => if q.id = req then { q with
            served := true, status := s.partnerStatus r.owner r.pool r.off } else q))

/-- R165, R184, R186, R190: a forwarded write is performed at its partner copy in the home copy's order, and what waited for it
follows; a store's acknowledgement takes it from its group, and stops the cohort of a store that met poison; a load's data goes to
its register, and into the pane cache unless a clearing or a store of the pane came between. -/
def Obligations.RequestsReturn : Prop :=
  (∀ (req : Nat) (s : State) (f : Forward) (writes : List (Nat × Byte)), s.mem.forwards.find? (fun f => f.id == req) = some f →
    f.writes = some writes → (s.mem.forwards.takeWhile (fun g => g != f)).any (fun g => g.isOf f.owner f.pool f.off) = false →
    s.channelHeld (s.channelOf f.owner f.pool 1 f.off) = false → (∀ c, s.poisonAt f.owner f.pool c f.off = false) →
    (writes.map Prod.fst).Nodup → f.off + 32 ≤ 2 ^ 43 → (∀ w ∈ writes, w.1 < 32) →
    (s.mem.after = [] →
      Makes (.mirrorPartnerWrite req) s (fun t => t.panes = s.panes ∧ t.mem.forwards = s.mem.forwards.erase f
        ∧ (∀ w ∈ writes, t.byteAt f.owner f.pool 1 (f.off + w.1) = w.2)
        ∧ ∀ o, o < 2 ^ 43 → t.byteAt f.owner f.pool 0 o = s.byteAt f.owner f.pool 0 o))
    ∧ ∀ (part type status : Nat) (p : Packet) (data : List Byte), (∀ g ∈ s.mem.forwards.erase f, g.id ≠ req) →
      s.mem.after = [([req], .answer part p type status data false false)] →
      Makes (.mirrorPartnerWrite req) s (fun t => t.mem.after = [] ∧ Answered t p type status data))
  ∧ (∀ (req : Nat) (s : State) (r : MemReq) (g : Group), s.mem.reqs.find? (fun r => r.id == req) = some r → r.load = none →
    r.served = true → s.forwarding req = false → s.group? r.pane r.slot = some g → req ∈ g.stores →
    Makes (.storeAck req) s (fun t => t.mem.bytes = s.mem.bytes ∧ t.mem.reqs = s.mem.reqs.filter (fun q => q.id != req)
      ∧ (r.status ≠ stPoison → t.group? r.pane r.slot = some { g with stores := g.stores.filter (· != req) } ∧ t.cohorts = s.cohorts)
      ∧ (r.status = stPoison → ∀ c, s.cohort? g.cohort = some c → c.fault = none →
          ∃ k, t.cohort? g.cohort = some k ∧ k.fault = some stPoison)))
  ∧ ∀ (req lane place : Nat) (s : State) (r : MemReq) (g : Group) (l : Load) (data : List Byte),
    s.mem.reqs.find? (fun r => r.id == req) = some r → r.load = some l.id → r.served = true → r.result = some data →
    s.group? r.pane r.slot = some g → g.loads.find? (fun k => k.id == l.id) = some l → l.waiting = [req] → l.bad = 0 →
    l.failed = 0 → l.got = [] → l.scalar = false → l.acquire = false → l.dst < 256 → lane < 128 →
    r.lanes = [(lane, place, l.size)] →
    ∃ t g', exec (.lineFill req) s = .next t ∧ t.pending = s.pending ∧ t.mem.bytes = s.mem.bytes
      ∧ t.mem.reqs.map (·.id) = (s.mem.reqs.filter (fun q => q.id != req)).map (·.id)
      ∧ t.group? r.pane r.slot = some g' ∧ g'.loads = g.loads.filter (fun k => k.id != l.id) ∧ g'.sregs = g.sregs
      ∧ (r.stale = false → (s.pane r.pane).clears = r.gen → (s.pane r.pane).split < 12 →
          SMap.find (t.pane r.pane).cache (sectorKey r.owner r.pool 0 r.off) = some data)
      ∧ (r.stale = true ∨ (s.pane r.pane).clears ≠ r.gen → (t.pane r.pane).cache = (s.pane r.pane).cache)
      ∧ ∀ k n, k < 128 → n < 256 → n ≠ 255 → g'.v k n =
          if k = lane ∧ l.dst ≤ n ∧ n < l.dst + regsOf l.size
          then BitVec.ofNat 32 (extended l.size l.sx (ofBytes ((data.drop place).take l.size)) / 2 ^ (32 * (n - l.dst)))
          else g.v k n

/-- R161, R164, R174: a scrub read of a good sector changes nothing; a corrected one is counted; an uncorrectable one of a pool
that is not mirrored is counted, its sector becomes poison, and the recovery of its pseudo-channel begins.

R170–R172: the hotter of a stack's two readings takes its row of Table 07-6 at once as it rises, and the first row that throttles
raises STACK_HOT; a window counts as unbalanced when the busiest pseudo-channel passes both thresholds, and enough of them in a row
raise the event once.

R174–R176: after its channel's retraining the suspect pseudo-channel is tested. A pseudo-channel that fails moves to the reserve, and is
retired and redirected when its rows have moved, a sector that was uncorrectable arriving as poison; with the reserve taken it is
unrepairable. -/
def Obligations.StackCare : Prop :=
  ((∀ (stack pc row sector part pool copy off : Nat) (code other : CodeError) (q : Place) (s : State) (p : Pool),
    stack < 20 → pc < 64 → row < 2 ^ 22 → sector < 16 → s.channelHeld (stack, pc) = false →
    (s.stack stack).holds stack pc row = some q → s.ownerOf q = some (part, pool, copy, off) →
    s.fresh part pool copy (off + 32 * sector) = true → s.pool? part pool = some p →
    (let ch := s.channelOf part pool copy (off + 32 * sector)
     (codeClean code → Gives (.scrubRead stack pc row sector code other) s s.toDevice)
     ∧ (codeCorrected code → Makes (.scrubRead stack pc row sector code other) s (fun t => t.mem = s.mem
         ∧ (fld (s.odGet 0 0x3020 0 ch.1) 0 64 < 2 ^ 64 - 1 →
             t.odGet 0 0x3020 0 ch.1 = s.odGet 0 0x3020 0 ch.1 + 1)))
     ∧ (codeDetected code → p.mirror = false → p.shared = false → ¬((s.stack ch.1).unrep.contains ch.2 = true) →
         (s.stack ch.1).retrain = none → (s.stack ch.1).suspect = none →
         Makes (.scrubRead stack pc row sector code other) s (fun t => t.poisonAt part pool 0 (off + 32 * sector) = true
           ∧ (t.stack ch.1).retrain = some (ch.2 / 2) ∧ (t.stack ch.1).suspect = some ch.2
           ∧ ∀ o, o < 2 ^ 43 → t.byteAt part pool 0 o = s.byteAt part pool 0 o))))
  ∧ ((∀ (stack report sensor : Nat) (s : State), stack < 20 →
    (let temp := if report ≤ sensor then sensor else report
     let row := (stackThresholds.filter (fun x => decide (x ≤ temp))).length
     Makes (.refreshSample stack report sensor) s (fun t => t.mem = s.mem ∧ t.panes = s.panes
      ∧ (t.stack stack).temp = temp ∧ (∀ k, k ≠ stack → t.stack k = s.stack k)
      ∧ row ≤ (t.stack stack).level
      ∧ ((s.stack stack).level ≤ row → (t.stack stack).level = row)
      ∧ ((s.stack stack).level < 3 → 3 ≤ (t.stack stack).level →
          eventBody 0x3001 1 0xFF s.now [(stack, 1), (temp, 1)] ∈ t.transom.log)
      ∧ (¬((s.stack stack).level < 3 ∧ 3 ≤ (t.stack stack).level) → t.transom = s.transom))))
  ∧ ∀ (stack : Nat) (s : State), stack < 20 →
    (let count := fun pc => total ((List.range 32).map (s.accesses stack pc))
     let sum := total ((List.range 64).map count)
     let mean := Nat.max 1 sum
     (∃ pc part ratio, s.windowIs stack pc part ratio = true)
     ∧ ∀ (pc part ratio busy span : Nat), pc < 64 → (∀ k, k < 64 → count k ≤ count pc) → part < 32 →
       (∀ k, k < 32 → s.accesses stack pc k ≤ s.accesses stack pc part) →
       64 * count pc < ratio * mean + mean → ratio * mean < 64 * count pc + mean →
     (let high := s.odGet 0 0x3040 3 * span ≤ 100 * busy ∧ s.odGet 0 0x3040 1 * sum ≤ 64 * count pc
      Makes (.imbalanceWindow stack pc part ratio busy span) s (fun t => t.mem = { s.mem with traffic := t.mem.traffic }
       ∧ (∀ k part, k < 64 → part < 32 → t.accesses stack k part = 0)
       ∧ (∀ n k part, n < 20 → n ≠ stack → k < 64 → part < 32 → t.accesses n k part = s.accesses n k part)
       ∧ t.panes = s.panes ∧ (t.stack stack).imbRun = (if high then (s.stack stack).imbRun + 1 else 0)
       ∧ (∀ k, k ≠ stack → t.stack k = s.stack k)
       ∧ (high → (s.stack stack).imbOn = false → s.odGet 0 0x3040 2 ≤ (s.stack stack).imbRun + 1 →
           (t.stack stack).imbOn = true
             ∧ eventBody 0x3002 0 0xFF s.now [(stack, 1), (pc, 1), (ratio, 1), (part, 1)] ∈ t.transom.log)
       ∧ ((s.stack stack).imbRun + 1 < s.odGet 0 0x3040 2 → t.transom = s.transom))))))
  ∧ ((∀ (stack channel : Nat) (s : State), stack < 20 → (s.stack stack).retrain = some channel →
    Makes (.pcRetrainDone stack channel (s.stack stack).suspect) s (fun t => t.mem = s.mem ∧ t.panes = s.panes
      ∧ (t.stack stack).retrain = none ∧ (t.stack stack).suspect = (s.stack stack).suspect
      ∧ ((s.stack stack).suspect = none → t.units = s.units)
      ∧ ∀ pc, (s.stack stack).suspect = some pc → (t.unit 2 (stack * 64 + pc)).state = .testing))
  ∧ (∀ (stack pc : Nat) (s : State), stack < 20 → (s.stack stack).suspect = some pc → (s.stack stack).retrain = none →
    (s.stack stack).unrep.contains pc = false → (s.stack stack).spent ≠ some pc →
    (∀ m, (s.stack stack).moving = some m → m.1 ≠ pc) →
    ∃ t, exec (.pcSelfTestDone stack pc false) s = .next t ∧ t.pending = s.pending ∧ t.mem = s.mem ∧ t.panes = s.panes
      ∧ (t.stack stack).suspect = none
      ∧ ((s.stack stack).spent = none → (s.stack stack).moving = none → (t.stack stack).moving = some (pc, 0))
      ∧ ((s.stack stack).spent ≠ none ∨ (s.stack stack).moving ≠ none →
          pc ∈ (t.stack stack).unrep ∧ (t.unit 2 (stack * 64 + pc)).state = .unrepairable
            ∧ eventBody 0x3004 3 0xFF s.now [(stack, 1), (pc, 1)] ∈ t.transom.log))
  ∧ ∀ (stack pc cause : Nat) (s : State) (errors : List (Nat × CodeError)), stack < 20 → (s.stack stack).moving = some (pc, cause) →
    (s.unit 2 (stack * 64 + pc)).state ≠ .retired → (∀ e ∈ errors, codeClean e.2 ∨ codeCorrected e.2 ∨ codeDetected e.2) →
    Makes (.pcMigrationDone stack pc errors) s (fun t => t.mem.bytes = s.mem.bytes ∧ t.panes = s.panes
      ∧ (t.stack stack).moving = none ∧ (t.stack stack).spent = some pc ∧ (t.unit 2 (stack * 64 + pc)).state = .retired
      ∧ (∀ e ∈ errors, codeDetected e.2 → e.1 / 16 < reserveRow → ∀ part pool copy off,
          s.ownerOf { stack, pc, row := e.1 / 16 } = some (part, pool, copy, off) →
          SMap.get t.mem.poison (sectorKey part pool copy (off + 32 * (e.1 % 16))) false = true)
      ∧ ∃ r ∈ t.units.retired, r.kind = 2 ∧ r.cause = cause ∧ r.number = stack * 64 + pc ∧ r.time = s.now))

/-- R29, R30, R37: a monitor's window leaves its rate, and the device minimum is the lowest that a monitor has reported; RATE_LOW is
raised once when the minimum has stayed below OD 0x2041 for ten windows (log entries 79 and 163). A unit's view of the lintel never
decreases and never runs ahead of the primary. -/
def Obligations.MonitorsAndViews : Prop :=
  (∀ (monitor khz : Nat) (s : State), monitor < 16 → khz < 2 ^ 32 →
    Makes (.rateMonitorWindow monitor khz) s (fun t => t.mem = s.mem ∧ t.panes = s.panes
      ∧ t.rateEntry (monitor + 1) = khz ∧ (∀ k, k < 16 → k ≠ monitor → t.rateEntry (k + 1) = s.rateEntry (k + 1))
      ∧ (let low := t.rateEntry 0x13
         let run := s.now / 10000 - s.power.rateSince.getD (s.now / 10000) + 1
         (∀ k r, k < 16 → SMap.find t.power.rates k = some r → low ≤ r)
         ∧ (∃ k, k < 16 ∧ SMap.find t.power.rates k = some low)
         ∧ (s.odGet 0 0x2041 0 ≤ low → t.power.rateSince = none ∧ t.power.rateLow = false ∧ t.transom = s.transom)
         ∧ (low < s.odGet 0 0x2041 0 → t.power.rateSince = some (s.power.rateSince.getD (s.now / 10000)) ∧ t.power.rateRun = run
             ∧ (run < 10 ∨ s.power.rateLow = true → t.transom = s.transom ∧ t.power.rateLow = s.power.rateLow)
             ∧ (10 ≤ run → s.power.rateLow = false → t.power.rateLow = true
                 ∧ ∃ m, eventBody 0x2001 1 0xFF s.now [(m, 1), (low, 4)] ∈ t.transom.log)))))
  ∧ ∀ (unit : Nat) (s : State), unit ≤ 340 →
    ∃ t, exec (.lintelViewRefresh unit) s = .next t ∧ t.pending = s.pending ∧ s.view unit ≤ t.view unit
      ∧ (s.view unit ≤ s.now → t.view unit ≤ t.now ∧ s.now ≤ t.view unit + 24)
      ∧ (∀ k, k ≠ unit → t.view k = s.view k) ∧ t.toDevice = { s.toDevice with lintel := t.lintel }

/-! ## Transom: sessions and the object dictionary (R324–R349, R443, R444) -/

/-- R334, R343, R344: a READ of an entry within reach answers its address and its stored value, and of a table the rows asked for
that exist and fit; a WRITE of an entry that is not an action and whose value passes its checks stores it, whole or not at
all, and answers OK; every other stored value stays, but that a limit lowered takes OD 0x2010 with it. A write of
the route table changes the bits of SWITCH doors alone (R303). -/
def Obligations.ReadsAndWrites : Prop :=
  (∀ (m : TMsg) (s : State) (x : Session) (e : Entry), Accepted s.toDevice 3 m x → s.entryFor x m false = .ok e →
    e.acc ≠ .wo → e.acc ≠ .x → e.type ≠ .table →
    ∃ t, exec (.read m) s = .next t ∧ t.pending = s.pending ∧ t.od = s.od ∧ t.mem = s.mem ∧ t.panes = s.panes ∧ t.parts = s.parts
      ∧ Responds t.toDevice x m 3 stOk 0 (ownAddress m ++ bytesOf (s.odRead (copyPart e x.part) e 0) e.width))
  ∧ (∀ (m : TMsg) (s : State) (x : Session) (e : Entry), Accepted s.toDevice 3 m x → s.entryFor x m false = .ok e →
    e.acc ≠ .wo → e.acc ≠ .x → e.type = .table →
    (let n := min (min m.nrows (s.odRows (copyPart e x.part) e - m.row)) ((payloadLimit m.iface - 12) / e.width)
     ∃ t b, exec (.read m) s = .next t ∧ t.pending = s.pending ∧ t.od = s.od ∧ t.mem = s.mem ∧ t.panes = s.panes ∧ t.parts = s.parts
       ∧ (e.index ≠ 0x1120 → b = (List.range n).flatMap (fun i => bytesOf (s.odRead (copyPart e x.part) e (m.row + i)) e.width))
       ∧ b.length = n * e.width ∧ Responds t.toDevice x m 3 stOk 0 (addressBytes m.index m.sub m.row n ++ b)))
  ∧ (∀ (m : TMsg) (s : State) (x : Session) (e : Entry), Accepted s.toDevice 4 m x → s.entryFor x m true = .ok e →
    e.acc ≠ .x → s.accessOf x e ≠ .ro → s.writeFenced x.part e = false → e.type ≠ .table →
    typeOk e m.value = true → s.entryOk (copyPart e x.part) e 0 (ofBytes m.value) = true →
    s.writeBusy (copyPart e x.part) e = false →
    ∃ t, exec (.write m) s = .next t ∧ t.pending = s.pending ∧ t.mem.bytes = s.mem.bytes ∧ t.panes = s.panes
      ∧ (e.index ≠ 0xA000 → t.parts = s.parts)
      ∧ (e.index = 0xB041 → t.mram.rackKey = ofBytes m.value ∧ t.od = s.od)
      ∧ (e.index ≠ 0xB041 → t.odStored (copyPart e x.part) e.index e.sub 0 = ofBytes m.value
          ∧ (∀ key, key ≠ odKey (copyPart e x.part) e.index e.sub 0 → key ≠ odKey 0 0x1101 0 0 →
              (e.index = 0x2011 → key ≠ odKey 0 0x2010 0 0) → SMap.find t.od key = SMap.find s.od key)
          ∧ (e.acc = .rwp → t.odGet 0 0x1101 0 = if x.iface = .host then 1 else 0)
          ∧ (e.index = 0x2011 → t.odGet 0 0x2010 0 = min (s.odGet 0 0x2010 0) (ofBytes m.value)))
      ∧ Responds t.toDevice x m 4 stOk 0 (ownAddress m))
  ∧ (∀ (m : TMsg) (s : State) (x : Session) (e : Entry), Accepted s.toDevice 4 m x → s.entryFor x m true = .ok e →
    e.acc ≠ .x → s.accessOf x e ≠ .ro → s.writeFenced x.part e = false → e.type = .table → e.index ≠ 0x4030 → m.nrows ≠ 0 →
    m.row + m.nrows ≤ s.odRows (copyPart e x.part) e → m.row + m.nrows ≤ 2 ^ 16 → m.value.length = m.nrows * e.width →
    (let value (i : Nat) : List Byte := (m.value.drop (i * e.width)).take e.width
     (∀ i, i < m.nrows → typeOk e (value i) = true ∧ s.entryOk (copyPart e x.part) e (m.row + i) (ofBytes (value i)) = true) →
     s.writeBusy (copyPart e x.part) e = false → (e.index = 0x6140 ∨ e.index = 0xB040 → m.row ≠ 0) →
     ∃ t, exec (.write m) s = .next t ∧ t.pending = s.pending ∧ t.mem = s.mem ∧ t.panes = s.panes ∧ t.parts = s.parts
       ∧ (∀ i, i < m.nrows → t.odStored (copyPart e x.part) e.index e.sub (m.row + i) = ofBytes (value i))
       ∧ (∀ key, (∀ i, i < m.nrows → key ≠ odKey (copyPart e x.part) e.index e.sub (m.row + i)) → key ≠ odKey 0 0x1101 0 0 →
           SMap.find t.od key = SMap.find s.od key)
       ∧ (e.acc = .rwp → t.odGet 0 0x1101 0 = if x.iface = .host then 1 else 0)
       ∧ Responds t.toDevice x m 4 stOk 0 (ownAddress m)))
  ∧ (∀ (m : TMsg) (s : State) (x : Session) (e : Entry), Accepted s.toDevice 4 m x → s.entryFor x m true = .ok e →
    s.accessOf x e ≠ .ro → e.index = 0x4030 → m.nrows = 1 → m.row < 4096 → m.value.length = 3 → s.anyPanes = false →
    ∃ t, exec (.write m) s = .next t ∧ t.pending = s.pending ∧ t.mem = s.mem ∧ t.panes = s.panes ∧ t.parts = s.parts ∧ t.od = s.od
      ∧ (∀ d, d < 24 → bit (t.routeRow m.row) d = if s.doorKind d = 1 then bit (ofBytes m.value) d else bit (s.routeRow m.row) d)
      ∧ (∀ chip, chip ≠ m.row → t.routeRow chip = s.routeRow chip) ∧ Responds t.toDevice x m 4 stOk 0 (ownAddress m))
  ∧ ∀ (m : TMsg) (s : State) (x : Session) (e : Entry), Accepted s.toDevice 4 m x → s.entryFor x m true = .ok e →
    e.acc ≠ .x → s.accessOf x e = .ro →
    ∃ t, exec (.write m) s = .next t ∧ t.pending = s.pending ∧ t.od = s.od ∧ Responds t.toDevice x m 4 stAccess 0 (ownAddress m)

/-- R344, R347, R349: DESCRIBE answers an entry's description and LIST the indices within reach; SUBSCRIBE replaces the session's
class mask; KEEPALIVE answers OK; CLOSE answers and ends the session.

R347, R349: an EVENT_ACK is done with every event up to its number; events unacknowledged for 100 ms are sent again; a session
silent for its idle time is closed with TIMEOUT, and a number whose second round is late is freed. -/
def Obligations.SessionRequests : Prop :=
  ((∀ (m : TMsg) (s : State) (x : Session) (e : Entry), Accepted s.toDevice 5 m x → s.entryFor x m false = .ok e → m.row = 0 →
    m.nrows = 0 → ∃ t, exec (.describe m) s = .next t ∧ t.pending = s.pending ∧ t.od = s.od
      ∧ Responds t.toDevice x m 5 stOk 0 (ownAddress m ++ s.describeBytes x e))
  ∧ (∀ (m : TMsg) (s : State) (x : Session), Accepted s.toDevice 6 m x → m.arsv = 0 →
    ∃ t, exec (.list m) s = .next t ∧ t.pending = s.pending ∧ t.od = s.od
      ∧ Responds t.toDevice x m 6 stOk (if 512 < (s.listed x m.index).length then 1 else 0)
          (((s.listed x m.index).take 512).flatMap (fun i => bytesOf i 2)))
  ∧ (∀ (m : TMsg) (s : State) (x : Session), Accepted s.toDevice 7 m x → m.value.length = 4 → ofBytes m.value < 2 ^ 16 →
    ∃ t y, exec (.subscribe m) s = .next t ∧ t.pending = s.pending ∧ t.od = s.od ∧ Responds t.toDevice x m 7 stOk 0 []
      ∧ t.session? m.session = some y ∧ y.mask = ofBytes m.value)
  ∧ (∀ (m : TMsg) (s : State) (x : Session), Accepted s.toDevice 8 m x →
    ∃ t, exec (.keepalive m) s = .next t ∧ t.pending = s.pending ∧ t.od = s.od ∧ Responds t.toDevice x m 8 stOk 0 [])
  ∧ ∀ (m : TMsg) (s : State) (x : Session), Accepted s.toDevice 2 m x →
    ∃ t, exec (.close m) s = .next t ∧ t.pending = s.pending ∧ t.od = s.od ∧ t.session? m.session = none
      ∧ Emission.response x.iface m.session 0x82 m.seq stOk 0 [] ∈ t.sent ∧ ∀ k, k ≠ m.session → t.session? k = s.session? k)
  ∧ ((∀ (m : TMsg) (s : State) (x : Session), s.session? m.session = some x → s.carries m.iface = true → headerOk 0x11 m x = true →
    m.rsv = 0 → x.waiting = [] → x.dropped = 0 →
    ∃ t, exec (.eventAck m) s = .next t ∧ t.pending = s.pending ∧ t.od = s.od ∧ t.sent = s.sent
      ∧ t.session? m.session = some { x with lastMsg := s.now, unacked := x.unacked.filter (fun e => decide (m.seq < e.1)) })
  ∧ (∀ (session : Nat) (s : State) (x : Session), s.session? session = some x →
    ∃ t y, exec (.eventResend session) s = .next t ∧ t.pending = s.pending ∧ t.od = s.od
      ∧ t.sent = s.sent ++ (x.unacked.filter (fun e => decide (e.2.2 + 100000000 ≤ s.now))).map
          (fun e => Emission.event session e.1 e.2.1)
      ∧ t.session? session = some y ∧ y.unacked.map (fun e => (e.1, e.2.1)) = x.unacked.map (fun e => (e.1, e.2.1)))
  ∧ ∀ (session : Nat) (s : State) (x : Session), s.session? session = some x →
    (x.opened = true → x.busy = none → x.lastMsg + 1000000 * s.odGet 0 0x1121 0 ≤ s.now →
      ∃ t, exec (.sessionIdleTimeout session) s = .next t ∧ t.pending = s.pending ∧ t.session? session = none
        ∧ Emission.close x.iface session stTimeout ∈ t.sent)
    ∧ (x.opened = false → x.asked + 1000000000 < s.now →
      ∃ t, exec (.sessionIdleTimeout session) s = .next t ∧ t.pending = s.pending ∧ t.session? session = none ∧ t.sent = s.sent))

/-- R345, R443, R444: the first round of an OPEN reserves a session number and answers with the FZ9's random number, its ciphertext
and its signature; the second opens the session if the client's proof and key hold, and frees the number otherwise. A sideband
OPEN opens at once, for reading only while the rack key is unset. -/
def Obligations.Opens : Prop :=
  (∀ (m : Open1) (s : State) (id : Nat), s.carries .host = true → m.rsv = 0 → m.part < 32 → s.boot.random = true →
    s.freshSession m.part .host = some id →
    ∃ t x b, exec (.openRound1 m) s = .next t ∧ t.pending = s.pending ∧ t.od = s.od ∧ s.session? id = none
      ∧ t.session? id = some x ∧ x.opened = false ∧ x.part = m.part ∧ x.iface = .host ∧ x.asked = s.now
      ∧ x.digest = Config.sha3 m.key ∧ t.sent = s.sent ++ [.response .host id 0x81 0 stOk 0 b] ∧ b.length = 6232
      ∧ ∀ k, k ≠ id → t.session? k = s.session? k)
  ∧ (∀ (m : Open2) (s : State) (x : Session), s.carries .host = true → s.session? m.session = some x → x.opened = false →
    m.rsv = 0 →
    (let good := m.sigOk = true ∧ s.keyOpens x = true ∧ m.tagOk = true ∧ s.now ≤ x.asked + 1000000000
     ∃ t, exec (.openRound2 m) s = .next t ∧ t.pending = s.pending ∧ t.od = s.od
       ∧ (good → t.session? m.session = some { x with opened := true, lastMsg := s.now }
           ∧ t.sent = s.sent ++ [.response .host m.session 0x81 0 stOk 0 []])
       ∧ (¬good → t.session? m.session = none ∧ t.sent = s.sent ++ [.response .host m.session 0x81 0 stAccess 0 []])))
  ∧ ∀ (nonce : Nat) (s : State) (id : Nat), s.carries .sideband = true → s.boot.random = true →
    s.freshSession 0 .sideband = some id →
    ∃ t x b, exec (.sidebandOpen 0 nonce 0) s = .next t ∧ t.pending = s.pending ∧ t.od = s.od ∧ t.session? id = some x
      ∧ x.opened = true ∧ x.part = 0 ∧ x.iface = .sideband ∧ x.readOnly = (s.mram.rackKey == 0)
      ∧ t.sent = s.sent ++ [.response .sideband id 0x81 0 stOk 0 b] ∧ b.length = 32

/-- R336–R341, R439, R455: COMMIT stores the persistent values; RESTORE_DEFAULTS puts every persistent value at its default while no
partition holds a pane; SEAL sets the seal for good; CLAIM sets the owner of an unclaimed module; ALERT_CLEAR clears the
event-raised alerts, and COUNTER_CLEAR the counters of the partition's panes. -/
def Obligations.DeviceActions : Prop :=
  ∀ (m : TMsg) (s : State) (x : Session) (e : Entry), Acts s.toDevice m x e →
    (m.index = 0x1100 → ActionGives (.commit m) s m x e stOk (fun t =>
      t.mram = { s.mram with committed := some (s.od.filter (fun kv => persists kv.1)) } ∧ t.odGet 0 0x1101 0 = 0
        ∧ ∀ key, key ≠ odKey 0 0x1101 0 0 → SMap.find t.od key = SMap.find s.od key))
    ∧ (m.index = 0x1102 → s.anyPanes = false → ActionGives (.restoreDefaults m) s m x e stOk (fun t =>
        (∀ key, (entryOfKey key).any (fun e => e.acc == .rwp) = true → SMap.find t.od key = none)
          ∧ t.mram.sealed = s.mram.sealed ∧ t.mram.owner = s.mram.owner ∧ t.mem = s.mem ∧ t.panes = s.panes))
    ∧ (m.index = 0x1102 → s.anyPanes = true → ActionGives (.restoreDefaults m) s m x e stResource (fun t =>
        t.od = s.od ∧ t.mram = s.mram))
    ∧ (m.index = 0x1103 → ofBytes m.value = 0x5EA1 → ActionGives (.seal m) s m x e stOk (fun t =>
        t.mram.sealed = true ∧ t.mram.owner = s.mram.owner ∧ t.mram.fuseFloor = s.mram.fuseFloor))
    ∧ (m.index = 0xB021 → (m.value.drop 7219).any (· != 0) = false →
        (s.mram.owner = [] → ActionGives (.claim m true) s m x e stOk (fun t =>
          t.mram.owner = m.value.take 2592 ∧ t.mram.sealed = s.mram.sealed))
        ∧ (∀ ok, s.mram.owner ≠ [] ∨ ok = false → ActionGives (.claim m ok) s m x e stAccess (fun t => t.mram = s.mram)))
    ∧ (m.index = 0xB001 → s.ready = true → ActionGives (.attestationChallenge m) s m x e stOk (fun t =>
        t.boot.nonce = ofBytes m.value ∧ t.mram = s.mram
          ∧ t.boot.report = ofBytes (s.reportHead (ofBytes m.value)
              ++ bytesOf (Config.sign s.aliasSeed (s.reportHead (ofBytes m.value))) 4627)))
    ∧ (m.index = 0x8051 → ActionGives (.alertClear m) s m x e stOk (fun t =>
        t.transom.alerts = false ∧ t.transom.log = s.transom.log ∧ t.od = s.od))
    ∧ (m.index = 0xC001 → ActionGives (.counterClear m) s m x e stOk (fun t =>
        (∀ a ∈ (s.part x.part).panes, t.pane a = { s.pane a with perf := {} })
          ∧ (∀ a, a ∉ (s.part x.part).panes → t.pane a = s.pane a) ∧ t.mem = s.mem))
    ∧ (m.index = 0x6132 → ofBytes m.value < 8 → (s.pool? x.part (ofBytes m.value)).isSome = true →
        ActionGives (.orderReset m) s m x e stOk (fun t =>
          t.mem.bytes = s.mem.bytes ∧ (∀ r, rangeOfPool x.part (ofBytes m.value) r = true → t.nextOf r = 0)
            ∧ (∀ r, rangeOfPool x.part (ofBytes m.value) r = false → t.nextOf r = s.nextOf r)
            ∧ ∀ q, q ∈ t.mem.held ↔ q ∈ s.mem.held ∧ ¬(q.part = x.part ∧ q.pool = ofBytes m.value)))

/-- R455: ALERT_N is low exactly while a DEV event of SEV at least OD 0x8050 has been raised and not cleared, a sash is tripped or
shuttered by heat, or OD 0x1010 reads FAULT; it is released while PWRGD or RESET_N is low. A write of OD 0x8051 clears the first
condition alone, and OD 0x8052 reports which hold. -/
def Obligations.AlertLine : Prop :=
  (∀ s : Device, s.boot.pwrgd = true → s.boot.resetLow = false →
    (s.alertLow = true ↔ s.transom.alerts = true ∨ s.power.sash0.tripped = true ∨ s.power.sash1.tripped = true
      ∨ s.power.thermalShutter = true ∨ s.boot.state = 4))
  ∧ (∀ s : Device, s.boot.pwrgd = false ∨ s.boot.resetLow = true → s.alertLow = false)
  ∧ (∀ (s : Device) (code sev : Nat) (params : List (Nat × Nat)), (s.raiseDev code sev params).transom.alerts =
      (s.transom.alerts || decide (s.odGet 0 0x8050 0 ≤ sev)))
  ∧ (∀ (m : TMsg) (s : State) (x : Session) (e : Entry), Acts s.toDevice m x e → m.index = 0x8051 →
      ActionGives (.alertClear m) s m x e stOk (fun t => t.transom.alerts = false ∧ t.power = s.power ∧ t.boot = s.boot))
  ∧ ∀ (s : Device) (part : Nat) (e : Entry), odEntry 0x8052 0 = some e →
      bit (s.odRead part e 0) 0 = s.transom.alerts
      ∧ (bit (s.odRead part e 0) 1 = true ↔ s.power.sash0.tripped = true ∨ s.power.sash1.tripped = true ∨ s.power.thermalShutter = true)
      ∧ (bit (s.odRead part e 0) 2 = true ↔ s.boot.state = 4)

/-! ## Waits, cohorts and queues (R36, R43–R67, R87, R220, R281–R287) -/

/-- R36, R87, R197, R220: a path whose counter has reached its target goes on past wait.ctr with the counter's status in SD and an
empty pane cache; one whose timer runs out first goes on with TIMEOUT and its cache as it is. A queue's WAIT ends alike. -/
def Obligations.WaitsEnd : Prop :=
  (∀ (pane slot lane word : Nat) (s : State) (w : PathWait), s.pathWait pane slot lane = some w → s.paneRuns pane = true →
    w.g.stopped = false → s.counterWord w.part w.c (sashOf pane) = (some word, false) → w.target ≤ word % 2 ^ 32 →
    Makes (.waitWake (.path pane slot lane)) s (fun t => t.mem.bytes = s.mem.bytes ∧ (t.pane pane).cache = []
      ∧ Waiter.path pane slot lane ∉ t.mem.regs ∧ ∃ g, t.group? pane slot = some g ∧ g.vregs = w.g.vregs ∧ g.preds = w.g.preds
        ∧ (∀ n, g.s n = if n = w.sd then BitVec.ofNat 32 (fld word 32 8) else w.g.s n)
        ∧ ∀ l, w.p.mask.getLsbD l = true → g.stands l (w.p.pc + 8)))
  ∧ (∀ (pane slot lane : Nat) (s : State) (w : PathWait), s.pathWait pane slot lane = some w → s.paneRuns pane = true →
    w.g.stopped = false → w.deadline ≤ s.now →
    Makes (.waitTimeout (.path pane slot lane)) s (fun t => t.mem.bytes = s.mem.bytes ∧ (t.pane pane).cache = (s.pane pane).cache
      ∧ Waiter.path pane slot lane ∉ t.mem.regs ∧ ∃ g, t.group? pane slot = some g ∧ g.vregs = w.g.vregs ∧ g.preds = w.g.preds
        ∧ (∀ n, g.s n = if n = w.sd then BitVec.ofNat 32 stTimeout else w.g.s n)
        ∧ ∀ l, w.p.mask.getLsbD l = true → g.stands l (w.p.pc + 8)))
  ∧ ∀ (part queue : Nat) (s : State) (q : Queue) (r : Running), s.queue? part queue = some q → q.dying = none →
    q.running.find? (·.opc == 2) = some r →
    (∀ word, s.counterWord part { memory := true, pane := 0, addr := r.wctr } 0 = (some word, false) → r.value ≤ word % 2 ^ 32 →
      Makes (.waitWake (.queue part queue)) s (fun t => Waiter.queue part queue ∉ t.mem.regs
        ∧ ∃ q', t.queue? part queue = some q' ∧ q'.running = q.running.filter (·.n != r.n)
          ∧ q'.total = min (q.total + 1) (2 ^ 64 - 1)))
    ∧ (r.deadline ≤ s.now →
      Makes (.waitTimeout (.queue part queue)) s (fun t => Waiter.queue part queue ∉ t.mem.regs
        ∧ ∃ q', t.queue? part queue = some q' ∧ q'.running = q.running.filter (·.n != r.n)
          ∧ q'.total = min (q.total + 1) (2 ^ 64 - 1)))

/-- R44–R46, R66, R67: the scheduler places a cohort whole on a pane that holds it, its groups with their start registers; a
barrier past its time stops the cohort with TIMEOUT and a record for each group with absent threads; a cohort that is done
leaves its pane and is counted by its launch, and a launch whose cohorts have ended leaves the table. -/
def Obligations.CohortsRun : Prop :=
  (∀ (part prio qi li a page : Nat) (s : State) (q : Queue) (l : Launch) (rest : List (Nat × Launch)),
    (s.part part).fence = .none → (s.part part).state = .active → prio < 4 →
    (∀ k, prio < k → k < 4 → (s.part part).turnQueue k = none) → (s.part part).turnQueue prio = some (qi, q, false) →
    (s.part part).unplaced qi = (li, l) :: rest →
    (placeOrder (s.usablePanes part l.psel) l.last).head? = some a → (s.pane a).reserved = none →
    s.holds a part li l = some page →
    Makes (.cohortPlace part) s (fun t => t.mem = s.mem ∧ t.nextCohort = s.nextCohort + 1
      ∧ (∃ c, t.cohort? s.nextCohort = some c ∧ c.part = part ∧ c.launch = li ∧ c.index = l.next ∧ c.pane = a
          ∧ c.lsBase = page * 4096 ∧ c.lsPages = l.lsc ∧ c.fault = none)
      ∧ (∀ k, k < l.gpc → ∃ slot g, s.group? a slot = none ∧ t.group? a slot = some g ∧ g.cohort = s.nextCohort ∧ g.gic = k
          ∧ g.width = l.width ∧ g.paths = [{ mask := widthMask l.width, pc := l.entry }] ∧ g.s 0 = BitVec.ofNat 32 l.next
          ∧ g.s 2 = BitVec.ofNat 32 k ∧ g.s 4 = BitVec.ofNat 32 a
          ∧ ∀ lane, lane < l.width → g.v lane 0 = BitVec.ofNat 32 (k * l.width + lane))
      ∧ ∀ b, b ≠ a → (t.pane b).groups = (s.pane b).groups))
  ∧ (∀ (cohort bar t0 : Nat) (s : State) (c : Cohort), s.cohort? cohort = some c → SMap.find c.barStart bar = some t0 →
    c.fault = none → t0 + 1000 * s.odGet c.part 0x6110 0 ≤ s.now →
    Makes (.barrierTimeout cohort bar) s (fun t => t.mem = s.mem ∧ ∃ k rs, t.cohort? cohort = some k ∧ k.fault = some stTimeout
      ∧ k.records = c.records ++ rs ∧ (∀ r ∈ rs, r.code = 0x30 ∧ r.bar = bar ∧ r.lanes ≠ 0)
      ∧ (∀ sl g, s.group? c.pane sl = some g → g.cohort = cohort → g.live &&& ~~~(g.waitingAt bar) ≠ 0 →
          (∀ r ∈ c.records, r.gic ≠ g.gic) → ∃ r ∈ rs, r.slot = sl ∧ r.gic = g.gic ∧ r.lanes = g.live &&& ~~~(g.waitingAt bar))
      ∧ ∀ sl g, t.group? c.pane sl = some g → g.cohort = cohort → g.stopped = true))
  ∧ (∀ (cohort : Nat) (s : State) (c : Cohort) (l : Launch), s.cohort? cohort = some c → s.cohortDone cohort c = true →
    (c.fault = none → s.paneState c.pane ≠ .migrating) → s.launch? c.part c.launch = some l →
    Makes (.cohortEnd cohort) s (fun t => t.cohort? cohort = none
      ∧ (∀ sl g, t.group? c.pane sl = some g → g.cohort ≠ cohort)
      ∧ ∃ k, t.launch? c.part c.launch = some k ∧ k.ended = l.ended + 1 ∧ k.faults = l.faults + c.records.length
        ∧ k.status = if l.status = stOk then c.fault.getD stOk else l.status))
  ∧ ∀ (part li : Nat) (s : State) (l : Launch) (q : Queue) (r : Running), s.launch? part li = some l → l.ended = l.cohorts →
    s.queue? part l.queue = some q → q.dying = none → q.running.find? (·.launch == some li) = some r →
    Makes (.launchComplete part li) s (fun t => t.launch? part li = none ∧ ∃ q', t.queue? part l.queue = some q'
      ∧ q'.running = q.running.filter (·.n != r.n) ∧ q'.total = min (q.total + 1) (2 ^ 64 - 1))

/-- R282, R283: TAIL is accepted when it is ahead of TAIL and at most the ring ahead of HEAD, and otherwise the queue goes to ERROR;
RESUME makes a HALTED queue ACTIVE and is counted on any other; FHEAD is taken. -/
def Obligations.Doorbells : Prop :=
  ∀ (part queue value : Nat) (s : State) (q : Queue), s.queue? part queue = some q →
    (let v := value % 2 ^ 32
     let ok := (v + 2 ^ 32 - q.head) % 2 ^ 32 ≤ 2 ^ q.logsz ∧ (v + 2 ^ 32 - q.tail) % 2 ^ 32 < 2 ^ 31
     (ok → Makes (.doorbellTailWrite part queue value) s (fun t => t.queue? part queue = some { q with tail := v }
       ∧ t.mem = s.mem ∧ t.transom = s.transom))
     ∧ (¬ok → q.state ≠ .error → Makes (.doorbellTailWrite part queue value) s (fun t =>
         t.queue? part queue = some { q with state := .error } ∧ t.mem = s.mem
           ∧ eventBody 0x6001 2 part s.now [(queue, 2), (q.tail, 4), (stMalformed, 1)] ∈ (t.part part).events))
     ∧ Makes (.doorbellResume part queue) s (fun t => t.mem = s.mem ∧ t.queue? part queue = some
         (if q.state = .halted then { q with state := .active } else { q with ignored := satAdd q.ignored 1 }))
     ∧ Makes (.doorbellFheadWrite part queue value) s (fun t => t.mem = s.mem
         ∧ t.queue? part queue = some { q with fhead := v }))

/-- R57, R59, R145, R284–R286: a NOP only completes; a LAUNCH whose checks pass puts its kernel in the launch table with what it
captures, and runs; a WAIT below its count runs until its counter or its deadline comes. -/
def Obligations.Descriptors : Prop :=
  ∀ (part queue d : Nat) (s : State) (q : Queue), Starts s.toDevice part queue q d → Memory.wf s.mem = true → (∀ key, s.mem.agrees key) →
    (fld d 0 8 = 0 → Makes (.descNop part queue) s (fun t => ∃ q', t.queue? part queue = some q'
      ∧ q'.started = (q.started + 1) % 2 ^ 32 ∧ q'.running = q.running ∧ q'.total = min (q.total + 1) (2 ^ 64 - 1)))
    ∧ (∀ h ab, fld d 0 8 = 1 → (s.part part).launches.length < 256 → fld d 185 7 = 0 → fld d 249 7 = 0 → fld d 292 220 = 0 →
        fld d 128 57 % 64 = 0 → fld d 256 32 ≠ 0 → s.readVa part (fld d 128 57) 64 = .ok h → kernelOk (ofBytes h) = true →
        (fld (ofBytes h) 100 6 ≠ 0 → fld d 192 57 % 4 = 0
          ∧ s.readVa part (fld d 192 57) (4 * fld (ofBytes h) 100 6) = .ok ab) → (fld (ofBytes h) 100 6 = 0 → ab = []) →
        (let k := ofBytes h
         occupancy (fld k 72 5) (widthOf (fld k 70 2)) (fld k 64 6) (fld k 80 10) (fld k 96 4) ≠ 0 →
         s.usablePanes part (fld d 288 4) ≠ [] →
         Makes (.descLaunch part queue) s (fun t => t.mem.bytes = s.mem.bytes ∧ (t.part part).nextId = (s.part part).nextId + 1
           ∧ ∃ l, t.launch? part (s.part part).nextId = some l ∧ l.queue = queue ∧ l.n = q.started ∧ l.entry = fld k 0 57
             ∧ l.codelen = fld k 128 32 ∧ l.width = widthOf (fld k 70 2) ∧ l.gpc = fld k 72 5 ∧ l.lsc = fld k 80 10
             ∧ l.split = fld k 96 4 ∧ l.args = wordsOf (fld k 100 6) ab ∧ l.cohorts = fld d 256 32 ∧ l.next = 0 ∧ l.ended = 0
             ∧ l.profile = (if fld k 112 8 = 0 then s.odGet part 0x7000 1 else fld k 112 8)
             ∧ l.seed = s.odGet part 0x7000 3)))
    ∧ (∀ word, fld d 0 8 = 2 → fld d 185 7 = 0 → fld d 228 284 = 0 → fld d 128 57 % 8 = 0 →
        s.counterWord part { memory := true, pane := 0, addr := fld d 128 57 } 0 = (some word, false) →
        word % 2 ^ 32 < fld d 192 32 →
        Makes (.descWait part queue) s (fun t => t.mem.bytes = s.mem.bytes ∧ ∃ q' r, t.queue? part queue = some q'
          ∧ q'.started = (q.started + 1) % 2 ^ 32 ∧ q'.running = q.running ++ [r] ∧ r.opc = 2 ∧ r.wctr = fld d 128 57
          ∧ r.value = fld d 192 32 ∧ r.deadline = s.now + s.timeoutOf part (fld d 224 4)))

/-! ## Partitions, pools and mappings (R153, R154, R270–R280) -/

/-- R46, R271–R273: PARTITION_CREATE whose descriptor passes makes an active partition with cleared panes and step count 0;
PARTITION_RESIZE takes the descriptor, at once or once its removed panes are empty, and until then its panes alone; PARTITION_DESTROY
fences the partition first, once a context reset of it that runs has ended. -/
def Obligations.PartitionCommands : Prop :=
  ∀ (m : TMsg) (s : State) (x : Session) (e : Entry), Acts s.toDevice m x e →
    (let d := ofBytes m.value
     (m.index = 0x6002 → descOk d = true → descPart d ≠ 0 → (s.part (descPart d)).state = .absent →
       (∀ y ∈ s.others (descPart d), y.job ≠ descJob d) → s.descShort d = false → s.boot.random = true →
       ActionGives (.partitionCreate m) s m x e stOk (fun t =>
         (t.part (descPart d)).state = .active ∧ (t.part (descPart d)).desc = d ∧ (t.part (descPart d)).pools = []
           ∧ (t.part (descPart d)).queues = [] ∧ t.odGet (descPart d) 0x4081 0 = 0 ∧ t.mem = s.mem
           ∧ (∀ a ∈ descPanes d, (t.pane a).ls = [] ∧ (t.pane a).groups = [] ∧ (t.pane a).acc = [])
           ∧ ∀ a, a ∉ descPanes d → t.pane a = s.pane a))
     ∧ (m.index = 0x6003 → descOk d = true → (s.part (descPart d)).state = .active →
         (∀ y ∈ s.others (descPart d), y.job ≠ descJob d) → descJob d = descJob (s.part (descPart d)).desc →
         descFast d = descFast (s.part (descPart d)).desc → descQueues d = descQueues (s.part (descPart d)).desc →
         descQps d = descQps (s.part (descPart d)).desc → s.descShort d = false →
         (s.part (descPart d)).consumed ≤ descQuota d * 2 ^ 30 →
         ((∀ kv ∈ s.cohorts, kv.2.part = descPart d → kv.2.pane < 320 ∧ bit d (192 + kv.2.pane) = true) →
           ActionGives (.partitionResize m) s m x e stOk (fun t =>
             (t.part (descPart d)).state = .active ∧ (t.part (descPart d)).desc = d ∧ t.mem = s.mem))
         ∧ ((∃ kv ∈ s.cohorts, kv.2.part = descPart d ∧ bit d (192 + kv.2.pane) = false) →
           Makes (.partitionResize m) s (fun t => (t.part (descPart d)).state = .resizing
             ∧ (t.part (descPart d)).resizeTo = some d ∧ (t.part (descPart d)).desc % 2 ^ 192 = (s.part (descPart d)).desc % 2 ^ 192
             ∧ (∀ a, (t.part (descPart d)).hasPane a = (decide (a < 320) && bit d (192 + a)))
             ∧ (t.part (descPart d)).resizeMsg = some m ∧ t.mem = s.mem ∧ t.cohorts = s.cohorts)))
     ∧ (m.index = 0x6004 → d ≠ 0 → (s.part d).state = .active → (s.part d).fence = .none →
         (s.resetting d = false → Makes (.partitionDestroy m) s (fun t => (t.part d).state = .destroying
           ∧ (t.part d).destroyMsg = some m ∧ (t.part d).fence = .draining s.now ∧ ∀ kv ∈ t.cohorts, kv.2.part ≠ d))
         ∧ (s.resetting d = true → Makes (.partitionDestroy m) s (fun t => (t.part d).state = .destroying
           ∧ (t.part d).destroyMsg = some m ∧ ∃ y ∈ t.boot.stages, y.stage = 1 ∧ y.target = d ∧ y.fence.isSome = true))))
  ∧ ∀ (part : Nat) (s : State) (m : TMsg), (s.part part).resizeMsg = some m → (s.part part).state = .resizing →
    s.leftPanes part = true →
    Makes (.resizeDone part) s (fun t => (t.part part).state = .active ∧ (t.part part).resizeMsg = none ∧ t.mem = s.mem
      ∧ ∀ d, (s.part part).resizeTo = some d → (t.part part).desc = d)

/-- R153, R275, R280: POOL_CREATE whose checks pass makes a pool that is being zeroed; once zeroed it is ready and every byte of it
reads zero; POOL_RELEASE takes it away with every mapping of it.

R154, R280: MAP whose checks pass maps its run of pages to the pool it names; UNMAP takes the run away and leaves every other
page as it was. -/
def Obligations.PoolsAndMappings : Prop :=
  ((∀ (via : CmdPath) (part d : Nat) (s : State), Manages s.toDevice 0x10 via part d →
    (let set := fld d 132 20
     let shared := bit d 152
     let mirror := if fld d 153 2 = 0 then shared else fld d 153 2 == 1
     let p : Pool := { set, size := fld d 160 32 * 2 ^ 21, mirror, shared, readers := fld d 192 32, state := .zeroing, via := some via }
     bodyClear d [(128, 3), (132, 20), (152, 1), (153, 2), (160, 32), (192, 32)] = true → fld d 153 2 ≠ 3 →
     (stacksOf set).length ≠ 0 → fld d 160 32 ≠ 0 → fld d 160 32 % (stacksOf set).length = 0 →
     (shared = true ∨ fld d 192 32 = 0) → s.pool? part (fld d 128 3) = none → (mirror = true → mirrorOk set = true) →
     (s.part part).consumed + p.size * (if mirror then 2 else 1) ≤ fld (s.part part).desc 64 16 * 2 ^ 30 →
     (s.slabFor p).isSome = true →
     Makes (.poolCreate via) s (fun t => ∃ q, t.pool? part (fld d 128 3) = some q ∧ q.state = .zeroing ∧ q.size = p.size
       ∧ q.set = set ∧ q.mirror = mirror ∧ q.shared = shared ∧ q.readers = p.readers ∧ some q.slab = s.slabFor p)))
  ∧ (∀ (part pool : Nat) (s : State) (p : Pool), s.pool? part pool = some p → p.state = .zeroing →
    Makes (.poolZeroed part pool) s (fun t => (∃ q, t.pool? part pool = some q ∧ q.state = .ready ∧ q.size = p.size)
      ∧ ((∀ a b, p.via ≠ some (.queue a b)) → (∀ c o, c < 2 → o < 2 ^ 43 →
          t.byteAt part pool c o = 0 ∧ t.mem.marked (sectorKey part pool c o) = false)
        ∧ ∀ k, keyOfPool part pool k = false → SMap.get t.mem.bytes k 0 = SMap.get s.mem.bytes k 0)))
  ∧ ∀ (via : CmdPath) (part d : Nat) (s : State), Manages s.toDevice 0x11 via part d → bodyClear d [(128, 3)] = true →
    (s.pool? part (fld d 128 3)).isSome = true →
    (∀ m ∈ (s.part part).maps, m.kind = 0 → m.owner = part → m.pool = fld d 128 3 → (s.part part).pinned.any m.meets = false) →
    ((s.part part).snap.armed.any (fun h => h.pools.any (fun p => p.1 == fld d 128 3)) = false) →
    Makes (.poolRelease via) s (fun t => t.pool? part (fld d 128 3) = none
      ∧ ∀ k m, m ∈ (t.part k).maps → ¬(m.kind = 0 ∧ m.owner = part ∧ m.pool = fld d 128 3)))
  ∧ ((∀ (via : CmdPath) (part d : Nat) (s : State), Manages s.toDevice 0x12 via part d →
    (let size := pageSize (fld d 185 2)
     let va := fld d 128 57
     let count := fld d 288 32
     let kind := fld d 189 2
     let poff := if kind = 0 then fld d 256 32 * 65536 else 0
     let m : Mapping := { va, psz := size, count, write := bit d 187, view := fld d 188 1, kind, owner := fld d 195 5,
                          pool := fld d 192 3, poff, queue := fld d 200 14 }
     bodyClear d [(128, 57), (185, 2), (187, 1), (188, 1), (189, 2), (192, 3), (195, 5), (200, 14), (256, 32), (288, 32)] = true →
     fld d 185 2 ≠ 3 → kind < 2 → count ≠ 0 → va % size = 0 → va + count * size ≤ 2 ^ 48 →
     fld d 256 32 * 65536 % size = 0 → (s.part part).anyMapped va (count * size) = false →
     (kind = 0 → s.mapStatus part m = stOk) → s.tableRoom count = true →
     (kind = 1 → fld d 185 2 = 0 ∧ count = 1 ∧ bit d 187 = true ∧ fld d 188 1 = 0 ∧ (s.queue? part (fld d 200 14)).isSome = true) →
     Makes (.map via) s (fun t => (t.part part).maps = (s.part part).maps ++ [m] ∧ (∀ a, va ≤ a → a < va + count * size →
         (t.part part).mapsTo a = some (kind, fld d 195 5, fld d 192 3, poff + (a - va), bit d 187))
       ∧ ∀ a, a < va ∨ va + count * size ≤ a → (t.part part).mapsTo a = (s.part part).mapsTo a)))
  ∧ ∀ (via : CmdPath) (part d : Nat) (s : State), Manages s.toDevice 0x13 via part d →
    (let x := s.part part
     let size := pageSize (fld d 185 2)
     let va := fld d 128 57
     let len := fld d 288 32 * size
     bodyClear d [(128, 57), (185, 2), (288, 32)] = true → fld d 185 2 ≠ 3 → len ≠ 0 → va % size = 0 → va + len ≤ 2 ^ 48 →
     total ((x.maps.filter (fun m => m.meets (va, len))).map (fun m => min (m.va + m.psz * m.count) (va + len) - Nat.max m.va va)) = len →
     (∀ m ∈ x.maps, m.meets (va, len) = true → m.psz = size ∧ m.kind ≠ 2 ∧ m.va % size = 0) →
     x.pinned.any (fun r => decide (va < r.1 + r.2 ∧ r.1 < va + len)) = false →
     Makes (.unmap via) s (fun t => ∀ a, (t.part part).mapsTo a = if va ≤ a ∧ a < va + len then none else x.mapsTo a)))

/-- R280: QUEUE_CREATE whose checks pass makes an active queue with everything at zero; QUEUE_DESTROY of an idle queue takes it
away with its doorbell page, and one with launches under way goes once they have ended.

R234, R235, R238: SHARD_REGISTER whose descriptor passes registers the shard; SHARD_DEREGISTER takes a shard away
at once, or at the end of a step that is in progress. -/
def Obligations.QueuesAndShards : Prop :=
  ((∀ (via : CmdPath) (part d : Nat) (s : State), Manages s.toDevice 0x14 via part d →
    (let qi := fld d 128 14
     let logsz := fld d 145 5
     let flogsz := fld d 150 4
     bodyClear d [(128, 14), (142, 2), (144, 1), (145, 5), (150, 4), (160, 8), (192, 57), (256, 57), (320, 57)] = true →
     6 ≤ logsz → logsz ≤ 20 → 4 ≤ flogsz → flogsz ≤ 12 → fld d 160 8 ≠ 0 → fld d 192 57 % 64 = 0 → fld d 256 57 % 16 = 0 →
     fld d 320 57 % 64 = 0 → fld d 192 57 + 64 * 2 ^ logsz ≤ 2 ^ 48 → fld d 256 57 + 16 * 2 ^ logsz ≤ 2 ^ 48 →
     fld d 320 57 + 64 * 2 ^ flogsz ≤ 2 ^ 48 → qi < fld (s.part part).desc 32 16 → s.queue? part qi = none →
     s.mappedWith part (fld d 192 57) (64 * 2 ^ logsz) .read = stOk → s.mappedWith part (fld d 256 57) (16 * 2 ^ logsz) .write = stOk →
     s.mappedWith part (fld d 320 57) (64 * 2 ^ flogsz) .write = stOk →
     Makes (.queueCreate via) s (fun t => ∃ q, t.queue? part qi = some q ∧ q.prio = fld d 142 2 ∧ q.admin = bit d 144
       ∧ q.logsz = logsz ∧ q.weight = fld d 160 8 ∧ q.ring = fld d 192 57 ∧ q.cq = fld d 256 57 ∧ q.fring = fld d 320 57
       ∧ q.head = 0 ∧ q.tail = 0 ∧ q.started = 0 ∧ q.running = [] ∧ q.state = .active)))
  ∧ ∀ (via : CmdPath) (part d : Nat) (s : State) (q : Queue), Manages s.toDevice 0x15 via part d → bodyClear d [(128, 14)] = true →
    s.queue? part (fld d 128 14) = some q → via ≠ .queue part (fld d 128 14) →
    (q.running = [] → Makes (.queueDestroy via) s (fun t => t.queue? part (fld d 128 14) = none
      ∧ ∀ m ∈ (t.part part).maps, ¬(m.kind = 1 ∧ m.queue = fld d 128 14)))
    ∧ (q.running ≠ [] → (∀ r ∈ q.running, r.opc = 1) → Makes (.queueDestroy via) s (fun t => ∃ q', t.queue? part (fld d 128 14) = some q'
      ∧ q'.dying = some via ∧ q'.started = q.tail ∧ q'.running = q.running)))
  ∧ ((∀ (via : CmdPath) (part d : Nat) (s : State) (b : List Byte), Manages s.toDevice 0x16 via part d → bodyClear d [(128, 57)] = true →
    Memory.wf s.mem = true → (∀ key, s.mem.agrees key) → fld d 128 57 % 64 = 0 → s.readVa part (fld d 128 57) 64 = .ok b → (s.tryShard part (ofBytes b)).2 = stOk →
    Makes (.shardRegister via) s (fun t => ∃ k, SMap.find (t.part part).shards (shardBase (ofBytes b)) = some k
      ∧ k.desc = ofBytes b ∧ k.causeE = 0 ∧ k.causeO = 0 ∧ k.leaving = none))
  ∧ ∀ (via : CmdPath) (part d : Nat) (s : State) (k : Shard), Manages s.toDevice 0x17 via part d → bodyClear d [(128, 57)] = true →
    SMap.find (s.part part).shards (fld d 128 57) = some k → k.leaving = none →
    ((s.part part).step.inProgress = false → Makes (.shardDeregister via) s (fun t =>
      SMap.find (t.part part).shards (fld d 128 57) = none))
    ∧ ((s.part part).step.inProgress = true → Makes (.shardDeregister via) s (fun t =>
      SMap.find (t.part part).shards (fld d 128 57) = some { k with
        leaving := some via
        leaveAt := s.odGet part 0x7110 4 + if (s.part part).step.first = none ∧ (s.part part).step.doneSent = false then 1 else 0 })))

/-! ## Detection and in-field tests (R26, R117, R118, R353–R378) -/

/-- R26, R117, R118, R353, R357, R365: a tile of a cube step or a vector result that passes its check leaves everything but the wait
for its verdict. A tile that fails stops the cohorts that read it; its steps are repeated, and their row is tested once the
repeat passes, or retired when the repeat names it again. A vector result that fails stops its cohort and its pane is tested. A
handshake fault tests its row, withdraws its pane, or resets its domain, and stops the device at FAULT when it recurs; a handshake under a
hold token is not stalled, and one without is past the stall limit. -/
def Obligations.Detections : Prop :=
  (∀ (pane tile : Nat) (sums accs rounds : List StepFault) (s : State) (u : CubeStep) (later : List CubeStep) (rest : List (Nat × List Nat)),
    (s.pane pane).steps = u :: later → u.out = (tile, []) :: rest →
    (rest ≠ [] → Gives (.cubeStepVerdict pane sums accs rounds) s
      (s.setPane pane { s.pane pane with steps := { u with out := rest } :: later }))
    ∧ (rest = [] → s.unsent pane = [] → (s.pane pane).redo = [] →
      (u.again = [] → Makes (.cubeStepVerdict pane sums accs rounds) s (fun t => t.mem = s.mem ∧ t.sent = s.sent ∧ t.cohorts = s.cohorts
        ∧ t.pane pane = { s.pane pane with steps := later } ∧ (∀ b, b ≠ pane → t.pane b = s.pane b)
        ∧ ∀ o ∈ t.paneOps pane, u.id ∉ o.held))
      ∧ ∀ row, u.again = [row] → row < 5 → u.phys < 338 → (s.unit 0 (u.phys * 5 + row)).state ≠ .retired →
        (s.rowsNext u.phys).2 = none →
        Makes (.cubeStepVerdict pane sums accs rounds) s (fun t => t.mem = s.mem ∧ (t.unit 0 (u.phys * 5 + row)).state = .testing
          ∧ (t.unit 0 (u.phys * 5 + row)).judged = true)))
  ∧ (∀ (pane tile : Nat) (sums accs rounds : List StepFault) (s : State) (u : CubeStep) (later : List CubeStep) (r : Nat) (rows : List Nat)
      (rest : List (Nat × List Nat)), (s.pane pane).steps = u :: later → u.out = (tile, r :: rows) :: rest →
    ∃ t, exec (.cubeStepVerdict pane sums accs rounds) s = .next t ∧ t.pending = s.pending
      ∧ (∀ rd ∈ u.readers, rd.tile = tile → ∀ c, s.cohort? rd.cohort = some c → ∃ k, t.cohort? rd.cohort = some k
          ∧ k.fault = some (c.fault.getD stRetracted)
          ∧ ((∀ x ∈ c.records, x.gic ≠ rd.gic) → ∃ x ∈ k.records, x.code = 0x31 ∧ x.gic = rd.gic ∧ x.slot = rd.slot ∧ x.lanes = 0))
      ∧ ((∀ x ∈ r :: rows, x ∉ u.again) → u.live = true → later = [] → u.retract = false → u.readers = [] →
          t.mem = s.mem ∧ t.units = s.units ∧ ∃ v, (t.pane pane).steps = [v] ∧ v.id = u.id ∧ v.e = u.e ∧ v.kk = u.kk ∧ v.tiles = u.tiles
            ∧ v.feeds = u.feeds ∧ (∀ x, x ∈ v.again ↔ x ∈ u.again ∨ x ∈ r :: rows)
            ∧ ∀ n, n / 4096 ∉ u.tiles → SMap.get (t.pane pane).acc n 0 = SMap.get (s.pane pane).acc n 0)
      ∧ ∀ x ∈ r :: rows, x ∈ u.again → x < 5 → u.phys < 338 → (s.unit 0 (u.phys * 5 + x)).state ≠ .retired →
          (t.unit 0 (u.phys * 5 + x)).state = .retired
          ∧ ∃ y ∈ t.units.retired, y.kind = 0 ∧ y.cause = 1 ∧ y.number = u.phys * 5 + x ∧ y.time = s.now)
  ∧ (∀ (pane slot : Nat) (lanes : Mask) (again : Bool) (s : State) (g : Group) (c : Cohort), s.group? pane slot = some g →
    Gives (.vectorCheck pane slot lanes false again) s (s.setGroup pane slot { g with unchecked := g.unchecked - 1 })
    ∧ (s.cohort? g.cohort = some c → (s.unit 1 (s.phys pane)).state ≠ .retired → (∀ r ∈ c.records, r.gic ≠ g.gic) →
      Makes (.vectorCheck pane slot lanes true false) s (fun t => (t.unit 1 (s.phys pane)).judged = true
        ∧ ∃ k, t.cohort? g.cohort = some k ∧ k.fault = some (c.fault.getD stRetracted)
          ∧ ∃ r ∈ k.records, r.code = 0x32 ∧ r.lanes = lanes ∧ r.gic = g.gic)))
  ∧ (∀ (loc : FaultLoc) (since : Nat) (s : State), s.watching = true →
    Makes (.stallFault loc true since) s (fun t => t = { s.toDevice with units := t.units } ∧ (loc, s.now) ∈ t.units.holds
      ∧ ∀ n, (loc, n) ∈ t.units.holds → n = s.now)
    ∧ ∀ from', ((∀ h ∈ s.units.holds, h.1 ≠ loc) ∧ from' = since
        ∨ (∃ n, s.units.holds.find? (fun h => h.1 == loc) = some (loc, n) ∧ from' = Nat.max since n)) →
      (1000 * s.odGet 0 0x8010 0 < s.now - from' → exec (.stallFault loc false since) s = exec (.handshakeCodeFault loc) s)
      ∧ (s.now - from' ≤ 1000 * s.odGet 0 0x8010 0 → Gives (.stallFault loc false since) s s.toDevice))
  ∧ (∀ (pane : Nat) (s : State), s.watching = true → pane < 320 → s.paneState pane ≠ .vacant → s.phys pane < 338 →
    (∀ row, row < 5 → (s.unit 0 (s.phys pane * 5 + row)).state ≠ .retired → (s.rowsNext (s.phys pane)).2 = none →
      Makes (.handshakeCodeFault (.cubeRow pane row)) s (fun t => (t.unit 0 (s.phys pane * 5 + row)).state = .testing
        ∧ (t.unit 0 (s.phys pane * 5 + row)).judged = true ∧ t.mem = s.mem
        ∧ ((s.pane pane).steps = [] → (s.pane pane).redo = [] → ∀ b, t.pane b = s.pane b)))
    ∧ (s.stage? 2 (s.phys pane) = none → SMap.find s.units.moves pane = none →
      Makes (.handshakeCodeFault (.paneOther pane)) s (fun t => (t.unit 1 (s.phys pane)).state = .testing
        ∧ (t.unit 1 (s.phys pane)).judged = true ∧ (t.stage? 2 (s.phys pane)).isSome = true ∧ (t.pane pane).groups = []
        ∧ (t.pane pane).ls = [] ∧ (∀ q, s.spareFor (s.phys pane) = some q → t.phys pane = q ∧ t.paneState pane = .active)
        ∧ (s.spareFor (s.phys pane) = none → t.phys pane = s.phys pane ∧ t.paneState pane = .migrating))))
  ∧ ∀ (s : State), s.watching = true →
    Makes (.handshakeCodeFault .frameDie) s (fun t => t.mram = s.mram
      ∧ t.boot.state = if s.boot.escalated.contains 23 then 4 else 3)

/-- R371, R373, R376–R378: RUN_TEST starts its unit's test and is answered at the end of it, or at once when the unit is gone. A test
that falls due runs at once on an idle pane, and waits for a busy one; past its deferral the pane's cohorts migrate to a spare,
and at the hard limit without one its groups pause. A migration leaves the number with its new pane, with the old one under
test; a replacement that fails meanwhile is tested itself, and the copy begins again on the next spare, or, with none, the cohorts stay
on a good old pane and end with a permanent one. A test that passes gives its unit back, and one that fails retires it. -/
def Obligations.UnitTests : Prop :=
  (∀ (m : TMsg) (s : State) (x : Session) (e : Entry), Acts s.toDevice m x e → m.index = 0x9030 →
    (let kind := ofBytes m.value / 2 ^ 24
     let number := ofBytes m.value % 2 ^ 16
     (3 < kind ∨ unitCount kind ≤ number →
       ActionGives (.runTest m) s m x e stMalformed (fun t => t.units = s.units ∧ t.mem = s.mem ∧ t.panes = s.panes))
     ∧ (kind ≤ 3 → number < unitCount kind → s.unitGone kind number = true →
       ActionGives (.runTest m) s m x e stRetired (fun t => t.units = s.units ∧ t.mem = s.mem ∧ t.panes = s.panes))
     ∧ (kind = 2 → number < 1280 → s.testable 2 number = true →
       Makes (.runTest m) s (fun t => (t.unit 2 number).state = .testing ∧ t.mem = s.mem ∧ t.panes = s.panes
         ∧ SMap.find t.units.pending (unitIndex 2 number) = some m))))
  ∧ (∀ (kind number : Nat) (s : State), s.ready = true → s.testable kind number = true →
    (s.unit kind number).due ≤ s.units.opsec →
    (kind = 2 → Makes (.inFieldTestDue kind number) s (fun t => (t.unit 2 number).state = .testing ∧ t.mem = s.mem ∧ t.panes = s.panes))
    ∧ ∀ a, kind = 1 → s.numberOf number = some a →
      (s.paneEmpty a = true → Makes (.inFieldTestDue kind number) s (fun t =>
        (t.unit 1 number).state = .testing ∧ t.mem = s.mem ∧ t.panes = s.panes))
      ∧ (s.paneEmpty a = false → Makes (.inFieldTestDue kind number) s (fun t =>
        (t.unit 1 number).state = (s.unit 1 number).state ∧ (t.unit 1 number).dueAt = some s.now ∧ t.mem = s.mem ∧ t.panes = s.panes
          ∧ eventBody 0x9001 0 0xFF s.now [(1, 1), (number, 2), (s.now + 1000000 * s.odGet 0 0x9000 0, 8)] ∈ t.transom.log)))
  ∧ (∀ (pane : Nat) (s : State), s.numberOf (s.phys pane) = some pane →
    (∀ q, s.waitsPast pane (s.odGet 0 0x9000 0) = true → s.spareFor (s.phys pane) = some q →
      Makes (.testDeferralDeadline pane) s (fun t => t.paneState pane = .migrating
        ∧ SMap.find t.units.moves pane = some (.migrate q none) ∧ (t.unit 1 q).state = .good ∧ t.panes = s.panes ∧ t.mem = s.mem))
    ∧ (s.waitsPast pane (s.odGet 0 0x9001 0) = true → s.spareFor (s.phys pane) = none →
      Makes (.hardTestLimit pane) s (fun t => t.pane pane = { s.pane pane with paused := true }
        ∧ (t.unit 1 (s.phys pane)).state = .testing ∧ SMap.find t.units.moves pane = some .pause ∧ t.mem = s.mem
        ∧ ∀ b, b ≠ pane → t.pane b = s.pane b)))
  ∧ (∀ (pane q : Nat) (retire : Option Nat) (s : State), SMap.find s.units.moves pane = some (.migrate q retire) →
    s.settledPane pane = true →
    Makes (.paneMigrated pane false) s (fun t => t.phys pane = q ∧ t.paneState pane = .active ∧ SMap.find t.units.moves pane = none
      ∧ t.pane pane = { s.pane pane with cache := [], icache := [], clears := (s.pane pane).clears + 1, heldOps := [] }
      ∧ t.mem = s.mem ∧ (t.unit 1 (s.phys pane)).state = if retire = none then .testing else .retired))
  ∧ (∀ (pane q : Nat) (retire : Option Nat) (s : State), SMap.find s.units.moves pane = some (.migrate q retire) →
    (s.unit 1 q).state = .good → q < 338 → s.phys pane < 338 → q ≠ s.phys pane →
    ∃ t, exec (.paneMigrated pane true) s = .next t ∧ t.pending = s.pending ∧ t.mem.bytes = s.mem.bytes
      ∧ (t.unit 1 q).state = .testing ∧ (t.unit 1 q).judged = true
      ∧ (∀ r, s.spareFor (s.phys pane) = some r → t.panes = s.panes ∧ (t.unit 1 r).state = .good
          ∧ SMap.find t.units.moves pane = some (.migrate r retire))
      ∧ (s.spareFor (s.phys pane) = none → SMap.find t.units.moves pane = none ∧ t.phys pane = s.phys pane
          ∧ (retire = none → t.paneState pane = .active
              ∧ t.pane pane = { s.pane pane with heldOps := [] } ∧ t.cohorts = s.cohorts)
          ∧ (retire ≠ none → t.paneState pane = .vacant ∧ (t.unit 1 (s.phys pane)).state = .retired
              ∧ ∀ ci c, s.cohort? ci = some c → c.pane = pane → ∃ k, t.cohort? ci = some k ∧ k.fault = some (c.fault.getD stRetired))))
  ∧ (∀ (number : Nat) (s : State), (∀ kv ∈ s.units.history, kv.2.dueAt.isSome = true → kv.2.state = .testing) →
    (s.unit 1 number).state = .testing → number < 338 → (s.unit 1 number).judged = false →
    (∀ a, s.numberOf number = some a → Makes (.targetedTestDone 1 number true) s (fun t => (t.unit 1 number).state = .good
      ∧ (t.unit 1 number).tests = min ((s.unit 1 number).tests + 1) 65535 ∧ (t.unit 1 number).lasttest = s.units.opsec
      ∧ t.mem.bytes = s.mem.bytes ∧ (SMap.find s.units.moves a = some .held → t.paneState a = .active)))
    ∧ (s.numberOf number = none → Makes (.targetedTestDone 1 number false) s (fun t => (t.unit 1 number).state = .retired
      ∧ t.mem.bytes = s.mem.bytes ∧ ((∀ kv ∈ s.units.moves, kv.2 ≠ .held) → t.panes = s.panes))))
  ∧ ∀ (number : Nat) (s : State), (s.unit 0 number).state = .testing → number < 1690 →
    Makes (.targetedTestDone 0 number false) s (fun t => (t.unit 0 number).state = .retired)

/-! ## The weight update (R242–R253) -/

/-- R242, R244, R245, R249–R253: a control block of the expected step is captured, a bad one as a veto; DONE leaves when every shard
is complete, and a job of one chip then has its verdict; DONE cells of other chips are kept; the close adjusts the loss scale by
the verdict and counts the step; after a veto the sill zeroes the gradient plane and nothing else; the commit moves on to the
next step and floods its cell; a step with no verdict in time is reported, the one in progress or the one after it. -/
def Obligations.WeightUpdates : Prop :=
  ∀ (part : Nat) (s : State), s.updates part = true →
    (let x := s.part part
     let n := s.expected part
     (∀ b, s.controlBlock part = some b → x.step.captured = false →
       Makes (.controlBlockCapture part) s (fun t => t.mem.bytes = s.mem.bytes ∧ t.panes = s.panes ∧ (t.part part).step = { x.step with
         captured := true, lrm := BitVec.ofNat 32 (fld b 64 32), t := fld b 96 32, veto := bit b 128 || !controlBlockOk b }
         ∧ (controlBlockOk b = false → eventBody 0x7001 2 part s.now [(n, 8)] ∈ (t.part part).events)))
     ∧ ((∃ kd ∈ x.shards, s.shardComplete part kd.2 n = false) → Gives (.chipDone part) s s.toDevice)
     ∧ (x.step.captured = true → x.step.doneSent = false → (∀ kd ∈ x.shards, s.shardComplete part kd.2 n = true) →
       (let cause := x.shards.foldl (fun c kd => c ||| kd.2.cause (n % 2)) (if x.step.veto then 4 else 0)
        Makes (.chipDone part) s (fun t => t.mem = s.mem ∧ t.panes = s.panes ∧ (t.part part).step.doneSent = true
          ∧ SMap.find (t.part part).step.done (doneKey n s.chip) = some (cause, s.now)
          ∧ (x.step.verdict = none → s.jobChips part = [s.chip] →
              (t.part part).step.verdict = some (cause, s.now + 1000 * x.margin.getD (s.odGet part 0x7110 7))))))
     ∧ (∀ (door : Nat) (c : SyncCell), s.doorInDomain door = true → c.skind = 0x10 → c.rsv = 0 → c.domain = s.lintel.domain →
       s.cellPart? c = some part →
       (s.fabric.seen.contains (cellIdentity c) = false → n ≤ c.step →
         Makes (.doneCell door c) s (fun t => t.mem = s.mem ∧ t.panes = s.panes ∧ cellIdentity c ∈ t.fabric.seen
           ∧ SMap.find (t.part part).step.done (doneKey c.step c.origin) = some (c.cause % 8, c.txtime)))
       ∧ (s.fabric.seen.contains (cellIdentity c) = true → Makes (.doneCell door c) s (fun t => t.mem = s.mem ∧ t.parts = s.parts)))
     ∧ (∀ cause close, x.step.verdict = some (cause, close) → x.step.closed = false → close ≤ s.now →
       (let kls := s.odInt part 0x7110 5
        let run := s.odGet part 0x7110 8
        let growth := s.odGet part 0x7110 6
        Makes (.stepClose part) s (fun t => t.mem = s.mem ∧ t.panes = s.panes ∧ (t.part part).step.closed = true
          ∧ (t.part part).step.kls = kls ∧ (t.part part).margin = some (s.odGet part 0x7110 7) ∧ t.odGet part 0x4081 0 = min (s.odGet part 0x4081 0 + 1) (2 ^ 64 - 1)
          ∧ (bit cause 0 = true → t.odInt part 0x7110 5 = max (kls - 1) (-64) ∧ t.odGet part 0x7110 8 = 0)
          ∧ (cause = 0 → growth ≠ 0 → run + 1 = growth → t.odInt part 0x7110 5 = min (kls + 1) 64 ∧ t.odGet part 0x7110 8 = 0)
          ∧ (cause = 0 → growth = 0 ∨ run + 1 ≠ growth →
              t.odInt part 0x7110 5 = kls ∧ t.odGet part 0x7110 8 = min (run + 1) (2 ^ 32 - 1))
          ∧ (cause ≠ 0 → bit cause 0 = false → t.odInt part 0x7110 5 = kls ∧ t.odGet part 0x7110 8 = run))))
     ∧ (∀ sill k cause close m, x.step.closed = true → sill ∉ x.step.finished → x.shardsOn sill = [k] →
       x.step.verdict = some (cause, close) → cause ≠ 0 → x.snap.todo = [] →
       (let va := gradientPlane k.desc (n % 2)
        x.mapping? va = some m → va + 4 * shardN k.desc ≤ m.va + m.psz * m.count →
        Makes (.sillUpdateDone part sill) s (fun t => (t.part part).step.finished = x.step.finished ++ [sill] ∧ t.panes = s.panes
          ∧ ∀ o, o < 2 ^ 43 → t.byteAt part m.pool 0 o =
              if m.poff + (va - m.va) ≤ o ∧ o < m.poff + (va - m.va) + 4 * shardN k.desc then 0 else s.byteAt part m.pool 0 o)))
     ∧ (∀ cause close, x.step.verdict = some (cause, close) → x.step.closed = true → x.step.puts = [] →
       (∀ kd ∈ x.shards, kd.2.sill ∈ x.step.finished ∧ kd.2.leaving = none) → n < 2 ^ 64 - 1 →
       Makes (.stepCommit part) s (fun t => t.expected part = n + 1
         ∧ (t.part part).step.captured = false ∧ (t.part part).step.verdict = none
         ∧ (t.part part).step.first = x.step.nextFirst ∧ (t.part part).step.stalled = x.step.nextStalled ∧ (s.chip, 0x11, x.job, n) ∈ t.fabric.seen))
     ∧ (∀ (door : Nat) (c : SyncCell), s.doorInDomain door = true → c.skind = 0x11 → c.rsv = 0 → c.domain = s.lintel.domain →
       Makes (.commitCell door c) s (fun t => t.mem = s.mem ∧ t.parts = s.parts ∧ t.panes = s.panes ∧ cellIdentity c ∈ t.fabric.seen))
     ∧ ∀ first, first + 1000 * s.odGet part 0x6112 0 ≤ s.now →
       (x.step.first = some first → x.step.verdict = none → x.step.stalled = false →
         Makes (.updateStall part) s (fun t => t.mem = s.mem ∧ t.panes = s.panes ∧ (t.part part).step = { x.step with stalled := true }
           ∧ t.odGet part 0x7130 7 = min (s.odGet part 0x7130 7 + 1) (2 ^ 64 - 1)
           ∧ eventBody 0x7003 2 part s.now [(n, 8)] ∈ (t.part part).events))
       ∧ (x.step.first = none ∨ x.step.verdict ≠ none ∨ x.step.stalled = true → x.step.nextFirst = some first → x.step.nextStalled = false →
         Makes (.updateStall part) s (fun t => t.mem = s.mem ∧ t.panes = s.panes ∧ (t.part part).step = { x.step with nextStalled := true }
           ∧ t.odGet part 0x7130 7 = min (s.odGet part 0x7130 7 + 1) (2 ^ 64 - 1)
           ∧ eventBody 0x7003 2 part s.now [(n + 1, 8)] ∈ (t.part part).events)))

/-! ## Doors and time (R39, R40, R291–R308) -/

/-- R291–R294, R300, R305: an identity that fits gives a training door its peer and its credit, and one that does not takes it
down; a training ends with the lanes that are good, at four or three lanes or down; one that lasts 1.5 s takes its door
down; a door in service that loses lock or replays too often retrains with its stream kept; DOOR_RETRAIN trains changed and DOWN
doors under the plan, is answered when the last of them has trained, and is refused while a partition holds a pane.

R298, R301: a good block in its turn is accepted: its packets that the receiver keeps arrive, the blocks that it acknowledges leave
the replay buffer, and its number is acknowledged; a bad one, or one out of its turn, is counted and asked for again once. -/
def Obligations.Doors : Prop :=
  ((∀ (door : Nat) (peer : Identity) (s : State), door < 24 → (s.door door).state = .training →
    (s.chip ≠ 0xFFF → (s.doorKind door = 2 ↔ peer.role = 0) → bit (s.door door).plan 25 = false →
      ¬(peer.role = 0 ∧ peer.chip = s.chip) →
      (let x := { s.door door with peer := some peer, credit0 := peer.credit0, credit1 := peer.credit1 }
       Gives (.identityBlock door peer) s { s.toDevice with fabric := { s.fabric with doors := SMap.put s.fabric.doors door x } }))
    ∧ (s.chip ≠ 0xFFF → ¬(s.doorKind door = 2 ↔ peer.role = 0) → Makes (.identityBlock door peer) s (fun t =>
        (t.door door).state = .down ∧ (∀ d, d ≠ door → t.door d = s.door d) ∧ t.mem = s.mem
          ∧ eventBody 0x4002 2 0xFF s.now [(door, 1), (peer.role, 1), (peer.chip, 2), (peer.door, 1), (peer.domain, 2)] ∈ t.transom.log))
    ∧ (s.chip = 0xFFF → Makes (.identityBlock door peer) s (fun t => (t.door door).state = .down ∧ t.fabric.unassigned = true
        ∧ (∀ d, d ≠ door → t.door d = s.door d) ∧ t.mem = s.mem)))
  ∧ (∀ (door : Nat) (good : BitVec 4) (s : State), door < 24 →
    (s.door door).state = .retraining ∨ ((s.door door).state = .training ∧ (s.door door).peer.isSome = true) →
    (let bad := (s.door door).bad ||| ~~~good
     let lanes := (List.range 4).countP (fun i => !bad.getLsbD i)
     Makes (.doorRetrainDone door good) s (fun t => t.mem = s.mem ∧ t.panes = s.panes ∧ (t.door door).bad = bad
       ∧ (lanes = 4 → (t.door door).state = .up4) ∧ (lanes = 3 → (t.door door).state = .up3)
       ∧ (lanes < 3 → (t.door door).state = .down ∧ eventBody 0x4004 2 0xFF s.now [(door, 1)] ∈ t.transom.log)
       ∧ (∀ i, i < 4 → (s.door door).bad.getLsbD i = false → good.getLsbD i = false → (t.unit 3 (door * 4 + i)).state = .retired)
       ∧ ∀ w, s.fabric.retrain = some w → (∀ d, d < 24 → d ≠ door → (s.door d).state ≠ .training) → t.fabric.retrain = none)))
  ∧ (∀ (door : Nat) (s : State), door < 24 → (s.door door).state = .retraining ∨ (s.door door).state = .training →
    (s.door door).since + 1500000000 ≤ s.now →
    Makes (.doorRetrainLimit door) s (fun t => (t.door door).state = .down ∧ (∀ d, d ≠ door → t.door d = s.door d)
      ∧ t.mem = s.mem ∧ eventBody 0x4004 2 0xFF s.now [(door, 1)] ∈ t.transom.log))
  ∧ (∀ (door replays : Nat) (rate : Word) (s : State), door < 24 → s.doorUp door = true →
    (let x := { s.door door with state := .retraining, since := s.now, retrains := (s.door door).retrains + 1 }
     Makes (.blockLockLoss door) s (fun t => t.door door = x ∧ t.mem = s.mem ∧ t.sent = s.sent ∧ ∀ d, d ≠ door → t.door d = s.door d)
     ∧ (s.odGet 0 0x4050 1 < replays → Makes (.doorErrorWindow door replays rate) s (fun t =>
         t.door door = x ∧ t.mem = s.mem ∧ t.sent = s.sent ∧ ∀ d, d ≠ door → t.door d = s.door d))
     ∧ (replays ≤ s.odGet 0 0x4050 1 → (fp32.decode (s.odGet 0 0x4050 2)).lt (fp32.decode rate.toNat) = false → Gives (.doorErrorWindow door replays rate) s s.toDevice)))
  ∧ ∀ (m : TMsg) (s : State) (x : Session) (e : Entry), Acts s.toDevice m x e → m.index = 0x4024 →
    (s.anyPanes = true → ActionGives (.doorRetrain m) s m x e stResource (fun t => t.fabric = s.fabric ∧ t.lintel = s.lintel))
    ∧ (s.anyPanes = false → (∀ d, d < 24 → (s.door d).changed = false ∧ (s.door d).state ≠ .down) →
        ActionGives (.doorRetrain m) s m x e stOk (fun t => t.fabric = s.fabric ∧ t.lintel = s.lintel))
    ∧ (s.anyPanes = false → (∃ d, d < 24 ∧ ((s.door d).changed = true ∨ (s.door d).state = .down)) →
        Makes (.doorRetrain m) s (fun t => t.mem = s.mem ∧ t.chip = s.odGet 0 0x4020 0 ∧ t.lintel.domain = s.odGet 0 0x4021 0
        ∧ (2 ≤ s.lintel.state → t.lintel.state = 1 ∧ t.lintel.stepped = false ∧ t.lintel.upstream = none)
        ∧ ((∃ d, d < 24 ∧ (t.door d).state = .training) → t.fabric.retrain = some (x.part, m))
        ∧ ((∀ d, d < 24 → (t.door d).state ≠ .training) → ActionDone t x m e stOk)
        ∧ ∀ d, (d < 24 ∧ ((s.door d).changed = true ∨ (s.door d).state = .down) →
            (t.door d).plan = s.odGet 0 0x4000 0 d ∧ (t.door d).replay = []
              ∧ (t.door d).state = if fld (s.odGet 0 0x4000 0 d) 0 2 = 0 then .unused else if s.odGet 0 0x4020 0 = 0xFFF then .down else .training)
          ∧ (¬(d < 24 ∧ ((s.door d).changed = true ∨ (s.door d).state = .down)) → t.door d = s.door d))))
  ∧ (∀ (door : Nat) (b : Block) (s : State), door < 24 → s.doorUp door = true →
    (b.fecOk = true → crcOk b = true → b.bseq = (s.door door).rxNext → b.rsv = 0 → (∀ n, n < 4 → fld b.kinds (2 * n) 2 ≠ 3) → b.nak = false →
      (s.door door).waiting = [] → s.fabric.waiting = [] → (s.door door).owe0 = 0 → (s.door door).owe1 = 0 →
      (let got := packetsIn (s.door door).rxSlots b
       (∀ p ∈ got.1, p.type ≠ 0 ∧ p.type ≠ 0xE ∧ s.accepts p = true) →
       Makes (.blockReceive door b) s (fun t => t.mem = s.mem ∧ t.panes = s.panes
        ∧ t.fabric.arrived = s.fabric.arrived ++ got.1.map (fun p => { p with via := some door, origin := none, progress := (0, 0), waits := [] })
        ∧ t.fabric.cells = s.fabric.cells ++ (syncCells b).map (fun c => (door, c))
        ∧ t.sent = s.sent ++ [.back door b.bseq false] ∧ t.door door = { s.door door with
            rxNext := ((s.door door).rxNext + 1) % 2048, nakOut := false, symbols := (s.door door).symbols + b.symbols, rxSlots := got.2,
            replay := (s.door door).replay.filter (fun r => !decide ((b.back + 2048 - r.bseq) % 2048 < 1024)) })))
    ∧ (b.fecOk = false ∨ crcOk b = false ∨ (b.bseq ≠ (s.door door).rxNext ∧ (s.door door).nakOut = false) →
      Makes (.blockReceive door b) s (fun t => t.mem = s.mem ∧ t.panes = s.panes ∧ t.fabric.arrived = s.fabric.arrived
        ∧ t.fabric.cells = s.fabric.cells ∧ t.sent = s.sent ++ [.back door (((s.door door).rxNext + 2047) % 2048) true]
        ∧ t.door door = { s.door door with
            nakOut := true, symbols := (s.door door).symbols + b.symbols, discards := (s.door door).discards + 1 }))
    ∧ (b.fecOk = true → crcOk b = true → b.bseq ≠ (s.door door).rxNext → (s.door door).nakOut = true →
      Makes (.blockReceive door b) s (fun t => t.mem = s.mem ∧ t.sent = s.sent ∧ t.fabric.arrived = s.fabric.arrived
        ∧ t.door door = { s.door door with symbols := (s.door door).symbols + b.symbols, discards := (s.door door).discards + 1 })))

/-- R39, R40, R306–R308: the domain's master sends its time on every door of the domain; a chip steps once to the domain's time and
then only slews, within 500 ppm; a delay request is answered with its times, and its answer gives half the round trip less the
turnaround; ten silent milliseconds end the lock, and the counter goes on.

R325, R326: a valid Sync of the domain is followed; its offset steps a master's free counter once, and slews it after that, and is
only reported on a chip that takes its time from a door; 10 s without one are reported, and the master's counter runs on. -/
def Obligations.TimeKeeping : Prop :=
  ((∀ (s : State) (door : Nat), door < 24 → s.doorInDomain door = true → (s.door door).replay.length < 1024 →
    (∀ others, s.lintel.timeNext ≤ s.now →
      (let first := ∀ o ∈ others, s.odGet 0 0x4022 0 < o.2 ∨ (s.odGet 0 0x4022 0 = o.2 ∧ s.chip ≤ o.1)
       (first → Makes (.timeCellSend others) s (fun t => t.now = s.now ∧ 2 ≤ t.lintel.state ∧ t.lintel.master = true
          ∧ t.lintel.timeNext = s.now + 125000
          ∧ ∃ c : SyncCell, CellLeft s.toDevice t door c ∧ c.skind = 1 ∧ c.domain = s.lintel.domain ∧ c.origin = s.chip
            ∧ c.hops = 0 ∧ c.corr = 0 ∧ c.txtime = s.now))
       ∧ (¬first → Gives (.timeCellSend others) s { s.toDevice with lintel := { s.lintel with master := false } })))
    ∧ (s.now < s.lintel.timeNext → ∀ others, Gives (.timeCellSend others) s s.toDevice)
    ∧ ((s.door door).reqNext ≤ s.now → Makes (.delayReqSend door) s (fun t => t.lintel = s.lintel ∧ (t.door door).reqSent = s.now
        ∧ (t.door door).reqNext = s.now + 10000000 ∧ t.sent.length = s.sent.length + 1
        ∧ ∃ c : SyncCell, CellLeft s.toDevice t door c ∧ c.skind = 2 ∧ c.txtime = s.now))
    ∧ (s.now < (s.door door).reqNext → Gives (.delayReqSend door) s s.toDevice)
    ∧ (∀ c, s.heeds door 2 c = true → Makes (.delayReq door c) s (fun t => t.now = s.now ∧ t.lintel.lastCell = s.now
        ∧ t.lintel.state = (if s.lintel.state = 3 ∧ s.lintel.master = true then 2 else s.lintel.state) ∧ t.sent.length = s.sent.length + 1
        ∧ ∃ r : SyncCell, CellLeft s.toDevice t door r ∧ r.skind = 3 ∧ r.rxtime = s.now ∧ r.txtime = s.now))
    ∧ (∀ c, s.heeds door 3 c = true → Makes (.delayResp door c) s (fun t => t.sent = s.sent
        ∧ (t.door door).delay = (((s.now : Int) - (s.door door).reqSent) - ((c.txtime : Int) - c.rxtime)) * 1000 / 2)))
  ∧ (∀ (s : State) (door : Nat) (c : SyncCell), s.heeds door 1 c = true → c.origin ≠ s.chip → s.lintel.upstream = some door →
    (let age := c.corr + (s.door door).delay
     (s.lintel.state = 2 → Makes (.timeCell door c) s (fun t => t.now = s.now ∧ t.lintel.state = 2
       ∧ t.lintel.domainOff = ((s.now : Int) - c.txtime) * 1000 - age ∧ t.lintel.slew.natAbs ≤ 500000
       ∧ (0 < t.lintel.domainOff → t.lintel.slew ≤ 0) ∧ (t.lintel.domainOff < 0 → 0 ≤ t.lintel.slew)))
     ∧ (s.lintel.state = 3 → Makes (.timeCell door c) s (fun t => t.lintel.state = 2 ∧ t.now = s.now))
     ∧ (s.lintel.state = 1 → Makes (.timeCell door c) s (fun t => t.lintel.state = 2 ∧ t.lintel.frameOff.natAbs ≤ 2000
       ∧ (s.lintel.stepped = false → t.lintel.stepped = true ∧ t.now = ((c.txtime : Int) + age / 1000).toNat % 2 ^ 64)
       ∧ (s.lintel.stepped = true → t.now = s.now)))))
  ∧ ∀ (s : State), (s.lintel.state = 2 → s.lintel.lastCell + 10000000 ≤ s.now → Makes .syncCellSilence s (fun t =>
      t.lintel.state = 3 ∧ t.now = s.now ∧ eventBody 0x4001 1 0xFF s.now [] ∈ t.transom.log))
    ∧ (s.now < s.lintel.lastCell + 10000000 → Gives .syncCellSilence s s.toDevice))
  ∧ ((∀ (m : PtpSync) (s : State), s.ptpActive = true → m.valid = true → m.domain = s.odGet 0 0x5010 2 →
    (m.offset = none → Makes (.ptpSync m) s (fun t => t.lintel = s.lintel ∧ t.host.ptpLast = s.now
      ∧ t.host.grandmaster = m.grandmaster % 2 ^ 64 ∧ t.host.ptpState = if s.host.ptpState = 2 then 2 else 1))
    ∧ (∀ o, m.offset = some o → s.lintel.upstream.isSome = true → s.lintel.master = false → Makes (.ptpSync m) s (fun t => t.lintel = s.lintel
        ∧ t.host.ptpState = 2 ∧ t.host.ptpOffset = o * 1000 ∧ t.host.ptpLast = s.now))
    ∧ (∀ o, m.offset = some o → s.lintel.upstream = none → s.lintel.state < 2 → s.lintel.stepped = false →
        Makes (.ptpSync m) s (fun t => t.now = ((s.now : Int) - o).toNat % 2 ^ 64 ∧ t.lintel.stepped = true ∧ t.host.ptpState = 2
          ∧ t.host.ptpOffset = 0)))
  ∧ (∀ (o : Int) (s : State), s.ptpActive = true → s.host.ptpState = 1 ∨ s.host.ptpState = 2 → s.lintel.upstream = none →
    s.lintel.state = 2 →
    Makes (.ptpDelayResp o) s (fun t => t.now = s.now ∧ t.host.ptpState = 2 ∧ t.host.ptpOffset = o * 1000
      ∧ t.lintel.slew.natAbs ≤ 500000 ∧ (0 < o → t.lintel.slew ≤ 0) ∧ (o < 0 → 0 ≤ t.lintel.slew)))
  ∧ ∀ (s : State), s.odGet 0 0x5010 1 = 1 → s.host.ptpState = 1 ∨ s.host.ptpState = 2 → s.host.ptpLast + 10000000000 ≤ s.now →
    Makes .ptpLost s (fun t => t.host.ptpState = 3 ∧ t.now = s.now ∧ eventBody 0x5004 1 0xFF s.now [] ∈ t.transom.log
      ∧ (s.lintel.upstream = none → s.lintel.state ≠ 3 → t.lintel.slew = 0)))

/-! ## The host port (R313–R328) -/

/-- R314–R316, R327, R330: a link that is lost is reported, and comes back under what the dictionary sets, at half rate when only
800G trains; a neighbour or an echo request is answered for an address of the port alone; a bad frame is counted and goes no further,
a PAUSE for the port's priority holds it, and a full buffer sends one; the sideband is up while its node has power. -/
def Obligations.HostLink : Prop :=
  (∀ (s : State), s.hostUp = true → Makes .hostLinkLoss s (fun t =>
    t.host = { s.host with link := 1, lost := true, pausedUntil := 0, held := [] }
    ∧ t.mem = s.mem ∧ t.parts = s.parts ∧ eventBody 0x5001 1 0xFF s.now [(s.host.mode, 1)] ∈ t.transom.log))
  ∧ (∀ (only800 : Bool) (s : State), s.host.link = 1 → s.delivering = false →
    (let own := s.odGet 0 0x5000 0
     let mode := if only800 = true ∧ own ≤ 2 then own + 3 else own
     (only800 = true ∧ own = 3 → Gives (.hostLinkTrained only800) s s.toDevice)
     ∧ (¬(only800 = true ∧ own = 3) → Makes (.hostLinkTrained only800) s (fun t => t.mem = s.mem ∧ t.parts = s.parts
         ∧ t.host = { s.host with link := if mode ≤ 3 then 2 else 3, mode, address := s.odGet 0 0x5003 0,
                                  prefixLen := s.odGet 0 0x5004 0, autoAddress := none, vlan := s.odGet 0 0x5005 0, pfc := s.odGet 0 0x5006 0,
                                  port := s.odGet 0 0x5008 0 }
         ∧ (s.host.lost = true → eventBody 0x5002 0 0xFF s.now [(mode, 1)] ∈ t.transom.log)))))
  ∧ (∀ (iface : Iface) (target : Nat) (payload : List Byte) (s : State),
    (s.ifaceUp iface = true → s.ownsAddress iface target = true → Makes (.neighborDiscovery iface (.solicit target)) s (fun t =>
      t.sent = s.sent ++ [.nd iface target] ∧ t.mem = s.mem ∧ t.parts = s.parts))
    ∧ (∀ network length, iface = .host → s.hostUp = true → s.delivering = false → length = s.host.prefixLen →
      Gives (.neighborDiscovery iface (.announce network length)) s
        { s.toDevice with host := { s.host with autoAddress := some (formedAddress network length) } })
    ∧ (s.ownsAddress iface target = false → Gives (.neighborDiscovery iface (.solicit target)) s s.toDevice
        ∧ Gives (.icmpEcho iface target payload) s s.toDevice)
    ∧ (iface = .host → s.hostUp = true → s.delivering = false → s.ownsAddress .host target = true →
      Makes (.icmpEcho iface target payload) s (fun t => t.sent = s.sent ++ [.echo .host payload] ∧ t.mem = s.mem ∧ t.parts = s.parts)))
  ∧ (∀ (f : Frame) (s : State), s.hostUp = true →
    (∀ priority quanta, f.kind = .pause priority quanta → f.buffered < 3145728 → f.fcsOk = true → f.length ≤ 9216 → s.host.held = [] →
      s.host.pfc ≠ 255 → priority = s.host.pfc →
      Gives (.ethFrame f) s { s.toDevice with host := { s.host with
        pauseIn := min (s.host.pauseIn + 1) (2 ^ 64 - 1)
        pausedUntil := s.now + quanta * 64000 / (if s.host.link = 3 then 100000 else 200000) } })
    ∧ ((∀ priority quanta, f.kind ≠ .pause priority quanta) → f.buffered < 3145728 →
      f.fcsOk = false ∨ 9216 < f.length ∨ f.ipv6 = false ∨ f.kind = .fragment →
      Gives (.ethFrame f) s { s.toDevice with host := { s.host with discarded := min (s.host.discarded + 1) (2 ^ 64 - 1) } })
    ∧ (f.kind = .other → f.buffered < 3145728 → f.fcsOk = true → f.length ≤ 9216 → f.ipv6 = true → f.vlan = none → s.delivering = false →
      Gives (.ethFrame f) s { s.toDevice with host := { s.host with framesIn := min (s.host.framesIn + 1) (2 ^ 64 - 1) } })
    ∧ (3145728 ≤ f.buffered → s.host.pfc ≠ 255 → f.kind = .other → Makes (.ethFrame f) s (fun t =>
        t.sent = s.sent ++ [.pause s.host.pfc] ∧ t.host.pauseOut = min (s.host.pauseOut + 1) (2 ^ 64 - 1) ∧ t.mem = s.mem))
    ∧ (∀ qpn part qidx q, f.kind = .roce qpn true → f.buffered < 3145728 → f.fcsOk = true → f.length ≤ 9216 → f.ipv6 = true →
      f.vlan = none → s.delivering = false → s.qpOf qpn = some (part, qidx) → s.qp? part qidx = some q → q.state = 1 →
      (∀ t0, q.cnpSent = some t0 → t0 + 50000 ≤ s.now) → PortFree s.toDevice →
      Makes (.ethFrame f) s (fun t => t.sent = s.sent ++ [.roce qpn 7 (q.head 0) []] ∧ t.qp? part qidx = some { q with cnpSent := some s.now }
        ∧ t.mem = s.mem)))
  ∧ ∀ (s : State), s.host.sideband ≠ 0 →
    Makes .plcaBeaconLoss s (fun t => t.host = { s.host with plca := false, sideband := 1 } ∧ t.mem = s.mem ∧ t.parts = s.parts)
    ∧ Makes .plcaBeaconReceive s (fun t => t.host.plca = true ∧ t.mem = s.mem ∧ t.parts = s.parts
        ∧ (let node := if s.odGet 0 0x5200 2 = 255 then s.boot.slot else s.odGet 0 0x5200 2
           t.host.sideband = if s.odGet 0 0x5200 1 = 1 ∧ node ≠ 0 ∧ node ≠ 255 then 2 else 1))

/-- R317–R322: a queue pair and a memory key live from their creation to their destruction; a packet of a WRITE or a SEND and a READ in its
turn that its checks pass is carried out and moves the pair on, and the last packet of a message is acknowledged once every copy is
written; one that fails is answered with its NAK and takes the pair to Error, and so does one ahead of its turn; SEND without a
free buffer is answered with RNR, and one behind its turn acknowledged again; a CNP halves a pair's rate, which recovers in
steps. -/
def Obligations.RdmaRequests : Prop :=
  (∀ (m : TMsg) (s : State) (x : Session) (e : Entry), Acts s.toDevice m x e →
    (let d := ofBytes m.value
     (m.index = 0x5110 → connectOk d (fld (s.part x.part).desc 144 13) = true → s.qp? x.part (fld d 0 12) = none →
       (fld d 313 4 ≠ 0 → s.mapRight x.part (fld d 256 57) (2 ^ fld d 313 4 * 2 ^ (fld d 317 3 + 10)) true = stOk
         ∧ s.mapRight x.part (fld d 320 57) 8 true = stOk) →
       ActionGives (.qpConnect m) s m x e stOk (fun t => t.mem = s.mem
         ∧ t.qp? x.part (fld d 0 12) = some { desc := d, epsn := fld d 64 24, rate := s.host.rate }
         ∧ ∀ k, k ≠ fld d 0 12 → t.qp? x.part k = s.qp? x.part k))
     ∧ (m.index = 0x5110 → (s.qp? x.part (fld d 0 12)).isSome = true → ActionGives (.qpConnect m) s m x e stMalformed (fun t =>
         t.mem = s.mem ∧ ∀ k, t.qp? x.part k = s.qp? x.part k))
     ∧ (m.index = 0x5111 → (s.qp? x.part d).isSome = true → ActionGives (.qpDestroy m) s m x e stOk (fun t => t.mem = s.mem
         ∧ t.qp? x.part d = none ∧ ∀ k, k ≠ d → t.qp? x.part k = s.qp? x.part k))
     ∧ (m.index = 0x5120 → keyOk d = true → SMap.find (s.part x.part).keys (fld d 0 11) = none →
         s.keyPages x.part (fld d 32 57) (fld d 96 64) (bit d 11) (bit d 12) = stOk →
         ActionGives (.keyCreate m) s m x e stOk (fun t => t.mem = s.mem ∧ ∃ k, SMap.find (t.part x.part).keys (fld d 0 11) = some k
           ∧ k.write = bit d 11 ∧ k.read = bit d 12 ∧ k.va = fld d 32 57 ∧ k.len = fld d 96 64
           ∧ k.gen = (SMap.get s.host.keyGen (x.part * 2048 + fld d 0 11) 0 + 1) % 65536))
     ∧ (m.index = 0x5122 → (SMap.find (s.part x.part).keys d).isSome = true → ActionGives (.keyDestroy m) s m x e stOk (fun t =>
         t.mem = s.mem ∧ SMap.find (t.part x.part).keys d = none
           ∧ ∀ k, k ≠ d → SMap.find (t.part x.part).keys k = SMap.find (s.part x.part).keys k))))
  ∧ (∀ (r : Rdma) (s : State) (part qidx : Nat) (q : Qp), s.hostUp = true → s.delivering = false → s.qpOf r.qpn = some (part, qidx) →
    s.qp? part qidx = some q → q.state = 1 → s.resetting part = false → s.sashBusy 0 = false → s.anyHeld = false → PortFree s.toDevice →
    (let gap := (r.psn + 2 ^ 24 - q.epsn) % 2 ^ 24
     let ends := r.place = .only ∨ r.place = .last
     let m : RdmaMsg := q.msg.getD { send := r.op == .send, rkey := r.rkey, va := r.va, len := r.len }
     let p : Qp := { q with epsn := (q.epsn + 1) % 2 ^ 24, msg := if ends then none else some { m with done := m.done + r.data.length } }
     (r.psn = q.epsn → r.op = .write → s.rdmaRefused part q r true = none → ∀ w : Target,
       (let va := m.va + m.done
        let n := r.data.length
        ends → n ≤ 32 - va % 32 → n ≠ 0 → s.translate part va .write = .ok w → w.map.kind = 0 → w.off + 32 ≤ 2 ^ 43 →
       (∀ c, s.poisonAt w.owner w.pool c w.off = false) →
       Makes (.rdmaWrite r) s (fun t => t.panes = s.panes ∧ t.qp? part qidx = some p
         ∧ (s.copies w.owner w.pool = [0] → .roce r.qpn 0 (q.head r.psn) [] ∈ t.sent)
         ∧ (s.copies w.owner w.pool = [0, 1] → (∀ f ∈ s.mem.forwards, f.id < s.mem.nextReq) →
             NoAck s.toDevice t r.qpn ∧ ∃ a ∈ t.mem.after, a.1 ≠ [] ∧ a.2 = .roce r.qpn (q.head r.psn))
         ∧ (∀ i, i < n → t.byteAt w.owner w.pool 0 (w.off + i) = r.data.getD i 0)
         ∧ ∀ o, o < 2 ^ 43 → o < w.off ∨ w.off + n ≤ o → t.byteAt w.owner w.pool 0 o = s.byteAt w.owner w.pool 0 o)))
     ∧ (r.psn = q.epsn → r.op = .write → s.rdmaRefused part q r true = none → ¬ends →
       (let w := (s.serve part 2 r.data.length 0).rdmaPut part (m.va + m.done) r.data
        w.2 = stOk → Makes (.rdmaWrite r) s (fun t => NoAck s.toDevice t r.qpn ∧ t.qp? part qidx = some p ∧ t.mem = w.1.mem
          ∧ t.panes = w.1.panes)))
     ∧ (r.psn = q.epsn → r.op = .read → s.rdmaRefused part q r false = none → ∀ (w : Target) (b : Nat → Byte), r.len ≤ 32 - r.va % 32 →
       s.translate part r.va .read = .ok w → w.map.kind = 0 → r.len ≤ 32 - w.off % 32 → q.free ≤ s.now → fld q.desc 88 5 ≠ 0 →
       (∀ c, s.poisonAt w.owner w.pool c w.off = false) →
       (∀ i c, i < r.len → c ∈ s.copies w.owner w.pool → s.byteAt w.owner w.pool c (w.off + i) = b i) →
       Makes (.rdmaRead r) s (fun t => t.sent = s.sent ++ [.roce r.qpn 1 (q.head r.psn) ((List.range r.len).map b)]
         ∧ t.mem.bytes = s.mem.bytes ∧ t.panes = s.panes ∧ t.qp? part qidx = some { q with
             epsn := (q.epsn + packetsOf (qpMtu q.desc) r.len) % 2 ^ 24, free := s.now + r.len * 1000 / q.rate }))
     ∧ (r.psn = q.epsn → r.op = .write → ∀ x, s.rdmaRefused part q r true = some x → Makes (.rdmaWrite r) s (fun t => t.mem = s.mem
         ∧ .roce r.qpn x.1 (q.head r.psn) [] ∈ t.sent ∧ t.qp? part qidx = some { q with state := 2, lstatus := x.2, msg := none }))
     ∧ (r.psn = q.epsn → r.op = .send → s.sendRefused part q r = some (2, stOk) → Makes (.rdmaSend r) s (fun t => t.mem = s.mem
         ∧ t.sent = s.sent ++ [.roce r.qpn 2 (q.head r.psn true) []] ∧ t.parts = s.parts))
     ∧ (r.psn = q.epsn → r.op = .send → s.sendRefused part q r = none →
       (let base := bufferOf q.desc q.sends
        let w := (s.serve part 2 r.data.length 0).rdmaPut part (base + m.done) r.data
        let v := w.1.rdmaPut part (base + qpBuffer q.desc - 8)
          (bytesOf ((m.done + r.data.length) % 2 ^ 32 + 2 ^ 32 * (q.sends % 2 ^ 32)) 8)
        w.2 = stOk →
        (¬ends → Makes (.rdmaSend r) s (fun t => NoAck s.toDevice t r.qpn ∧ t.qp? part qidx = some p))
        ∧ (ends → v.2 = stOk → Makes (.rdmaSend r) s (fun t => t.qp? part qidx = some { p with sends := q.sends + 1 }
          ∧ (v.1.mem.forwards = s.mem.forwards → .roce r.qpn 0 (q.head r.psn) [] ∈ t.sent)))))
     ∧ (0 < gap → gap < 2 ^ 23 → ∀ io ∈ [(Instr.rdmaWrite r, RdmaOp.write), (.rdmaSend r, .send), (.rdmaRead r, .read)], r.op = io.2 →
         Makes io.1 s (fun t => .roce r.qpn 6 (q.head q.epsn) [] ∈ t.sent ∧ t.mem = s.mem
           ∧ ∃ n, t.qp? part qidx = some { q with state := 2, lstatus := n, msg := none }))
     ∧ (2 ^ 23 ≤ gap → ∀ io ∈ [(Instr.rdmaWrite r, RdmaOp.write), (.rdmaSend r, .send)], r.op = io.2 →
         Makes io.1 s (fun t => t.sent = s.sent ++ [.roce r.qpn 0 (q.head r.psn) []] ∧ t.mem = s.mem ∧ t.parts = s.parts))
     ∧ Makes (.cnpReceive r.qpn) s (fun t => t.mem = s.mem ∧ t.host.cnpIn = min (s.host.cnpIn + 1) (2 ^ 64 - 1)
         ∧ t.qp? part qidx = some { q with rate := Nat.max 1000 (q.rate / 2), cnp := some s.now })
     ∧ (∀ t0, q.cnp = some t0 → t0 + 55000 ≤ s.now → Makes (.rateRecoveryStep r.qpn) s (fun t => t.mem = s.mem
         ∧ ∃ p, t.qp? part qidx = some p ∧ p.rate = min s.host.rate (q.rate + s.odGet 0 0x5030 0)
           ∧ p.cnp = if p.rate = s.host.rate then none else some s.now))))

/-! ## Snapshots and restart (R397–R416) -/

/-- R399–R401, R405, R408: the leader's TAKE names the step after next, and a chip keeps it for the commit of its step; one that comes
late fails, as does one whose step is not committed in time. The drain sends its blocks in ascending order, from the first-touch copy where
there is one, and counts a block done when it is acknowledged; a refusal or a silence fails the snapshot; when every block is done
the part is TAKEN, and COMPLETE once every chip of the job has said so. -/
def Obligations.SnapshotsDrain : Prop :=
  ∀ (part : Nat) (s : State),
    (let x := s.part part
     let n := s.expected part
     let fails (id : Nat) (t : Device) := (∃ r ∈ (t.part part).snap.rows, r.id = id ∧ r.state = 3) ∧ t.mem = s.mem ∧ t.panes = s.panes
     (∀ t0, x.snap.nextTake = some t0 → t0 ≤ s.now → s.leads part = true → x.state ≠ .absent → s.odGet part 0xA000 1 = 1 →
       n + 2 < 2 ^ 62 → Makes (.snapshotTakeSend part) s (fun t => t.mem = s.mem ∧ (t.part part).snap = { x.snap with
         nextTake := none, takes := x.snap.takes ++ [(x.nextSnapId % 2 ^ 32, n + 2, s.now)] }
         ∧ (s.chip, 0x12, x.job, n + 2) ∈ t.fabric.seen))
     ∧ (∀ (m : TMsg) (y : Session) (e : Entry), Acts s.toDevice m y e → m.index = 0xA010 → y.part = part →
       (s.leads part = false → ActionGives (.snapshotNow m) s m y e stAccess (fun t => (t.part part).snap = x.snap ∧ t.mem = s.mem))
       ∧ (s.leads part = true → x.armed = true → ActionGives (.snapshotNow m) s m y e stResource (fun t =>
           (t.part part).snap = x.snap ∧ t.mem = s.mem))
       ∧ (s.leads part = true → x.armed = false → n + 2 < 2 ^ 62 → ActionGives (.snapshotNow m) s m y e stOk (fun t =>
           t.mem = s.mem ∧ (t.part part).snap.takes = x.snap.takes ++ [(x.nextSnapId % 2 ^ 32, n + 2, s.now)])))
     ∧ (∀ (door : Nat) (c : SyncCell), s.doorInDomain door = true → c.skind = 0x12 → c.rsv = 0 → c.cause = 0 →
       c.domain = s.lintel.domain → s.fabric.seen.contains (cellIdentity c) = false → s.cellPart? c = some part →
       (markKind c = 0 → c.payload < 2 ^ 32 → n ≤ c.step % 2 ^ 62 → Makes (.snapmarkTake door c) s (fun t => t.mem = s.mem
         ∧ (t.part part).snap = { x.snap with takes := x.snap.takes ++ [(c.payload, c.step % 2 ^ 62, s.now)] }))
       ∧ (markKind c = 0 → c.payload < 2 ^ 32 → c.step % 2 ^ 62 < n → Makes (.snapmarkTake door c) s (fails c.payload))
       ∧ (markKind c = 1 → c.payload < 2 ^ 136 → Makes (.snapmarkTaken door c) s (fun t => t.mem = s.mem
         ∧ (c.origin, fld c.payload 0 32, fld c.payload 32 64, fld c.payload 96 32, fld c.payload 128 8) ∈ (t.part part).snap.taken)))
     ∧ ((∀ k ∈ x.snap.takes, s.now < k.2.2 + 1000 * s.odGet part 0x6112 0) → Gives (.snapshotArmTimeout part) s s.toDevice)
     ∧ (∀ id step t0, x.snap.takes = [(id, step, t0)] → t0 + 1000 * s.odGet part 0x6112 0 ≤ s.now →
       Makes (.snapshotArmTimeout part) s (fun t => fails id t ∧ (t.part part).snap.takes = []))
     ∧ (∀ row, x.armedRow = some row →
       (∀ key rest, x.snap.todo = key :: rest → Makes (.snapshotDrainBlock part) s (fun t => t.mem = s.mem
         ∧ (t.part part).snap = { x.snap with todo := rest, sent := SMap.put x.snap.sent key s.now }
         ∧ (let data := (SMap.find x.snap.copied key).getD (s.blockBytes part (key / 2 ^ 27) (key % 2 ^ 27))
            t.sent = s.sent ++ [.snapBlock row.buddy x.job row.id x.snap.armed (key / 2 ^ 27) (key % 2 ^ 27) data (Config.sha3 data)])))
       ∧ (∀ pool block t0, SMap.find x.snap.sent (pool * 2 ^ 27 + block) = some t0 →
         Makes (.snapshotBlockAck part pool block stOk) s (fun t => t.mem = s.mem ∧ (t.part part).snap = { x.snap with
           sent := SMap.del x.snap.sent (pool * 2 ^ 27 + block), copied := SMap.del x.snap.copied (pool * 2 ^ 27 + block) })
         ∧ (∀ status, status ≠ stOk → Makes (.snapshotBlockAck part pool block status) s (fun t => fails row.id t
             ∧ (t.part part).snap.armed = none ∧ (t.part part).snap.todo = []))
         ∧ (t0 + 1000 * s.odGet part 0x6111 0 ≤ s.now → Makes (.snapshotBlockTimeout part pool block) s (fun t => fails row.id t
             ∧ (t.part part).snap.armed = none ∧ (t.part part).snap.todo = [])))
       ∧ (x.snap.todo = [] → x.snap.sent = [] → Makes (.snapshotDrainEnd part) s (fun t => t.mem = s.mem
           ∧ (t.part part).snap.armed = none ∧ (t.part part).snap.copied = []
           ∧ (∃ r ∈ (t.part part).snap.rows, r.id = row.id ∧ r.step = row.step ∧ r.tarm = row.tarm ∧ r.state ≠ 0
             ∧ (s.jobChips part = [s.chip] → (∀ k ∈ x.snap.taken, k.2.1 ≠ row.id) → r.state = 2))))))

/-- R363, R404, R406, R409–R412, R414: a buddy keeps a block that its reserve has room for, and refuses it otherwise; a retract makes the
snapshots armed since INVALID, poisons what its chip has written since, and refuses that chip. A restore that its checks pass asks its
source for the blocks; a good block is written, and the last one sets the step that follows; a bad block or a silence ends it. A held
copy is mapped, and is not once it is let go. -/
def Obligations.CopiesAndRestores : Prop :=
  (∀ (job origin id pool block part : Nat) (head : SnapHeader) (data : List Byte) (digest : BitVec 512) (s : State),
    s.jobPart? job = some part → s.inJobSet part origin = true → s.takenVerdict part id ≠ some 3 →
    (let x := s.part part
     let full := fld x.desc 80 16 * 2 ^ 30 < x.reserveUsed + 32832
     (¬full → (∀ c ∈ x.snap.copies, c.origin ≠ origin) → Makes (.snapshotBlockReceive job origin id head pool block data digest) s
       (fun t => t.mem = s.mem ∧ t.sent = s.sent ++ [.snapAck origin job pool block stOk] ∧ ∃ c, (t.part part).snap.copies =
         x.snap.copies ++ [c] ∧ c.origin = origin ∧ c.id = id ∧ c.state = 0 ∧ c.head = head
           ∧ SMap.find c.blocks (pool * 2 ^ 27 + block) = some data ∧ SMap.find c.digest (pool * 2 ^ 27 + block) = some digest))
     ∧ (full → Makes (.snapshotBlockReceive job origin id head pool block data digest) s (fun t => t.mem = s.mem ∧ t.parts = s.parts
         ∧ t.sent = s.sent ++ [.snapAck origin job pool block stResource]))))
  ∧ (∀ (door : Nat) (c : SyncCell) (part : Nat) (s : State), s.doorInDomain door = true → c.skind = 0x12 → c.rsv = 0 → c.cause = 0 →
    c.domain = s.lintel.domain → s.fabric.seen.contains (cellIdentity c) = false → s.cellPart? c = some part → markKind c = 2 →
    c.payload % 2 ^ 136 = 0 → c.payload < 2 ^ 216 → Memory.wf s.mem = true →
    (let cut := c.step % 2 ^ 62 * 256 - 64
     Makes (.snapmarkRetract door c) s (fun t => c.origin ∈ (t.part part).refused
       ∧ (t.part part).snap.rows = (s.part part).snap.rows.map (fun r => if cut ≤ r.tarm then { r with state := 4 } else r)
       ∧ (∀ e ∈ s.mem.log, e.part = part → e.chip = c.origin → cut ≤ e.time → ∀ k ∈ e.sectors, k * 32 / 2 ^ 43 % 2 = 0 →
           t.mem.marked k = true)
       ∧ (∀ a, ∀ e ∈ (s.pane a).log, e.part = part → e.chip = c.origin → cut ≤ e.time → ∀ k ∈ e.sectors, (t.pane a).lsPoisoned k = true)
       ∧ eventBody 0x8003 2 part s.now [(c.step % 2 ^ 62, 8)] ∈ (t.part part).events)))
  ∧ (∀ (m : TMsg) (src : RestoreSource) (s : State) (x : Session) (e : Entry), Acts s.toDevice m x e → m.index = 0xA030 →
    (let d := ofBytes m.value
     (s.restoreStatus x.part d src ≠ stOk → ActionGives (.snapshotRestore m src) s m x e (s.restoreStatus x.part d src) (fun t =>
       t.mem = s.mem ∧ (t.part x.part).snap = (s.part x.part).snap))
     ∧ (s.restoreStatus x.part d src = stOk → src.blocks ≠ [] → (∀ kd ∈ (s.part x.part).shards, kd.2.leaving = none) →
       Makes (.snapshotRestore m src) s (fun t => t.mem.bytes = s.mem.bytes ∧ (t.part x.part).snap.restore = some m
         ∧ (t.part x.part).snap.restTodo = src.blocks ∧ (t.part x.part).shards = []
         ∧ .fetchCopy (restSource d) (s.part x.part).job (restOrigin d) (restId d) ∈ t.sent))))
  ∧ (∀ (part pool block : Nat) (data : List Byte) (stored : BitVec 512) (s : State) (m : TMsg) (src : RestoreSource),
    (s.part part).snap.restore = some m → (s.part part).snap.restSrc = some src → restReplica (ofBytes m.value) = 0xFFF →
    (s.part part).snap.restTodo.contains (pool * 2 ^ 27 + block) = true → data.length = 32768 → block * 32768 + 32768 ≤ 2 ^ 43 →
    (let rest := (s.part part).snap.restTodo.filter (· != pool * 2 ^ 27 + block)
     (Config.sha3 data = stored → Memory.wf s.mem = true → (∀ o c, s.poisonAt part pool c o = false) →
       (∀ f ∈ s.mem.forwards, ∀ ws, f.writes = some ws → ∀ w ∈ ws, w.1 < 32) →
       Makes (.restoreBlockReceive part pool block data stored none) s (fun t =>
         (∀ i c, i < 32768 → c ∈ s.copies part pool → t.byteAt part pool c (block * 32768 + i) = data.getD i 0)
         ∧ (∀ o, o < 2 ^ 43 → o < block * 32768 ∨ block * 32768 + 32768 ≤ o → t.byteAt part pool 0 o = s.byteAt part pool 0 o)
         ∧ (t.part part).snap.restTodo = rest
         ∧ (rest ≠ [] → (t.part part).snap.restore = some m ∧ (t.part part).snap.restTime = s.now)
         ∧ (rest = [] → t.odGet part 0x7110 4 = (src.step + 1) % 2 ^ 64 ∧ t.odGet part 0x7110 8 = src.run % 2 ^ 32
             ∧ (t.part part).refused = [] ∧ (t.part part).snap.restore = none)))
     ∧ (Config.sha3 data ≠ stored → Makes (.restoreBlockReceive part pool block data stored none) s (fun t => t.panes = s.panes
         ∧ (t.part part).snap.restore = none ∧ ∀ e, odEntry m.index m.sub = some e → t.lastStatus part e = stPoison))
     ∧ ((s.part part).snap.restTime + 1000 * s.odGet part 0x6111 0 ≤ s.now → Makes (.restoreBlockTimeout part) s (fun t =>
         t.panes = s.panes ∧ (t.part part).snap.restore = none
           ∧ ∀ e, odEntry m.index m.sub = some e → t.lastStatus part e = stTimeout))))
  ∧ ∀ (m : TMsg) (s : State) (x : Session) (e : Entry), Acts s.toDevice m x e → m.index = 0xA040 →
    (let d := ofBytes m.value
     let id := fld d 0 32
     let origin := fld d 32 12
     let va := fld d 64 57
     let y := s.part x.part
     let others := y.maps.filter (fun k => !k.isImage origin id)
     fld d 44 20 = 0 → fld d 121 7 = 0 → va % 2 ^ 30 = 0 → va < 2 ^ 48 →
     ((∀ c ∈ y.snap.copies, ¬(c.origin = origin ∧ c.id = id)) → ActionGives (.snapshotHold m) s m x e stResource (fun t =>
       t.mem = s.mem ∧ (t.part x.part).maps = y.maps ∧ (t.part x.part).snap = y.snap))
     ∧ ∀ c, y.snap.copies.find? (fun c => c.origin == origin && c.id == id) = some c →
       (va = 0 → ActionGives (.snapshotHold m) s m x e stOk (fun t => t.mem = s.mem ∧ (t.part x.part).maps = others
         ∧ ∀ k ∈ (t.part x.part).snap.copies, k.origin = origin → k.id = id → k.held = 0))
       ∧ (va ≠ 0 → c.state = 2 → va + 2 ^ 30 * (c.imageMap va).count ≤ 2 ^ 48 →
         others.any (fun k => k.meets (va, 2 ^ 30 * (c.imageMap va).count)) = false →
         ActionGives (.snapshotHold m) s m x e stOk (fun t => t.mem = s.mem ∧ (t.part x.part).maps = others ++ [c.imageMap va]
           ∧ ∀ k ∈ (t.part x.part).snap.copies, k.origin = origin → k.id = id → k.held = va)))

/-! ## Resets (R380–R396) -/

/-- R372, R382, R383, R385, R388, R389, R391–R393: a context reset clears a partition's panes but their local store; one that some panes do
not finish goes on under its watchdog, and a fence asked for meanwhile waits; a fence stops its cohorts and drains, completes its outstanding
operations with FENCED after 40 ms, and ends the step when it is complete; a sash reset fences the partitions on the sash and reports
when its panes are tested; a device reset leaves the MRAM and the unit history and starts at stage 1; a watchdog that runs out retires the
panes that hung, completes its stage and goes on to the enclosing one, at last to FAULT. -/
def Obligations.Resets : Prop :=
  (∀ (m : TMsg) (s : State) (x : Session) (e : Entry), Acts s.toDevice m x e →
    (∀ hung, m.index = 0xA110 →
      (s.shuttered = true → ActionGives (.contextReset m hung) s m x e stResource (fun t => t.panes = s.panes ∧ t.mem = s.mem))
      ∧ (s.shuttered = false → (s.part x.part).state ≠ .destroying → (s.part x.part).fence = .none → s.resetting x.part = false →
        s.units.moves = [] →
        (let stuck := (s.panesOf x.part).filter hung.contains
         let clears (t : Device) := (∀ kv ∈ t.cohorts, kv.2.part ≠ x.part)
           ∧ (∀ a ∈ s.panesOf x.part, a ∉ hung → (t.pane a).groups = [] ∧ (t.pane a).mq = [] ∧ (t.pane a).copies = []
               ∧ (t.pane a).acc = [] ∧ (t.pane a).ls = (s.pane a).ls)
           ∧ ∀ a, a ∉ s.panesOf x.part → t.pane a = s.pane a
         (stuck = [] → (∀ kq ∈ (s.part x.part).queues, kq.2.dying = none) → ActionGives (.contextReset m hung) s m x e stOk (fun t =>
           clears t ∧ (t.part x.part).fence = .none ∧ t.resetting x.part = false))
         ∧ (stuck ≠ [] → Makes (.contextReset m hung) s (fun t => clears t ∧ (∀ a ∈ stuck, (t.pane a).paused = true)
             ∧ t.sent = s.sent ∧ ∃ y, t.stage? 1 x.part = some y ∧ y.msg = some m ∧ y.panes = stuck.map s.phys ∧ y.start = s.now)))))
    ∧ (let p := ofBytes m.value
       m.index = 0xA101 → s.shuttered = false →
       ((s.part p).state = .absent → ActionGives (.fencePartition m) s m x e stMalformed (fun t => t.panes = s.panes ∧ t.mem = s.mem))
       ∧ ((s.part p).state ≠ .absent → (s.part p).fence ≠ .none → ActionGives (.fencePartition m) s m x e stOk (fun t =>
           t.panes = s.panes ∧ t.mem = s.mem))
       ∧ ((s.part p).state ≠ .absent → (s.part p).fence = .none → s.resetting p = true → Makes (.fencePartition m) s (fun t =>
           t.part p = s.part p ∧ t.panes = s.panes ∧ t.mem = s.mem ∧ t.cohorts = s.cohorts
             ∧ ∃ y ms, t.stage? 1 p = some y ∧ y.fence = some ms ∧ m ∈ ms))
       ∧ ((s.part p).state ≠ .absent → (s.part p).fence = .none → s.resetting p = false → Makes (.fencePartition m) s (fun t =>
           (t.part p).fence = .draining s.now ∧ (t.part p).fenceMsgs = [m] ∧ (t.stage? 3 p).isSome = true
             ∧ ∀ kv ∈ t.cohorts, kv.2.part ≠ p)))
    ∧ (let sash := ofBytes m.value - 1
       m.index = 0xA100 → ofBytes m.value = 1 ∨ ofBytes m.value = 2 → s.shuttered = false → s.stage? 4 sash = none →
       (∀ p ∈ s.partsOnSash sash, s.resetting p = false) → Makes (.sashReset m) s (fun t => t.boot.state = 3 ∧ (∃ y, t.stage? 4 sash = some y ∧ y.msg = some m)
         ∧ ∀ p ∈ s.partsOnSash sash, (t.part p).fence ≠ .none))
    ∧ (m.index = 0xA100 → ofBytes m.value = 3 → Makes (.deviceReset m) s (fun t => t.boot.state = 3 ∧ t.boot.stage = 1
        ∧ t.mram = s.mram ∧ t.units.retired = s.units.retired ∧ t.parts = [] ∧ t.panes = [] ∧ t.cohorts = [] ∧ t.mem = {} ∧ t.od = []
        ∧ t.transom.sessions = [] ∧ t.fabric = {} ∧ t.lintel = {})))
  ∧ (∀ (part since : Nat) (s : State), (s.part part).fence = .draining since →
    (since + 40000000 ≤ s.now → (∀ kv ∈ s.fabric.ops, kv.2.tid = kv.1) → Makes (.fenceDrainTimeout part) s (fun t =>
      ∀ kv ∈ t.fabric.ops, kv.2.part = part → kv.2.stats = true))
    ∧ (s.now < since + 40000000 → Gives (.fenceDrainTimeout part) s s.toDevice)
    ∧ (s.drained part = true → (s.part part).destroyMsg = none → Makes (.fenceComplete part) s (fun t => (t.part part).fence = .done
        ∧ (t.part part).step = {} ∧ (t.part part).fenceMsgs = [] ∧ (∀ q ∈ t.mem.held, q.part ≠ part)
        ∧ ((∀ kd ∈ (s.part part).shards, kd.2.leaving = none) → t.mem.bytes = s.mem.bytes)))
    ∧ (s.drained part = false → Gives (.fenceComplete part) s s.toDevice))
  ∧ (∀ (sash : Nat) (s : State) (x : StageSt), s.stage? 4 sash = some x → x.begun = true → x.msg = none → (s.sash sash).tripped = false →
    (∀ p, sash * 169 ≤ p → p < sash * 169 + 169 → (s.unit 1 p).state ≠ .testing) →
    (∀ y ∈ s.boot.stages, 4 ≤ y.stage → y.isFor 4 sash = true) → s.partsOnSash sash = [] →
    Makes (.sashResetComplete sash) s (fun t => t.boot.state = 1 ∧ t.stage? 4 sash = none ∧ t.panes = s.panes ∧ t.mem = s.mem
      ∧ eventBody 0xA002 0 0xFF s.now [(4, 1), (0, 1)] ∈ t.transom.log))
  ∧ ∀ (stage target : Nat) (s : State) (x : StageSt), s.stage? stage target = some x → x.paused = none →
    (s.now < x.start + x.limit → Gives (.resetWatchdogExpiry stage target) s s.toDevice)
    ∧ (x.start + x.limit ≤ s.now →
      (stage = 1 → x.fence = none → Makes (.resetWatchdogExpiry stage target) s (fun t => t.resetting target = false
        ∧ (t.part target).fence = .none ∧ ∀ q ∈ x.panes, (t.unit 1 q).state = .retired ∧ (t.stage? 2 q).isSome = true))
      ∧ (stage = 2 → (∀ a q k, SMap.find s.units.moves a = some (.migrate q k) → s.phys a ≠ target) → Makes (.resetWatchdogExpiry stage target) s (fun t => (t.unit 1 target).state = .retired
        ∧ t.stage? 2 target = none ∧ ∀ p, x.part = some p → s.resetting p = false → (t.part p).fence ≠ .none))
      ∧ (stage = 3 → (s.part target).destroyMsg = none → Makes (.resetWatchdogExpiry stage target) s (fun t => (t.part target).fence = .done))
      ∧ (stage = 4 → Makes (.resetWatchdogExpiry stage target) s (fun t => t.boot.state = 3 ∧ t.boot.stage = 1 ∧ t.parts = []
          ∧ t.mram = s.mram))
      ∧ (stage = 5 → Makes (.resetWatchdogExpiry stage target) s (fun t => t.boot.state = 4 ∧ t.boot.stages = [] ∧ t.mem = s.mem)))

/-! ## Power and heat (R417–R427) -/

/-- R417, R419–R423: an applied voltage moves toward its target by 5 mV; a period above the cap lowers it, and one above it at FLOOR is
counted and reported once; a hot spot of 103 °C takes the ceiling to 620 mV and is reported once, one of 105 °C trips its
sash and resets it, and a frame at 110 °C shutters the module; a tripped sash returns after a second below 90 °C; a sash
without a cohort for a millisecond idles. -/
def Obligations.PowerAndHeat : Prop :=
  ∀ (sash : Nat) (s : State), sash < 2 →
    (s.railsOn = true → (s.sash sash).off = false → Makes (.voltageSlewStep sash) s (fun t =>
      (let v := (s.sash sash).applied
       let target := s.target sash
       t.sash sash = { s.sash sash with applied := if v < target then min target (v + 5) else Nat.max target (v - 5) })
        ∧ t.sash (1 - sash) = s.sash (1 - sash) ∧ t.mem = s.mem ∧ t.panes = s.panes))
    ∧ (∀ mean, s.railsOn = true →
      (let cap := s.odGet 0 0x2010 0
       (cap < mean → Makes (.capControlPeriod mean) s (fun t => t.power.cut = s.power.cut + 5 ∧ t.power.lastRise = some s.now
         ∧ t.mem = s.mem ∧ t.panes = s.panes))
       ∧ (mean ≤ cap → cap * 97 ≤ mean * 100 → Makes (.capControlPeriod mean) s (fun t => t.power.cut = s.power.cut
           ∧ t.power.limited = false ∧ t.mem = s.mem))
       ∧ (mean * 100 < cap * 97 → (∀ t0, s.power.lastRise = some t0 → t0 + 1000000 ≤ s.now) → Makes (.capControlPeriod mean) s (fun t =>
           t.power.cut = s.power.cut - 5 ∧ t.power.limited = false ∧ t.mem = s.mem))
       ∧ (cap < mean → s.power.limited = false → (∀ k, k < 2 → (s.sash k).applied = 620 ∧ s.limitOf k < 620) →
         Makes (.capControlPeriod mean) s (fun t => t.power.limited = true ∧ t.power.quarters = (s.power.quarters + 1) % 4
           ∧ eventBody 0x2002 1 0xFF s.now [(cap, 4), (mean, 4)] ∈ t.transom.log))))
    ∧ (∀ hot sensor frame, frame < 110 →
      (hot < 103 → Makes (.thermalSample sash hot sensor frame) s (fun t => (t.sash sash).hot = hot ∧ (t.sash sash).forced = false
        ∧ t.transom = s.transom ∧ t.mem = s.mem ∧ t.panes = s.panes ∧ t.sash (1 - sash) = s.sash (1 - sash)
        ∧ (t.sash sash).ceiling ≤ Nat.max 620 ((s.sash sash).ceiling + 5) ∧ min 620 ((s.sash sash).ceiling) ≤ (t.sash sash).ceiling))
      ∧ (103 ≤ hot → hot < 105 → Makes (.thermalSample sash hot sensor frame) s (fun t => (t.sash sash).ceiling = 620
          ∧ t.mem = s.mem ∧ t.panes = s.panes ∧ ((s.sash sash).forced = false →
            eventBody 0x2003 2 0xFF s.now [(sash, 1), (hot * 1000 + 273150, 4)] ∈ t.transom.log)))
      ∧ (105 ≤ hot → (s.sash sash).tripped = false → s.railsOn = true → s.stage? 4 sash = none →
        Makes (.thermalSample sash hot sensor frame) s (fun t => (t.sash sash).off = true ∧ (t.sash sash).tripped = true
          ∧ t.boot.state = 3 ∧ (t.stage? 4 sash).isSome = true)))
    ∧ (∀ hot sensor frame, hot < 103 → 110 ≤ frame → s.railsOn = true → (∀ p, s.resetting p = false) → Makes (.thermalSample sash hot sensor frame) s (fun t =>
        t.power.state = 3 ∧ t.power.thermalShutter = true ∧ t.boot.state = 2 ∧ (t.sash 0).off = true ∧ (t.sash 1).off = true
          ∧ ∀ p, (s.part p).state ≠ .absent → (t.part p).fence ≠ .none))
    ∧ (∀ t0, (s.sash sash).tripped = true → (s.sash sash).coolSince = some t0 → t0 + 1000000000 ≤ s.now →
      Makes (.coolingWaitDone sash) s (fun t => (t.sash sash).tripped = false ∧ (t.sash sash).off = s.shuttered))
    ∧ ((∀ kv ∈ s.cohorts, sashOf kv.2.pane ≠ sash) →
      (∀ t0, (s.sash sash).emptySince = some t0 → t0 + 1000000 ≤ s.now → Makes (.idleDetect sash) s (fun t =>
        t.sash sash = { s.sash sash with idle := true } ∧ t.mem = s.mem ∧ t.panes = s.panes))
      ∧ ((s.sash sash).emptySince = none → Makes (.idleDetect sash) s (fun t =>
        t.sash sash = { s.sash sash with emptySince := some s.now } ∧ t.mem = s.mem ∧ t.panes = s.panes)))

/-- R424–R426: a shuttered state is entered only by a module at rest, keeps memory and the named panes' local store, and turns the
sashes off; leaving it clears every pane but the local stores kept, and trains the doors and the host port anew. -/
def Obligations.ShutteredStates : Prop :=
  ∀ (m : TMsg) (s : State) (x : Session) (e : Entry), Acts s.toDevice m x e → m.index = 0x2001 →
    (∀ state, state = 2 ∨ state = 3 → ofBytes m.value = state →
      (let i := if state = 2 then Instr.shutterRetention m else .shutterRefreshOnly m
       (s.shutterBusy = true → ActionGives i s m x e stResource (fun t => t.power = s.power ∧ t.boot = s.boot ∧ t.fabric = s.fabric
         ∧ t.mem = s.mem))
       ∧ (s.shutterBusy = false → ActionGives i s m x e stOk (fun t => t.power.state = state ∧ t.boot.state = 2
           ∧ t.power.retained = (if state = 2 then s.odGet 0 0x2050 0 else 0) ∧ t.host.link = 0 ∧ t.panes = s.panes
           ∧ t.mem.bytes = s.mem.bytes ∧ (t.sash 0).off = true ∧ (t.sash 1).off = true
           ∧ ∀ d, d < 24 → (t.door d).state = .down ∨ (t.door d).state = .unused))))
    ∧ (ofBytes m.value = 0 → s.shuttered = false → ActionGives (.shutterExit m) s m x e stOk (fun t => t.power = s.power ∧ t.panes = s.panes))
    ∧ (ofBytes m.value = 0 → s.shuttered = true → s.tooHot = true → ActionGives (.shutterExit m) s m x e stResource (fun t =>
        t.power = s.power ∧ t.panes = s.panes))
    ∧ (ofBytes m.value = 0 → s.shuttered = true → s.tooHot = false → ActionGives (.shutterExit m) s m x e stOk (fun t =>
        t.power.state = 0 ∧ t.host.link = 1 ∧ t.mem = s.mem ∧ (t.boot.state = 1 ∨ t.boot.state = 3)
          ∧ (∀ a, (t.pane a).groups = [] ∧ (t.pane a).acc = [] ∧ (t.pane a).ls = if bit s.power.retained a then (s.pane a).ls else [])
          ∧ (t.sash 0).off = (s.sash 0).tripped ∧ (t.sash 1).off = (s.sash 1).tripped))

/-! ## The start (R429–R441, R451–R458) -/

/-- R381, R430, R451–R454, R458: an input in range turns the module on; a turn-off within what it survives loses everything but the
MRAM, the fuses and the history, a brief excursion nothing, and past that the model stops; RESET_N low resets the device
once; a lost reference puts a locked lintel in HOLDOVER and retrains the doors; a failed random source is noted. -/
def Obligations.SupplyAndReset : Prop :=
  (∀ (mv : Nat) (s : State), 40000 ≤ mv → mv ≤ 60000 →
    Gives (.vinTurnOn mv) s { s.toDevice with boot := { s.boot with vin := mv, pwrgd := true } })
  ∧ (∀ (cause : TurnOff) (s : State),
    (TurnOff.damages cause = true → exec (.vinTurnOff cause) s = .fault .damaged)
    ∧ (TurnOff.damages cause = false → TurnOff.turnsOff cause = true → s.boot.pwrgd = true → Makes (.vinTurnOff cause) s (fun t =>
        t.boot.pwrgd = false ∧ t.boot.stage = 1 ∧ t.mram = s.mram ∧ t.units.retired = s.units.retired ∧ t.panes = [] ∧ t.parts = []
          ∧ t.mem = {} ∧ t.od = [] ∧ t.transom.sessions = []))
    ∧ (TurnOff.damages cause = false → TurnOff.turnsOff cause = false → Makes (.vinTurnOff cause) s (fun t =>
        t = { s.toDevice with boot := { s.boot with vin := t.boot.vin } })))
  ∧ ∀ (s : State), (s.boot.resetLow = false → s.boot.pwrgd = true → Makes .resetNFall s (fun t => t.boot.state = 3 ∧ t.boot.stage = 1
      ∧ t.boot.resetLow = true ∧ t.mram = s.mram ∧ t.units.retired = s.units.retired ∧ t.parts = [] ∧ t.mem = {}))
    ∧ (s.boot.resetLow = true → Gives .resetNFall s s.toDevice)
    ∧ (s.boot.pwrgd = true → Gives .randomSourceFailure s { s.toDevice with boot := { s.boot with random := false, reason := 9 } })
    ∧ (s.boot.clock = 1 → Makes .refclkLoss s (fun t => t.boot.clock = 2 ∧ t.now = s.now ∧ t.mem = s.mem ∧ t.panes = s.panes
        ∧ (s.lintel.state = 2 → t.lintel.state = 3) ∧ (∀ d, d < 24 → s.doorUp d = true → (t.door d).state = .retraining)
        ∧ (s.hostUp = true → t.host.link = 1) ∧ (s.ready = true → eventBody 0x1005 1 0xFF s.now [] ∈ t.transom.log)))
    ∧ (s.boot.clock ≠ 1 → Gives .refclkLoss s s.toDevice)

/-- R336, R338, R429, R432–R438, R457: a start reaches delivery with the committed set in force, or stops at FAULT where a part that
it needs fails; offers go out until a source is bound; its segments are accepted in order; a bundle that fails a check is refused with its
reason and the binding ends, and one that passes takes the start to stage 8; a trained module then becomes Ready with partition
0. -/
def Obligations.Starts : Prop :=
  (∀ (p : StartInputs) (s : State), s.boot.pwrgd = true → s.boot.stage = 1 → s.boot.state ≠ 4 →
    (p.pufOk = false → Makes (.powerGood p) s (fun t => t.boot.state = 4 ∧ t.boot.reason = 7 ∧ t.mram = s.mram))
    ∧ (p.pufOk = true → p.mramOk = false → Makes (.powerGood p) s (fun t => t.boot.state = 4 ∧ t.boot.reason = 11 ∧ t.mram = s.mram))
    ∧ (p.pufOk = true → p.mramOk = true → Makes (.powerGood p) s (fun t => t.boot.stage = 4 ∧ t.boot.state = s.boot.state
        ∧ t.boot.resetLow = false ∧ t.host.link = 1 ∧ t.host.sideband ≠ 0 ∧ t.mem = s.mem ∧ t.panes = s.panes
        ∧ (∀ set, s.mram.committed = some set → p.committedOk = true → s.units.history = [] → t.od = set))))
  ∧ (∀ (failed : Option Nat) (bad : List Nat) (s : State), 3 ≤ s.boot.stage → s.boot.stage < 9 → s.boot.trained = false →
    s.boot.state ≠ 4 →
    (failed.isSome = true → Makes (.stackTrainingDone failed bad) s (fun t => t.boot.state = 4 ∧ t.boot.reason = 8 ∧ t.mem = s.mem))
    ∧ (failed = none → bad = [] → Gives (.stackTrainingDone failed bad) s { s.toDevice with boot := { s.boot with trained := true } })
    ∧ (∀ n, failed = none → bad = [n] → n < 1280 → (s.stack (n / 64)).spent = none → Makes (.stackTrainingDone failed bad) s (fun t =>
        t.boot.trained = true ∧ (t.stack (n / 64)).spent = some (n % 64) ∧ (t.unit 2 n).state = .retired ∧ t.mem = s.mem)))
  ∧ (∀ (s : State), s.takesDelivery = true →
    (s.boot.bound = none → Makes .deliveryOffer s (fun t => t.sent = s.sent ++ [.delivery 1 0 0 s.offerBody] ∧ t.boot.stage = 5 ∧ t.mram = s.mram))
    ∧ (∀ source, s.boot.bound = some source →
      Makes (.deliveryAbort source) s (fun t => t.boot.bound = none ∧ t.boot.bytes = [] ∧ t.sent = s.sent)
      ∧ (s.boot.lastSeg + 5000000000 ≤ s.now → Makes .deliveryLapse s (fun t => t.boot.bound = none ∧ t.boot.bytes = []
          ∧ t.boot.reason = 6 ∧ t.sent = s.sent ++ [.delivery 4 0 6 []]))
      ∧ ∀ (g : Segment) (b : BundleVerdict), g.bootid = s.boot.bootid → g.rsv = 0 → g.body ≠ [] → g.body.length ≤ 8192 →
        (g.source ≠ source → Gives (.deliverySegment g b) s s.toDevice)
        ∧ (let all := s.boot.bytes ++ g.body
           g.source = source → g.offset = s.boot.bytes.length → all.length ≤ s.boot.acked + 524288 →
           (bundleOf all = none → Makes (.deliverySegment g b) s (fun t => t.boot.bytes = all ∧ t.boot.lastSeg = s.now
             ∧ t.boot.bound = some source ∧ t.mram = s.mram))
           ∧ ∀ bundle, bundleOf all = some bundle →
             (let reason := s.bundleReason (ofBytes (bundle.take 16384)) b
              (reason ≠ 0 → Makes (.deliverySegment g b) s (fun t => t.boot.bound = none ∧ t.boot.bytes = [] ∧ t.boot.reason = reason
                ∧ t.boot.rejects = min 255 (s.boot.rejects + 1) ∧ t.boot.stage = s.boot.stage ∧ t.mram = s.mram
                ∧ t.sent = s.sent ++ [.delivery 4 0 reason []]))
              ∧ (reason = 0 → Makes (.deliverySegment g b) s (fun t => t.boot.stage = 8
                  ∧ t.boot.version = bundleVersion (ofBytes (bundle.take 16384))
                  ∧ t.mram.fuseFloor = Nat.max s.mram.fuseFloor b.burn ∧ .delivery 3 bundle.length 0 [] ∈ t.sent))))))
  ∧ ∀ (s : State), s.boot.stage = 8 → s.boot.trained = true → s.boot.state ≠ 4 →
    Makes (.bootReady []) s (fun t => t.boot.stage = 9 ∧ t.boot.state = 1 ∧ t.ready = true ∧ (t.part 0).state = .active
      ∧ (t.part 0).pools = [] ∧ (∀ d, d < 24 → (s.door d).state = .training → (t.door d).state = .down) ∧ t.mem = s.mem
      ∧ eventBody 0x1001 0 0xFF s.now [(s.boot.version, 4)] ∈ t.transom.log)

/-! ## The whole block -/

/-- The command at the front of the queue has its effect, on the module with the rest of the queue; with no command waiting one
nanosecond of the lintel passes (a tick is the model's own choice, assumption 2), and nothing else changes but the seconds of
operation and, where the host port holds frames back, what leaves it (R38, R315, R365). -/
def Obligations.StepTakesFront : Prop :=
  (∀ (c : Instr) (rest : List Instr) (s : State), step { s with pending := c :: rest } = exec c { s with pending := rest })
  ∧ (∀ (s : State), s.pending = [] → ∃ t, step s = .next t ∧ t.pending = [] ∧ t.now = (s.now + 1) % 2 ^ 64
      ∧ t.units.opsec = (if (s.now + 1) % 2 ^ 64 % 1000000000 = 0 then s.units.opsec + 1 else s.units.opsec)
      ∧ (let u := { s.toDevice with lintel := { s.lintel with now := t.now }, units := { s.units with opsec := t.units.opsec } }
         t.toDevice = { u with host := { s.host with held := t.host.held, framesOut := t.host.framesOut }, sent := t.sent, use := t.use,
                               fabric := { s.fabric with window := t.fabric.window, shared := t.fabric.shared } }
         ∧ (s.host.held = [] ∨ t.now < s.host.pausedUntil → t.toDevice = u)))
  ∧ ∀ (s t : State) (c : Instr) (rest : List Instr), s.pending = c :: rest → step s = .next t → t.pending = rest

/-- R16, R19, R38, R102, R153, R222, R437: right after reset no command waits, the start is at stage 1, the lintel is at zero, every
active number stands for its shipped pane, no partition exists, memory and accumulators list nothing, and every entry of the
dictionary reads its default; the queue holds only commands that can run, and memory is in canonical form. -/
def Obligations.ResetLeaves : Prop :=
  State.reset.pending = [] ∧ State.reset.boot.stage = 1 ∧ State.reset.boot.state = 0 ∧ State.reset.now = 0
    ∧ (∀ a, State.reset.paneState a = .active ∧ State.reset.phys a = (if a < 160 then 0 else 169) + a % 160
        ∧ State.reset.pane a = {})
    ∧ (∀ p, (State.reset.part p).state = .absent) ∧ (∀ c, State.reset.cohort? c = none)
    ∧ (∀ p index sub row, State.reset.odGet p index sub row = odDefault index sub row)
    ∧ (∀ p pool copy off, State.reset.byteAt p pool copy off = 0) ∧ (∀ r, State.reset.nextOf r = 0)
    ∧ queueRuns State.reset ∧ Memory.wf State.reset.mem = true

/-- Every state whose queue holds only commands that can run has a next state, and its queue holds only commands that can run: no
command that the spec gives an effect ends in a fault or a refusal, whatever the module's state. As many steps as there are
commands empty the queue. -/
def Obligations.QueuedCommandsRun : Prop :=
  (∀ (s : State), queueRuns s → ∃ t, step s = .next t ∧ queueRuns t ∧ t.pending = s.pending.tail)
  ∧ ∀ (s : State), queueRuns s → ∃ t, Sys2Proof.core.run s.pending.length s = .next t ∧ t.pending = []

/-- R339, R433, R439, R440: no step lowers the fuses' floor; and no step but a delivered bundle with a release token that verifies
breaks the seal, or changes the owner of a claimed module. -/
def Obligations.RootOfTrust : Prop :=
  ∀ (s t : State), step s = .next t →
    s.mram.fuseFloor ≤ t.mram.fuseFloor
    ∧ ((∀ g b rest, s.pending = .deliverySegment g b :: rest → b.tokenOk = false) →
      (s.mram.sealed = true → t.mram.sealed = true) ∧ (s.mram.owner ≠ [] → t.mram.owner = s.mram.owner))

/-- Every step keeps memory in its canonical form, so that equal memories are equal data. -/
def Obligations.MemoryStaysCanonical : Prop :=
  ∀ (s t : State), step s = .next t → Memory.wf s.mem = true → Memory.wf t.mem = true
end

