-- ==== Sys2Proof/Laws/Bytes.lean ====
section
/-! SUPPORT. Laws of the byte order (R5): a number's bytes spell it again, and where a list of bytes is cut. -/

namespace Sys2Proof.Machine

@[simp] theorem bytesOf_length (n len : Nat) : (bytesOf n len).length = len := by
  induction len generalizing n with
  | zero => rfl
  | succ k ih => simp [bytesOf, ih]

/-- The bytes of a number spell what of it they hold. -/
theorem ofBytes_bytesOf (n len : Nat) : ofBytes (bytesOf n len) = n % 256 ^ len := by
  induction len generalizing n with
  | zero => simp [bytesOf, ofBytes, Nat.mod_one]
  | succ k ih =>
    have h : n % 256 ^ (k + 1) = n % 256 + 256 * (n / 256 % 256 ^ k) := by
      rw [Nat.pow_succ, Nat.mul_comm, Nat.mod_mul]
    simp [bytesOf, ofBytes, ih, h]

theorem bytesOf_take (n a b : Nat) : (bytesOf n (a + b)).take a = bytesOf n a := by
  induction a generalizing n with
  | zero => simp [bytesOf]
  | succ k ih => rw [Nat.add_right_comm]; simp [bytesOf, ih]

end Sys2Proof.Machine
end

