-- ==== Sys2Proof/Laws/Commands.lean ====
section
/-! SUPPORT. What the shared rows of the commands can answer: a command changes the module and never the queue, and each kind of
row ends in a next state when its operands are its row's. -/

namespace Sys2Proof.Machine

/-! ## A command and the queue -/

theorem onDevice_next {s : State} {f : Device → Host.Outcome Device Fault Refusal} {d : Device} (h : f s.toDevice = .next d) :
    onDevice s f = .next { s with toDevice := d } := by
  unfold onDevice; rw [h]

theorem onDevice_eq_next {s t : State} {f : Device → Host.Outcome Device Fault Refusal} (h : onDevice s f = .next t) :
    f s.toDevice = .next t.toDevice ∧ t.pending = s.pending := by
  unfold onDevice at h
  split at h
  · rename_i d hd; cases h; exact ⟨hd, rfl⟩
  · cases h
  · cases h

theorem onDevice_completes {s : State} {f : Device → Host.Outcome Device Fault Refusal} (h : ∃ d, f s.toDevice = .next d) :
    Completes (onDevice s f) := by
  obtain ⟨d, hd⟩ := h; exact ⟨_, onDevice_next hd⟩

/-! ## The kinds of row -/

theorem krycha_completes {n : Nat} {own : Nat → Bool} {uses : Ctx → Uses} {body : Ctx → Device} {pane slot w w1 : Nat} {s : Device}
    (h : own w = true) : ∃ d, krycha n own uses body pane slot w w1 s = .next d := by
  unfold krycha
  simp only [h, Bool.true_or, ↓reduceIte]
  split
  · exact ⟨_, rfl⟩
  · split
    · exact ⟨_, rfl⟩
    · (repeat' (first | split | dsimp only)) <;> exact ⟨_, rfl⟩

theorem actionRow_completes {index : Nat} {mine : TMsg → Bool} {m : TMsg} {s : Device} {k : ActionBody} (hi : m.index = index)
    (hm : mine m = true) : ∃ d, actionRow index mine m s k = .next d := by
  unfold actionRow
  simp only [hi, bne_self_eq_false, hm, Bool.not_true, Bool.or_self, Bool.false_eq_true, ↓reduceIte]
  split <;> exact ⟨_, rfl⟩

theorem powerRow_completes {mine : Nat → Bool} {refused : Device → Bool} {m : TMsg} {s : Device} {k : ActionBody}
    (hi : m.index = 0x2001) (hm : mine (ofBytes m.value) = true) : ∃ d, powerRow mine refused m s k = .next d := by
  unfold powerRow
  simp only [hi, bne_self_eq_false, hm, Bool.not_true, Bool.or_self, Bool.false_eq_true, ↓reduceIte]
  split <;> exact ⟨_, rfl⟩

theorem manageRow_queue {opc p q : Nat} {s : Device} {k : ManageBody} : ∃ d, manageRow opc (.queue p q) s k = .next d := ⟨_, rfl⟩

theorem manageRow_session {opc : Nat} {m : TMsg} {s : Device} {k : ManageBody} (hi : m.index = 0x6010)
    (hm : (fld (ofBytes m.value) 0 8 == opc || !decide (0x10 ≤ fld (ofBytes m.value) 0 8 ∧ fld (ofBytes m.value) 0 8 ≤ 0x17)) = true) :
    ∃ d, manageRow opc (.session m) s k = .next d := by
  unfold manageRow; exact actionRow_completes hi hm

theorem packetRow_completes {type : Nat} {body : Device → Packet → Device} {p : Packet} {s : Device} :
    ∃ d, packetRow type body p s = .next d := by
  unfold packetRow
  split
  · exact ⟨_, rfl⟩
  · dsimp only
    (repeat' split) <;> exact ⟨_, rfl⟩

theorem cellRow_completes {mine : SyncCell → Bool} {door : Nat} {c : SyncCell} {s : Device} {act : Device → Nat → SyncCell → Device} :
    ∃ d, cellRow mine door c s act = .next d := by
  unfold cellRow
  dsimp only
  (repeat' split) <;> exact ⟨_, rfl⟩

theorem rdmaRow_completes {op : RdmaOp} {r : Rdma} {s : Device} {k : Device → Nat → Nat → Qp → Device}
    (h : (acceptedOp r && r.op != op) = false) : ∃ d, rdmaRow op r s k = .next d := by
  unfold rdmaRow
  rw [h]
  (repeat' (first | split | dsimp only)) <;> first | exact ⟨_, rfl⟩ | contradiction

/-- A well-formed packet of a row is refused by no other row's operation. -/
theorem rdma_isFor {r : Rdma} {op : RdmaOp} (h : r.isFor op = true) : (acceptedOp r && r.op != op) = false := by
  unfold Rdma.isFor at h
  unfold acceptedOp
  rcases r with ⟨_, _, tr, o, pl, ex, _, _, _, _⟩
  cases tr <;> cases o <;> cases op <;> cases pl <;> cases ex <;> simp_all

/-- The value of a message as its row reads it. -/
theorem number_eq (m : TMsg) : m.number = ofBytes m.value := by
  unfold TMsg.number
  induction m.value with
  | nil => rfl
  | cons b rest ih => simp [ofBytes, ih]

/-- The words of a row's classes and opcodes. -/
theorem issued_word {pane slot : Nat} {w : DWord} {rows : List (Nat × Nat)} (h : issued pane slot w rows = true) :
    (clsOf w.toNat, opOf w.toNat) ∈ rows := by
  unfold issued at h
  simp only [Bool.and_eq_true, List.contains_eq_mem, decide_eq_true_eq] at h
  have e : wordOp w = opOf w.toNat := by simp [wordOp, opOf, fld]
  have e' : wordClass w = clsOf w.toNat := by simp [wordClass, clsOf, fld]
  rw [← e, ← e']; exact h.2

/-- Every X entry of the object dictionary has an index whose writes are rows of their own. -/
theorem x_entries : (odTable.all (fun e => e.acc != .x || actionIndices.contains e.index)) = true := by decide +kernel

/-- A well-formed WRITE names no X entry. -/
theorem namesAction_false {m : TMsg} (h : actionIndices.contains m.index = false) : namesAction m = false := by
  unfold namesAction
  cases e : odEntry m.index m.sub with
  | none => rfl
  | some e' =>
    have h1 := List.mem_of_find?_eq_some e
    have h2 := List.find?_some e
    have h3 := List.all_eq_true.mp x_entries _ h1
    simp only [Bool.and_eq_true, beq_iff_eq] at h2
    rw [h2.1] at h3
    simp [-List.contains_eq_mem] at h3 ⊢
    rcases h3 with h3 | h3
    · exact h3
    · rw [h] at h3; cases h3

end Sys2Proof.Machine
end

