-- ==== Sys2Proof/Laws/Maps.lean ====
section
/-! SUPPORT. The sparse maps of the state: reading after writing, and the canonical form that every operation keeps. -/

namespace Sys2Proof.Machine

variable {α : Type}

@[simp] theorem SMap.find_nil (j : Nat) : SMap.find ([] : SMap α) j = none := rfl

@[simp] theorem SMap.find_put_same (m : SMap α) (j : Nat) (w : α) : SMap.find (SMap.put m j w) j = some w := by
  induction m with
  | nil => simp [SMap.put, SMap.find]
  | cons kv rest ih =>
    obtain ⟨k, v⟩ := kv
    simp only [SMap.put]
    split
    · simp [SMap.find]
    · split
      · simp [SMap.find]
      · rename_i h1 h2
        simp [SMap.find, h2, ih]

theorem SMap.find_put_other (m : SMap α) {j i : Nat} (w : α) (h : i ≠ j) : SMap.find (SMap.put m j w) i = SMap.find m i := by
  induction m with
  | nil => simp [SMap.put, SMap.find, h]
  | cons kv rest ih =>
    obtain ⟨k, v⟩ := kv
    simp only [SMap.put]
    split
    · simp [SMap.find, h]
    · split
      · rename_i h1 h2
        subst h2
        simp [SMap.find, h]
      · simp only [SMap.find, ih]

@[simp] theorem SMap.find_del_same (m : SMap α) (j : Nat) : SMap.find (SMap.del m j) j = none := by
  induction m with
  | nil => rfl
  | cons kv rest ih =>
    obtain ⟨k, v⟩ := kv
    simp only [SMap.del, List.filter_cons]
    split
    · rename_i h
      have hk : k ≠ j := by simpa using h
      simp only [SMap.find, if_neg (Ne.symm hk)]
      exact ih
    · exact ih

theorem SMap.find_del_other (m : SMap α) {j i : Nat} (h : i ≠ j) : SMap.find (SMap.del m j) i = SMap.find m i := by
  induction m with
  | nil => rfl
  | cons kv rest ih =>
    obtain ⟨k, v⟩ := kv
    simp only [SMap.del, List.filter_cons]
    split
    · simp only [SMap.find]
      split
      · rfl
      · exact ih
    · rename_i hk
      have hk : k = j := by simpa using hk
      subst hk
      simp only [SMap.find, if_neg h]
      exact ih

@[simp] theorem SMap.get_put_same (m : SMap α) (j : Nat) (w d : α) : SMap.get (SMap.put m j w) j d = w := by
  simp [SMap.get]

theorem SMap.get_put_other (m : SMap α) {j i : Nat} (w d : α) (h : i ≠ j) : SMap.get (SMap.put m j w) i d = SMap.get m i d := by
  simp [SMap.get, SMap.find_put_other m w h]

@[simp] theorem SMap.get_keep_same [DecidableEq α] (m : SMap α) (j : Nat) (w d : α) : SMap.get (SMap.keep m j w d) j d = w := by
  unfold SMap.keep
  split
  · rename_i h
    simp [SMap.get, h]
  · simp

theorem SMap.get_keep_other [DecidableEq α] (m : SMap α) {j i : Nat} (w d e : α) (h : i ≠ j) :
    SMap.get (SMap.keep m j w d) i e = SMap.get m i e := by
  unfold SMap.keep
  split
  · simp [SMap.get, SMap.find_del_other m h]
  · exact SMap.get_put_other m w e h

/-! ## Canonical form -/

theorem SMap.rising_cons (k : Nat) (v : α) (rest : SMap α) :
    SMap.rising ((k, v) :: rest) = true ↔ (∀ kv ∈ rest, k < kv.1) ∧ SMap.rising rest = true := by
  simp [SMap.rising]

theorem SMap.mem_put (m : SMap α) (j : Nat) (w : α) (kv : Nat × α) (h : kv ∈ SMap.put m j w) : kv = (j, w) ∨ kv ∈ m := by
  induction m with
  | nil => exact .inl (by simpa [SMap.put] using h)
  | cons a rest ih =>
    obtain ⟨k, v⟩ := a
    simp only [SMap.put] at h
    split at h
    · simpa using h
    · split at h
      · rcases List.mem_cons.1 h with h | h
        · exact .inl h
        · exact .inr (List.mem_cons_of_mem _ h)
      · rcases List.mem_cons.1 h with h | h
        · exact .inr (h ▸ List.mem_cons_self)
        · rcases ih h with h | h
          · exact .inl h
          · exact .inr (List.mem_cons_of_mem _ h)

theorem SMap.put_rising (m : SMap α) (j : Nat) (w : α) (h : m.rising = true) : (SMap.put m j w).rising = true := by
  induction m with
  | nil => simp [SMap.put, SMap.rising]
  | cons a rest ih =>
    obtain ⟨k, v⟩ := a
    have hr := (SMap.rising_cons k v rest).1 h
    simp only [SMap.put]
    split
    · rename_i hj
      refine (SMap.rising_cons _ _ _).2 ⟨?_, h⟩
      intro kv hkv
      rcases List.mem_cons.1 hkv with rfl | hkv
      · exact hj
      · exact Nat.lt_trans hj (hr.1 kv hkv)
    · split
      · rename_i hj
        subst hj
        exact (SMap.rising_cons _ _ _).2 hr
      · rename_i h1 h2
        refine (SMap.rising_cons _ _ _).2 ⟨?_, ih hr.2⟩
        intro kv hkv
        rcases SMap.mem_put rest j w kv hkv with rfl | hkv
        · have : k < j := by omega
          exact this
        · exact hr.1 kv hkv

theorem SMap.filter_rising (m : SMap α) (p : Nat × α → Bool) (h : m.rising = true) : SMap.rising (m.filter p) = true := by
  induction m with
  | nil => rfl
  | cons a rest ih =>
    obtain ⟨k, v⟩ := a
    have hr := (SMap.rising_cons k v rest).1 h
    simp only [List.filter_cons]
    split
    · exact (SMap.rising_cons _ _ _).2 ⟨fun kv hkv => hr.1 kv ((List.mem_filter.1 hkv).1), ih hr.2⟩
    · exact ih hr.2

theorem SMap.wf_iff [DecidableEq α] (m : SMap α) (d : α) :
    SMap.wf m d = true ↔ m.rising = true ∧ ∀ kv ∈ m, kv.2 ≠ d := by
  simp [SMap.wf]

/-- Writing keeps the canonical form. -/
theorem SMap.keep_wf [DecidableEq α] (m : SMap α) (j : Nat) (w d : α) (h : SMap.wf m d = true) :
    SMap.wf (SMap.keep m j w d) d = true := by
  rw [SMap.wf_iff] at h ⊢
  unfold SMap.keep
  split
  · exact ⟨SMap.filter_rising m _ h.1, fun kv hkv => h.2 kv ((List.mem_filter.1 hkv).1)⟩
  · rename_i hw
    refine ⟨SMap.put_rising m j w h.1, ?_⟩
    intro kv hkv
    rcases SMap.mem_put m j w kv hkv with rfl | hkv
    · exact hw
    · exact h.2 kv hkv

/-- A run of writes keeps the canonical form. -/
theorem SMap.foldl_keep_wf {β : Type} [DecidableEq α] (l : List β) (key : β → Nat) (val : β → α) (d : α) (m : SMap α)
    (h : SMap.wf m d = true) : SMap.wf (l.foldl (fun m b => SMap.keep m (key b) (val b) d) m) d = true := by
  induction l generalizing m with
  | nil => exact h
  | cons b rest ih => exact ih _ (SMap.keep_wf m _ _ d h)

/-- A run of writes leaves every key that it does not name. -/
theorem SMap.get_foldl_keep_other {β : Type} [DecidableEq α] (l : List β) (key : β → Nat) (val : β → α) (d e : α) (i : Nat)
    (m : SMap α) (h : ∀ b ∈ l, i ≠ key b) :
    SMap.get (l.foldl (fun m b => SMap.keep m (key b) (val b) d) m) i e = SMap.get m i e := by
  induction l generalizing m with
  | nil => rfl
  | cons b rest ih =>
    rw [List.foldl_cons, ih _ (fun c hc => h c (List.mem_cons_of_mem _ hc))]
    exact SMap.get_keep_other m _ d e (h b List.mem_cons_self)

/-! ## Filtering by key -/

theorem SMap.find_filter (m : SMap α) (p : Nat → Bool) (j : Nat) :
    SMap.find (m.filter (fun kv => p kv.1)) j = if p j then SMap.find m j else none := by
  induction m with
  | nil => simp
  | cons a rest ih =>
    obtain ⟨k, v⟩ := a
    by_cases hk : j = k
    · subst hk
      by_cases hp : p j = true <;> simp_all [SMap.find]
    · by_cases hp : p k = true <;> simp_all [SMap.find]

theorem SMap.find_mem (m : SMap α) (j : Nat) (v : α) (h : SMap.find m j = some v) : (j, v) ∈ m := by
  induction m with
  | nil => cases h
  | cons a rest ih =>
    obtain ⟨k, w⟩ := a
    simp only [SMap.find] at h
    split at h
    · rename_i hk
      simp only [Option.some.injEq] at h
      subst h; subst hk; exact List.mem_cons_self
    · exact List.mem_cons_of_mem _ (ih h)

theorem SMap.find_none_of_lt (m : SMap α) (j : Nat) (h : ∀ kv ∈ m, j < kv.1) : SMap.find m j = none := by
  cases e : SMap.find m j with
  | none => rfl
  | some v => exact absurd (h _ (SMap.find_mem m j v e)) (Nat.lt_irrefl _)

end Sys2Proof.Machine
end

