-- ==== Sys2Proof/Laws/State.lean ====
section
/-! SUPPORT. What each update of the module's parts leaves and writes, field by field. -/

namespace Sys2Proof.Machine

variable (s : Device)

/-! ## setPane -/

@[simp] theorem Device.setPane_free (a : Nat) (p : Pane) : (s.setPane a p).free = s.free := rfl
@[simp] theorem Device.setPane_boot (a : Nat) (p : Pane) : (s.setPane a p).boot = s.boot := rfl
@[simp] theorem Device.setPane_mram (a : Nat) (p : Pane) : (s.setPane a p).mram = s.mram := rfl
@[simp] theorem Device.setPane_lintel (a : Nat) (p : Pane) : (s.setPane a p).lintel = s.lintel := rfl
@[simp] theorem Device.setPane_units (a : Nat) (p : Pane) : (s.setPane a p).units = s.units := rfl
@[simp] theorem Device.setPane_power (a : Nat) (p : Pane) : (s.setPane a p).power = s.power := rfl
@[simp] theorem Device.setPane_panes (a : Nat) (p : Pane) : (s.setPane a p).panes = SMap.put s.panes a p := rfl
@[simp] theorem Device.setPane_cohorts (a : Nat) (p : Pane) : (s.setPane a p).cohorts = s.cohorts := rfl
@[simp] theorem Device.setPane_nextCohort (a : Nat) (p : Pane) : (s.setPane a p).nextCohort = s.nextCohort := rfl
@[simp] theorem Device.setPane_parts (a : Nat) (p : Pane) : (s.setPane a p).parts = s.parts := rfl
@[simp] theorem Device.setPane_mem (a : Nat) (p : Pane) : (s.setPane a p).mem = s.mem := rfl
@[simp] theorem Device.setPane_stackAt (a : Nat) (p : Pane) : (s.setPane a p).stackAt = s.stackAt := rfl
@[simp] theorem Device.setPane_fabric (a : Nat) (p : Pane) : (s.setPane a p).fabric = s.fabric := rfl
@[simp] theorem Device.setPane_host (a : Nat) (p : Pane) : (s.setPane a p).host = s.host := rfl
@[simp] theorem Device.setPane_transom (a : Nat) (p : Pane) : (s.setPane a p).transom = s.transom := rfl
@[simp] theorem Device.setPane_od (a : Nat) (p : Pane) : (s.setPane a p).od = s.od := rfl
@[simp] theorem Device.setPane_use (a : Nat) (p : Pane) : (s.setPane a p).use = s.use := rfl
@[simp] theorem Device.setPane_sent (a : Nat) (p : Pane) : (s.setPane a p).sent = s.sent := rfl

/-! ## modPane -/

@[simp] theorem Device.modPane_free (a : Nat) (f : Pane → Pane) : (s.modPane a f).free = s.free := rfl
@[simp] theorem Device.modPane_boot (a : Nat) (f : Pane → Pane) : (s.modPane a f).boot = s.boot := rfl
@[simp] theorem Device.modPane_mram (a : Nat) (f : Pane → Pane) : (s.modPane a f).mram = s.mram := rfl
@[simp] theorem Device.modPane_lintel (a : Nat) (f : Pane → Pane) : (s.modPane a f).lintel = s.lintel := rfl
@[simp] theorem Device.modPane_units (a : Nat) (f : Pane → Pane) : (s.modPane a f).units = s.units := rfl
@[simp] theorem Device.modPane_power (a : Nat) (f : Pane → Pane) : (s.modPane a f).power = s.power := rfl
@[simp] theorem Device.modPane_panes (a : Nat) (f : Pane → Pane) : (s.modPane a f).panes = SMap.put s.panes a (f (s.pane a)) := rfl
@[simp] theorem Device.modPane_cohorts (a : Nat) (f : Pane → Pane) : (s.modPane a f).cohorts = s.cohorts := rfl
@[simp] theorem Device.modPane_nextCohort (a : Nat) (f : Pane → Pane) : (s.modPane a f).nextCohort = s.nextCohort := rfl
@[simp] theorem Device.modPane_parts (a : Nat) (f : Pane → Pane) : (s.modPane a f).parts = s.parts := rfl
@[simp] theorem Device.modPane_mem (a : Nat) (f : Pane → Pane) : (s.modPane a f).mem = s.mem := rfl
@[simp] theorem Device.modPane_stackAt (a : Nat) (f : Pane → Pane) : (s.modPane a f).stackAt = s.stackAt := rfl
@[simp] theorem Device.modPane_fabric (a : Nat) (f : Pane → Pane) : (s.modPane a f).fabric = s.fabric := rfl
@[simp] theorem Device.modPane_host (a : Nat) (f : Pane → Pane) : (s.modPane a f).host = s.host := rfl
@[simp] theorem Device.modPane_transom (a : Nat) (f : Pane → Pane) : (s.modPane a f).transom = s.transom := rfl
@[simp] theorem Device.modPane_od (a : Nat) (f : Pane → Pane) : (s.modPane a f).od = s.od := rfl
@[simp] theorem Device.modPane_use (a : Nat) (f : Pane → Pane) : (s.modPane a f).use = s.use := rfl
@[simp] theorem Device.modPane_sent (a : Nat) (f : Pane → Pane) : (s.modPane a f).sent = s.sent := rfl

/-! ## setGroup -/

@[simp] theorem Device.setGroup_free (a slot : Nat) (g : Group) : (s.setGroup a slot g).free = s.free := rfl
@[simp] theorem Device.setGroup_boot (a slot : Nat) (g : Group) : (s.setGroup a slot g).boot = s.boot := rfl
@[simp] theorem Device.setGroup_mram (a slot : Nat) (g : Group) : (s.setGroup a slot g).mram = s.mram := rfl
@[simp] theorem Device.setGroup_lintel (a slot : Nat) (g : Group) : (s.setGroup a slot g).lintel = s.lintel := rfl
@[simp] theorem Device.setGroup_units (a slot : Nat) (g : Group) : (s.setGroup a slot g).units = s.units := rfl
@[simp] theorem Device.setGroup_power (a slot : Nat) (g : Group) : (s.setGroup a slot g).power = s.power := rfl
@[simp] theorem Device.setGroup_panes (a slot : Nat) (g : Group) : (s.setGroup a slot g).panes = SMap.put s.panes a ((s.pane a).setGroup slot g) := rfl
@[simp] theorem Device.setGroup_cohorts (a slot : Nat) (g : Group) : (s.setGroup a slot g).cohorts = s.cohorts := rfl
@[simp] theorem Device.setGroup_nextCohort (a slot : Nat) (g : Group) : (s.setGroup a slot g).nextCohort = s.nextCohort := rfl
@[simp] theorem Device.setGroup_parts (a slot : Nat) (g : Group) : (s.setGroup a slot g).parts = s.parts := rfl
@[simp] theorem Device.setGroup_mem (a slot : Nat) (g : Group) : (s.setGroup a slot g).mem = s.mem := rfl
@[simp] theorem Device.setGroup_stackAt (a slot : Nat) (g : Group) : (s.setGroup a slot g).stackAt = s.stackAt := rfl
@[simp] theorem Device.setGroup_fabric (a slot : Nat) (g : Group) : (s.setGroup a slot g).fabric = s.fabric := rfl
@[simp] theorem Device.setGroup_host (a slot : Nat) (g : Group) : (s.setGroup a slot g).host = s.host := rfl
@[simp] theorem Device.setGroup_transom (a slot : Nat) (g : Group) : (s.setGroup a slot g).transom = s.transom := rfl
@[simp] theorem Device.setGroup_od (a slot : Nat) (g : Group) : (s.setGroup a slot g).od = s.od := rfl
@[simp] theorem Device.setGroup_use (a slot : Nat) (g : Group) : (s.setGroup a slot g).use = s.use := rfl
@[simp] theorem Device.setGroup_sent (a slot : Nat) (g : Group) : (s.setGroup a slot g).sent = s.sent := rfl

/-! ## setPart -/

@[simp] theorem Device.setPart_free (p : Nat) (x : Partition) : (s.setPart p x).free = s.free := rfl
@[simp] theorem Device.setPart_boot (p : Nat) (x : Partition) : (s.setPart p x).boot = s.boot := rfl
@[simp] theorem Device.setPart_mram (p : Nat) (x : Partition) : (s.setPart p x).mram = s.mram := rfl
@[simp] theorem Device.setPart_lintel (p : Nat) (x : Partition) : (s.setPart p x).lintel = s.lintel := rfl
@[simp] theorem Device.setPart_units (p : Nat) (x : Partition) : (s.setPart p x).units = s.units := rfl
@[simp] theorem Device.setPart_power (p : Nat) (x : Partition) : (s.setPart p x).power = s.power := rfl
@[simp] theorem Device.setPart_panes (p : Nat) (x : Partition) : (s.setPart p x).panes = s.panes := rfl
@[simp] theorem Device.setPart_cohorts (p : Nat) (x : Partition) : (s.setPart p x).cohorts = s.cohorts := rfl
@[simp] theorem Device.setPart_nextCohort (p : Nat) (x : Partition) : (s.setPart p x).nextCohort = s.nextCohort := rfl
@[simp] theorem Device.setPart_parts (p : Nat) (x : Partition) : (s.setPart p x).parts = SMap.put s.parts p x := rfl
@[simp] theorem Device.setPart_mem (p : Nat) (x : Partition) : (s.setPart p x).mem = s.mem := rfl
@[simp] theorem Device.setPart_stackAt (p : Nat) (x : Partition) : (s.setPart p x).stackAt = s.stackAt := rfl
@[simp] theorem Device.setPart_fabric (p : Nat) (x : Partition) : (s.setPart p x).fabric = s.fabric := rfl
@[simp] theorem Device.setPart_host (p : Nat) (x : Partition) : (s.setPart p x).host = s.host := rfl
@[simp] theorem Device.setPart_transom (p : Nat) (x : Partition) : (s.setPart p x).transom = s.transom := rfl
@[simp] theorem Device.setPart_od (p : Nat) (x : Partition) : (s.setPart p x).od = s.od := rfl
@[simp] theorem Device.setPart_use (p : Nat) (x : Partition) : (s.setPart p x).use = s.use := rfl
@[simp] theorem Device.setPart_sent (p : Nat) (x : Partition) : (s.setPart p x).sent = s.sent := rfl

/-! ## modPart -/

@[simp] theorem Device.modPart_free (p : Nat) (f : Partition → Partition) : (s.modPart p f).free = s.free := rfl
@[simp] theorem Device.modPart_boot (p : Nat) (f : Partition → Partition) : (s.modPart p f).boot = s.boot := rfl
@[simp] theorem Device.modPart_mram (p : Nat) (f : Partition → Partition) : (s.modPart p f).mram = s.mram := rfl
@[simp] theorem Device.modPart_lintel (p : Nat) (f : Partition → Partition) : (s.modPart p f).lintel = s.lintel := rfl
@[simp] theorem Device.modPart_units (p : Nat) (f : Partition → Partition) : (s.modPart p f).units = s.units := rfl
@[simp] theorem Device.modPart_power (p : Nat) (f : Partition → Partition) : (s.modPart p f).power = s.power := rfl
@[simp] theorem Device.modPart_panes (p : Nat) (f : Partition → Partition) : (s.modPart p f).panes = s.panes := rfl
@[simp] theorem Device.modPart_cohorts (p : Nat) (f : Partition → Partition) : (s.modPart p f).cohorts = s.cohorts := rfl
@[simp] theorem Device.modPart_nextCohort (p : Nat) (f : Partition → Partition) : (s.modPart p f).nextCohort = s.nextCohort := rfl
@[simp] theorem Device.modPart_parts (p : Nat) (f : Partition → Partition) : (s.modPart p f).parts = SMap.put s.parts p (f (s.part p)) := rfl
@[simp] theorem Device.modPart_mem (p : Nat) (f : Partition → Partition) : (s.modPart p f).mem = s.mem := rfl
@[simp] theorem Device.modPart_stackAt (p : Nat) (f : Partition → Partition) : (s.modPart p f).stackAt = s.stackAt := rfl
@[simp] theorem Device.modPart_fabric (p : Nat) (f : Partition → Partition) : (s.modPart p f).fabric = s.fabric := rfl
@[simp] theorem Device.modPart_host (p : Nat) (f : Partition → Partition) : (s.modPart p f).host = s.host := rfl
@[simp] theorem Device.modPart_transom (p : Nat) (f : Partition → Partition) : (s.modPart p f).transom = s.transom := rfl
@[simp] theorem Device.modPart_od (p : Nat) (f : Partition → Partition) : (s.modPart p f).od = s.od := rfl
@[simp] theorem Device.modPart_use (p : Nat) (f : Partition → Partition) : (s.modPart p f).use = s.use := rfl
@[simp] theorem Device.modPart_sent (p : Nat) (f : Partition → Partition) : (s.modPart p f).sent = s.sent := rfl

/-! ## modStack -/

@[simp] theorem Device.modStack_free (k : Nat) (f : Stack → Stack) : (s.modStack k f).free = s.free := rfl
@[simp] theorem Device.modStack_boot (k : Nat) (f : Stack → Stack) : (s.modStack k f).boot = s.boot := rfl
@[simp] theorem Device.modStack_mram (k : Nat) (f : Stack → Stack) : (s.modStack k f).mram = s.mram := rfl
@[simp] theorem Device.modStack_lintel (k : Nat) (f : Stack → Stack) : (s.modStack k f).lintel = s.lintel := rfl
@[simp] theorem Device.modStack_units (k : Nat) (f : Stack → Stack) : (s.modStack k f).units = s.units := rfl
@[simp] theorem Device.modStack_power (k : Nat) (f : Stack → Stack) : (s.modStack k f).power = s.power := rfl
@[simp] theorem Device.modStack_panes (k : Nat) (f : Stack → Stack) : (s.modStack k f).panes = s.panes := rfl
@[simp] theorem Device.modStack_cohorts (k : Nat) (f : Stack → Stack) : (s.modStack k f).cohorts = s.cohorts := rfl
@[simp] theorem Device.modStack_nextCohort (k : Nat) (f : Stack → Stack) : (s.modStack k f).nextCohort = s.nextCohort := rfl
@[simp] theorem Device.modStack_parts (k : Nat) (f : Stack → Stack) : (s.modStack k f).parts = s.parts := rfl
@[simp] theorem Device.modStack_mem (k : Nat) (f : Stack → Stack) : (s.modStack k f).mem = s.mem := rfl
@[simp] theorem Device.modStack_stackAt (k : Nat) (f : Stack → Stack) : (s.modStack k f).stackAt = SMap.put s.stackAt k (f (s.stack k)) := rfl
@[simp] theorem Device.modStack_fabric (k : Nat) (f : Stack → Stack) : (s.modStack k f).fabric = s.fabric := rfl
@[simp] theorem Device.modStack_host (k : Nat) (f : Stack → Stack) : (s.modStack k f).host = s.host := rfl
@[simp] theorem Device.modStack_transom (k : Nat) (f : Stack → Stack) : (s.modStack k f).transom = s.transom := rfl
@[simp] theorem Device.modStack_od (k : Nat) (f : Stack → Stack) : (s.modStack k f).od = s.od := rfl
@[simp] theorem Device.modStack_use (k : Nat) (f : Stack → Stack) : (s.modStack k f).use = s.use := rfl
@[simp] theorem Device.modStack_sent (k : Nat) (f : Stack → Stack) : (s.modStack k f).sent = s.sent := rfl

/-! ## modDoor -/

@[simp] theorem Device.modDoor_free (d : Nat) (f : Door → Door) : (s.modDoor d f).free = s.free := rfl
@[simp] theorem Device.modDoor_boot (d : Nat) (f : Door → Door) : (s.modDoor d f).boot = s.boot := rfl
@[simp] theorem Device.modDoor_mram (d : Nat) (f : Door → Door) : (s.modDoor d f).mram = s.mram := rfl
@[simp] theorem Device.modDoor_lintel (d : Nat) (f : Door → Door) : (s.modDoor d f).lintel = s.lintel := rfl
@[simp] theorem Device.modDoor_units (d : Nat) (f : Door → Door) : (s.modDoor d f).units = s.units := rfl
@[simp] theorem Device.modDoor_power (d : Nat) (f : Door → Door) : (s.modDoor d f).power = s.power := rfl
@[simp] theorem Device.modDoor_panes (d : Nat) (f : Door → Door) : (s.modDoor d f).panes = s.panes := rfl
@[simp] theorem Device.modDoor_cohorts (d : Nat) (f : Door → Door) : (s.modDoor d f).cohorts = s.cohorts := rfl
@[simp] theorem Device.modDoor_nextCohort (d : Nat) (f : Door → Door) : (s.modDoor d f).nextCohort = s.nextCohort := rfl
@[simp] theorem Device.modDoor_parts (d : Nat) (f : Door → Door) : (s.modDoor d f).parts = s.parts := rfl
@[simp] theorem Device.modDoor_mem (d : Nat) (f : Door → Door) : (s.modDoor d f).mem = s.mem := rfl
@[simp] theorem Device.modDoor_stackAt (d : Nat) (f : Door → Door) : (s.modDoor d f).stackAt = s.stackAt := rfl
@[simp] theorem Device.modDoor_fabric (d : Nat) (f : Door → Door) : (s.modDoor d f).fabric = { s.fabric with doors := SMap.put s.fabric.doors d (f (s.door d)) } := rfl
@[simp] theorem Device.modDoor_host (d : Nat) (f : Door → Door) : (s.modDoor d f).host = s.host := rfl
@[simp] theorem Device.modDoor_transom (d : Nat) (f : Door → Door) : (s.modDoor d f).transom = s.transom := rfl
@[simp] theorem Device.modDoor_od (d : Nat) (f : Door → Door) : (s.modDoor d f).od = s.od := rfl
@[simp] theorem Device.modDoor_use (d : Nat) (f : Door → Door) : (s.modDoor d f).use = s.use := rfl
@[simp] theorem Device.modDoor_sent (d : Nat) (f : Door → Door) : (s.modDoor d f).sent = s.sent := rfl

/-! ## setSession -/

@[simp] theorem Device.setSession_free (id : Nat) (x : Session) : (s.setSession id x).free = s.free := rfl
@[simp] theorem Device.setSession_boot (id : Nat) (x : Session) : (s.setSession id x).boot = s.boot := rfl
@[simp] theorem Device.setSession_mram (id : Nat) (x : Session) : (s.setSession id x).mram = s.mram := rfl
@[simp] theorem Device.setSession_lintel (id : Nat) (x : Session) : (s.setSession id x).lintel = s.lintel := rfl
@[simp] theorem Device.setSession_units (id : Nat) (x : Session) : (s.setSession id x).units = s.units := rfl
@[simp] theorem Device.setSession_power (id : Nat) (x : Session) : (s.setSession id x).power = s.power := rfl
@[simp] theorem Device.setSession_panes (id : Nat) (x : Session) : (s.setSession id x).panes = s.panes := rfl
@[simp] theorem Device.setSession_cohorts (id : Nat) (x : Session) : (s.setSession id x).cohorts = s.cohorts := rfl
@[simp] theorem Device.setSession_nextCohort (id : Nat) (x : Session) : (s.setSession id x).nextCohort = s.nextCohort := rfl
@[simp] theorem Device.setSession_parts (id : Nat) (x : Session) : (s.setSession id x).parts = s.parts := rfl
@[simp] theorem Device.setSession_mem (id : Nat) (x : Session) : (s.setSession id x).mem = s.mem := rfl
@[simp] theorem Device.setSession_stackAt (id : Nat) (x : Session) : (s.setSession id x).stackAt = s.stackAt := rfl
@[simp] theorem Device.setSession_fabric (id : Nat) (x : Session) : (s.setSession id x).fabric = s.fabric := rfl
@[simp] theorem Device.setSession_host (id : Nat) (x : Session) : (s.setSession id x).host = s.host := rfl
@[simp] theorem Device.setSession_transom (id : Nat) (x : Session) : (s.setSession id x).transom = { s.transom with sessions := SMap.put s.transom.sessions id x } := rfl
@[simp] theorem Device.setSession_od (id : Nat) (x : Session) : (s.setSession id x).od = s.od := rfl
@[simp] theorem Device.setSession_use (id : Nat) (x : Session) : (s.setSession id x).use = s.use := rfl
@[simp] theorem Device.setSession_sent (id : Nat) (x : Session) : (s.setSession id x).sent = s.sent := rfl

/-! ## emit -/

@[simp] theorem Device.emit_free (e : Emission) : (s.emit e).free = s.free := rfl
@[simp] theorem Device.emit_boot (e : Emission) : (s.emit e).boot = s.boot := rfl
@[simp] theorem Device.emit_mram (e : Emission) : (s.emit e).mram = s.mram := rfl
@[simp] theorem Device.emit_lintel (e : Emission) : (s.emit e).lintel = s.lintel := rfl
@[simp] theorem Device.emit_units (e : Emission) : (s.emit e).units = s.units := rfl
@[simp] theorem Device.emit_power (e : Emission) : (s.emit e).power = s.power := rfl
@[simp] theorem Device.emit_panes (e : Emission) : (s.emit e).panes = s.panes := rfl
@[simp] theorem Device.emit_cohorts (e : Emission) : (s.emit e).cohorts = s.cohorts := rfl
@[simp] theorem Device.emit_nextCohort (e : Emission) : (s.emit e).nextCohort = s.nextCohort := rfl
@[simp] theorem Device.emit_parts (e : Emission) : (s.emit e).parts = s.parts := rfl
@[simp] theorem Device.emit_mem (e : Emission) : (s.emit e).mem = s.mem := rfl
@[simp] theorem Device.emit_stackAt (e : Emission) : (s.emit e).stackAt = s.stackAt := rfl
@[simp] theorem Device.emit_fabric (e : Emission) : (s.emit e).fabric = s.fabric := rfl
@[simp] theorem Device.emit_host (e : Emission) : (s.emit e).host = s.host := rfl
@[simp] theorem Device.emit_transom (e : Emission) : (s.emit e).transom = s.transom := rfl
@[simp] theorem Device.emit_od (e : Emission) : (s.emit e).od = s.od := rfl
@[simp] theorem Device.emit_use (e : Emission) : (s.emit e).use = s.use := rfl
@[simp] theorem Device.emit_sent (e : Emission) : (s.emit e).sent = s.sent ++ [e] := rfl

/-! ## odSet -/

@[simp] theorem Device.odSet_free (part index sub row value : Nat) : (s.odSet part index sub row value).free = s.free := rfl
@[simp] theorem Device.odSet_boot (part index sub row value : Nat) : (s.odSet part index sub row value).boot = s.boot := rfl
@[simp] theorem Device.odSet_mram (part index sub row value : Nat) : (s.odSet part index sub row value).mram = s.mram := rfl
@[simp] theorem Device.odSet_lintel (part index sub row value : Nat) : (s.odSet part index sub row value).lintel = s.lintel := rfl
@[simp] theorem Device.odSet_units (part index sub row value : Nat) : (s.odSet part index sub row value).units = s.units := rfl
@[simp] theorem Device.odSet_power (part index sub row value : Nat) : (s.odSet part index sub row value).power = s.power := rfl
@[simp] theorem Device.odSet_panes (part index sub row value : Nat) : (s.odSet part index sub row value).panes = s.panes := rfl
@[simp] theorem Device.odSet_cohorts (part index sub row value : Nat) : (s.odSet part index sub row value).cohorts = s.cohorts := rfl
@[simp] theorem Device.odSet_nextCohort (part index sub row value : Nat) : (s.odSet part index sub row value).nextCohort = s.nextCohort := rfl
@[simp] theorem Device.odSet_parts (part index sub row value : Nat) : (s.odSet part index sub row value).parts = s.parts := rfl
@[simp] theorem Device.odSet_mem (part index sub row value : Nat) : (s.odSet part index sub row value).mem = s.mem := rfl
@[simp] theorem Device.odSet_stackAt (part index sub row value : Nat) : (s.odSet part index sub row value).stackAt = s.stackAt := rfl
@[simp] theorem Device.odSet_fabric (part index sub row value : Nat) : (s.odSet part index sub row value).fabric = s.fabric := rfl
@[simp] theorem Device.odSet_host (part index sub row value : Nat) : (s.odSet part index sub row value).host = s.host := rfl
@[simp] theorem Device.odSet_transom (part index sub row value : Nat) : (s.odSet part index sub row value).transom = s.transom := rfl
@[simp] theorem Device.odSet_od (part index sub row value : Nat) : (s.odSet part index sub row value).od = SMap.keep s.od (odKey part index sub row) value (odDefault index sub row) := rfl
@[simp] theorem Device.odSet_use (part index sub row value : Nat) : (s.odSet part index sub row value).use = s.use := rfl
@[simp] theorem Device.odSet_sent (part index sub row value : Nat) : (s.odSet part index sub row value).sent = s.sent := rfl

/-! ## odCount -/

@[simp] theorem Device.odCount_free (part index sub row n : Nat) : (s.odCount part index sub row n).free = s.free := rfl
@[simp] theorem Device.odCount_boot (part index sub row n : Nat) : (s.odCount part index sub row n).boot = s.boot := rfl
@[simp] theorem Device.odCount_mram (part index sub row n : Nat) : (s.odCount part index sub row n).mram = s.mram := rfl
@[simp] theorem Device.odCount_lintel (part index sub row n : Nat) : (s.odCount part index sub row n).lintel = s.lintel := rfl
@[simp] theorem Device.odCount_units (part index sub row n : Nat) : (s.odCount part index sub row n).units = s.units := rfl
@[simp] theorem Device.odCount_power (part index sub row n : Nat) : (s.odCount part index sub row n).power = s.power := rfl
@[simp] theorem Device.odCount_panes (part index sub row n : Nat) : (s.odCount part index sub row n).panes = s.panes := rfl
@[simp] theorem Device.odCount_cohorts (part index sub row n : Nat) : (s.odCount part index sub row n).cohorts = s.cohorts := rfl
@[simp] theorem Device.odCount_nextCohort (part index sub row n : Nat) : (s.odCount part index sub row n).nextCohort = s.nextCohort := rfl
@[simp] theorem Device.odCount_parts (part index sub row n : Nat) : (s.odCount part index sub row n).parts = s.parts := rfl
@[simp] theorem Device.odCount_mem (part index sub row n : Nat) : (s.odCount part index sub row n).mem = s.mem := rfl
@[simp] theorem Device.odCount_stackAt (part index sub row n : Nat) : (s.odCount part index sub row n).stackAt = s.stackAt := rfl
@[simp] theorem Device.odCount_fabric (part index sub row n : Nat) : (s.odCount part index sub row n).fabric = s.fabric := rfl
@[simp] theorem Device.odCount_host (part index sub row n : Nat) : (s.odCount part index sub row n).host = s.host := rfl
@[simp] theorem Device.odCount_transom (part index sub row n : Nat) : (s.odCount part index sub row n).transom = s.transom := rfl
@[simp] theorem Device.odCount_od (part index sub row n : Nat) : (s.odCount part index sub row n).od = SMap.keep s.od (odKey part index sub row) (min (s.odGet part index sub row + n) (2 ^ 64 - 1)) (odDefault index sub row) := rfl
@[simp] theorem Device.odCount_use (part index sub row n : Nat) : (s.odCount part index sub row n).use = s.use := rfl
@[simp] theorem Device.odCount_sent (part index sub row n : Nat) : (s.odCount part index sub row n).sent = s.sent := rfl

/-! ## serve -/

@[simp] theorem Device.serve_free (part row bytes waited : Nat) : (s.serve part row bytes waited).free = s.free := rfl
@[simp] theorem Device.serve_boot (part row bytes waited : Nat) : (s.serve part row bytes waited).boot = s.boot := rfl
@[simp] theorem Device.serve_mram (part row bytes waited : Nat) : (s.serve part row bytes waited).mram = s.mram := rfl
@[simp] theorem Device.serve_lintel (part row bytes waited : Nat) : (s.serve part row bytes waited).lintel = s.lintel := rfl
@[simp] theorem Device.serve_units (part row bytes waited : Nat) : (s.serve part row bytes waited).units = s.units := rfl
@[simp] theorem Device.serve_power (part row bytes waited : Nat) : (s.serve part row bytes waited).power = s.power := rfl
@[simp] theorem Device.serve_panes (part row bytes waited : Nat) : (s.serve part row bytes waited).panes = s.panes := rfl
@[simp] theorem Device.serve_cohorts (part row bytes waited : Nat) : (s.serve part row bytes waited).cohorts = s.cohorts := rfl
@[simp] theorem Device.serve_nextCohort (part row bytes waited : Nat) : (s.serve part row bytes waited).nextCohort = s.nextCohort := rfl
@[simp] theorem Device.serve_parts (part row bytes waited : Nat) : (s.serve part row bytes waited).parts = s.parts := rfl
@[simp] theorem Device.serve_mem (part row bytes waited : Nat) : (s.serve part row bytes waited).mem = s.mem := rfl
@[simp] theorem Device.serve_stackAt (part row bytes waited : Nat) : (s.serve part row bytes waited).stackAt = s.stackAt := rfl
@[simp] theorem Device.serve_fabric (part row bytes waited : Nat) : (s.serve part row bytes waited).fabric = s.fabric := rfl
@[simp] theorem Device.serve_host (part row bytes waited : Nat) : (s.serve part row bytes waited).host = s.host := rfl
@[simp] theorem Device.serve_transom (part row bytes waited : Nat) : (s.serve part row bytes waited).transom = s.transom := rfl
@[simp] theorem Device.serve_od (part row bytes waited : Nat) : (s.serve part row bytes waited).od = s.od := rfl
@[simp] theorem Device.serve_sent (part row bytes waited : Nat) : (s.serve part row bytes waited).sent = s.sent := rfl

/-! ## draw -/

@[simp] theorem Device.draw_fst : s.draw.1 = Config.draw s.free := rfl
@[simp] theorem Device.draw_free : s.draw.2.free = s.free + 1 := rfl
@[simp] theorem Device.draw_boot : s.draw.2.boot = s.boot := rfl
@[simp] theorem Device.draw_mram : s.draw.2.mram = s.mram := rfl
@[simp] theorem Device.draw_lintel : s.draw.2.lintel = s.lintel := rfl
@[simp] theorem Device.draw_units : s.draw.2.units = s.units := rfl
@[simp] theorem Device.draw_power : s.draw.2.power = s.power := rfl
@[simp] theorem Device.draw_panes : s.draw.2.panes = s.panes := rfl
@[simp] theorem Device.draw_cohorts : s.draw.2.cohorts = s.cohorts := rfl
@[simp] theorem Device.draw_nextCohort : s.draw.2.nextCohort = s.nextCohort := rfl
@[simp] theorem Device.draw_parts : s.draw.2.parts = s.parts := rfl
@[simp] theorem Device.draw_mem : s.draw.2.mem = s.mem := rfl
@[simp] theorem Device.draw_stackAt : s.draw.2.stackAt = s.stackAt := rfl
@[simp] theorem Device.draw_fabric : s.draw.2.fabric = s.fabric := rfl
@[simp] theorem Device.draw_host : s.draw.2.host = s.host := rfl
@[simp] theorem Device.draw_transom : s.draw.2.transom = s.transom := rfl
@[simp] theorem Device.draw_od : s.draw.2.od = s.od := rfl
@[simp] theorem Device.draw_sent : s.draw.2.sent = s.sent := rfl

/-! ## setUnit -/

@[simp] theorem Device.setUnit_free (kind number : Nat) (u : UnitRow) : (s.setUnit kind number u).free = s.free := rfl
@[simp] theorem Device.setUnit_boot (kind number : Nat) (u : UnitRow) : (s.setUnit kind number u).boot = s.boot := rfl
@[simp] theorem Device.setUnit_mram (kind number : Nat) (u : UnitRow) : (s.setUnit kind number u).mram = s.mram := rfl
@[simp] theorem Device.setUnit_lintel (kind number : Nat) (u : UnitRow) : (s.setUnit kind number u).lintel = s.lintel := rfl
@[simp] theorem Device.setUnit_power (kind number : Nat) (u : UnitRow) : (s.setUnit kind number u).power = s.power := rfl
@[simp] theorem Device.setUnit_panes (kind number : Nat) (u : UnitRow) : (s.setUnit kind number u).panes = s.panes := rfl
@[simp] theorem Device.setUnit_cohorts (kind number : Nat) (u : UnitRow) : (s.setUnit kind number u).cohorts = s.cohorts := rfl
@[simp] theorem Device.setUnit_nextCohort (kind number : Nat) (u : UnitRow) : (s.setUnit kind number u).nextCohort = s.nextCohort := rfl
@[simp] theorem Device.setUnit_parts (kind number : Nat) (u : UnitRow) : (s.setUnit kind number u).parts = s.parts := rfl
@[simp] theorem Device.setUnit_mem (kind number : Nat) (u : UnitRow) : (s.setUnit kind number u).mem = s.mem := rfl
@[simp] theorem Device.setUnit_stackAt (kind number : Nat) (u : UnitRow) : (s.setUnit kind number u).stackAt = s.stackAt := rfl
@[simp] theorem Device.setUnit_fabric (kind number : Nat) (u : UnitRow) : (s.setUnit kind number u).fabric = s.fabric := rfl
@[simp] theorem Device.setUnit_host (kind number : Nat) (u : UnitRow) : (s.setUnit kind number u).host = s.host := rfl
@[simp] theorem Device.setUnit_transom (kind number : Nat) (u : UnitRow) : (s.setUnit kind number u).transom = s.transom := rfl
@[simp] theorem Device.setUnit_od (kind number : Nat) (u : UnitRow) : (s.setUnit kind number u).od = s.od := rfl
@[simp] theorem Device.setUnit_use (kind number : Nat) (u : UnitRow) : (s.setUnit kind number u).use = s.use := rfl
@[simp] theorem Device.setUnit_sent (kind number : Nat) (u : UnitRow) : (s.setUnit kind number u).sent = s.sent := rfl

/-! ## setPaneState -/

@[simp] theorem Device.setPaneState_free (a : Nat) (v : PaneState) : (s.setPaneState a v).free = s.free := rfl
@[simp] theorem Device.setPaneState_boot (a : Nat) (v : PaneState) : (s.setPaneState a v).boot = s.boot := rfl
@[simp] theorem Device.setPaneState_mram (a : Nat) (v : PaneState) : (s.setPaneState a v).mram = s.mram := rfl
@[simp] theorem Device.setPaneState_lintel (a : Nat) (v : PaneState) : (s.setPaneState a v).lintel = s.lintel := rfl
@[simp] theorem Device.setPaneState_power (a : Nat) (v : PaneState) : (s.setPaneState a v).power = s.power := rfl
@[simp] theorem Device.setPaneState_panes (a : Nat) (v : PaneState) : (s.setPaneState a v).panes = s.panes := rfl
@[simp] theorem Device.setPaneState_cohorts (a : Nat) (v : PaneState) : (s.setPaneState a v).cohorts = s.cohorts := rfl
@[simp] theorem Device.setPaneState_nextCohort (a : Nat) (v : PaneState) : (s.setPaneState a v).nextCohort = s.nextCohort := rfl
@[simp] theorem Device.setPaneState_parts (a : Nat) (v : PaneState) : (s.setPaneState a v).parts = s.parts := rfl
@[simp] theorem Device.setPaneState_mem (a : Nat) (v : PaneState) : (s.setPaneState a v).mem = s.mem := rfl
@[simp] theorem Device.setPaneState_stackAt (a : Nat) (v : PaneState) : (s.setPaneState a v).stackAt = s.stackAt := rfl
@[simp] theorem Device.setPaneState_fabric (a : Nat) (v : PaneState) : (s.setPaneState a v).fabric = s.fabric := rfl
@[simp] theorem Device.setPaneState_host (a : Nat) (v : PaneState) : (s.setPaneState a v).host = s.host := rfl
@[simp] theorem Device.setPaneState_transom (a : Nat) (v : PaneState) : (s.setPaneState a v).transom = s.transom := rfl
@[simp] theorem Device.setPaneState_od (a : Nat) (v : PaneState) : (s.setPaneState a v).od = s.od := rfl
@[simp] theorem Device.setPaneState_use (a : Nat) (v : PaneState) : (s.setPaneState a v).use = s.use := rfl
@[simp] theorem Device.setPaneState_sent (a : Nat) (v : PaneState) : (s.setPaneState a v).sent = s.sent := rfl

/-! ## setPhys -/

@[simp] theorem Device.setPhys_free (a p : Nat) : (s.setPhys a p).free = s.free := rfl
@[simp] theorem Device.setPhys_boot (a p : Nat) : (s.setPhys a p).boot = s.boot := rfl
@[simp] theorem Device.setPhys_mram (a p : Nat) : (s.setPhys a p).mram = s.mram := rfl
@[simp] theorem Device.setPhys_lintel (a p : Nat) : (s.setPhys a p).lintel = s.lintel := rfl
@[simp] theorem Device.setPhys_power (a p : Nat) : (s.setPhys a p).power = s.power := rfl
@[simp] theorem Device.setPhys_panes (a p : Nat) : (s.setPhys a p).panes = s.panes := rfl
@[simp] theorem Device.setPhys_cohorts (a p : Nat) : (s.setPhys a p).cohorts = s.cohorts := rfl
@[simp] theorem Device.setPhys_nextCohort (a p : Nat) : (s.setPhys a p).nextCohort = s.nextCohort := rfl
@[simp] theorem Device.setPhys_parts (a p : Nat) : (s.setPhys a p).parts = s.parts := rfl
@[simp] theorem Device.setPhys_mem (a p : Nat) : (s.setPhys a p).mem = s.mem := rfl
@[simp] theorem Device.setPhys_stackAt (a p : Nat) : (s.setPhys a p).stackAt = s.stackAt := rfl
@[simp] theorem Device.setPhys_fabric (a p : Nat) : (s.setPhys a p).fabric = s.fabric := rfl
@[simp] theorem Device.setPhys_host (a p : Nat) : (s.setPhys a p).host = s.host := rfl
@[simp] theorem Device.setPhys_transom (a p : Nat) : (s.setPhys a p).transom = s.transom := rfl
@[simp] theorem Device.setPhys_od (a p : Nat) : (s.setPhys a p).od = s.od := rfl
@[simp] theorem Device.setPhys_use (a p : Nat) : (s.setPhys a p).use = s.use := rfl
@[simp] theorem Device.setPhys_sent (a p : Nat) : (s.setPhys a p).sent = s.sent := rfl

/-! ## setMove -/

@[simp] theorem Device.setMove_free (a : Nat) (m : Option MoveKind) : (s.setMove a m).free = s.free := rfl
@[simp] theorem Device.setMove_boot (a : Nat) (m : Option MoveKind) : (s.setMove a m).boot = s.boot := rfl
@[simp] theorem Device.setMove_mram (a : Nat) (m : Option MoveKind) : (s.setMove a m).mram = s.mram := rfl
@[simp] theorem Device.setMove_lintel (a : Nat) (m : Option MoveKind) : (s.setMove a m).lintel = s.lintel := rfl
@[simp] theorem Device.setMove_power (a : Nat) (m : Option MoveKind) : (s.setMove a m).power = s.power := rfl
@[simp] theorem Device.setMove_panes (a : Nat) (m : Option MoveKind) : (s.setMove a m).panes = s.panes := rfl
@[simp] theorem Device.setMove_cohorts (a : Nat) (m : Option MoveKind) : (s.setMove a m).cohorts = s.cohorts := rfl
@[simp] theorem Device.setMove_nextCohort (a : Nat) (m : Option MoveKind) : (s.setMove a m).nextCohort = s.nextCohort := rfl
@[simp] theorem Device.setMove_parts (a : Nat) (m : Option MoveKind) : (s.setMove a m).parts = s.parts := rfl
@[simp] theorem Device.setMove_mem (a : Nat) (m : Option MoveKind) : (s.setMove a m).mem = s.mem := rfl
@[simp] theorem Device.setMove_stackAt (a : Nat) (m : Option MoveKind) : (s.setMove a m).stackAt = s.stackAt := rfl
@[simp] theorem Device.setMove_fabric (a : Nat) (m : Option MoveKind) : (s.setMove a m).fabric = s.fabric := rfl
@[simp] theorem Device.setMove_host (a : Nat) (m : Option MoveKind) : (s.setMove a m).host = s.host := rfl
@[simp] theorem Device.setMove_transom (a : Nat) (m : Option MoveKind) : (s.setMove a m).transom = s.transom := rfl
@[simp] theorem Device.setMove_od (a : Nat) (m : Option MoveKind) : (s.setMove a m).od = s.od := rfl
@[simp] theorem Device.setMove_use (a : Nat) (m : Option MoveKind) : (s.setMove a m).use = s.use := rfl
@[simp] theorem Device.setMove_sent (a : Nat) (m : Option MoveKind) : (s.setMove a m).sent = s.sent := rfl

/-! ## releaseFrames and tick -/

/-- What leaves the host port changes what is held there, the shares, the counts and what has been sent. -/
theorem Device.releaseFrames_rest (n : Nat) (s : Device) :
    s.releaseFrames n = { s with host := (s.releaseFrames n).host, fabric := (s.releaseFrames n).fabric,
                                 use := (s.releaseFrames n).use, sent := (s.releaseFrames n).sent } := by
  induction n generalizing s with
  | zero => rfl
  | succ n ih =>
    unfold Device.releaseFrames
    split
    · rfl
    · dsimp only; rw [ih]; rfl

@[simp] theorem Device.tick_free : s.tick.free = s.free := by unfold Device.tick Device.unpause; rw [Device.releaseFrames_rest]
@[simp] theorem Device.tick_boot : s.tick.boot = s.boot := by unfold Device.tick Device.unpause; rw [Device.releaseFrames_rest]
@[simp] theorem Device.tick_mram : s.tick.mram = s.mram := by unfold Device.tick Device.unpause; rw [Device.releaseFrames_rest]
@[simp] theorem Device.tick_power : s.tick.power = s.power := by unfold Device.tick Device.unpause; rw [Device.releaseFrames_rest]
@[simp] theorem Device.tick_panes : s.tick.panes = s.panes := by unfold Device.tick Device.unpause; rw [Device.releaseFrames_rest]
@[simp] theorem Device.tick_cohorts : s.tick.cohorts = s.cohorts := by unfold Device.tick Device.unpause; rw [Device.releaseFrames_rest]
@[simp] theorem Device.tick_nextCohort : s.tick.nextCohort = s.nextCohort := by unfold Device.tick Device.unpause; rw [Device.releaseFrames_rest]
@[simp] theorem Device.tick_parts : s.tick.parts = s.parts := by unfold Device.tick Device.unpause; rw [Device.releaseFrames_rest]
@[simp] theorem Device.tick_mem : s.tick.mem = s.mem := by unfold Device.tick Device.unpause; rw [Device.releaseFrames_rest]
@[simp] theorem Device.tick_stackAt : s.tick.stackAt = s.stackAt := by unfold Device.tick Device.unpause; rw [Device.releaseFrames_rest]
@[simp] theorem Device.tick_transom : s.tick.transom = s.transom := by unfold Device.tick Device.unpause; rw [Device.releaseFrames_rest]
@[simp] theorem Device.tick_od : s.tick.od = s.od := by unfold Device.tick Device.unpause; rw [Device.releaseFrames_rest]
@[simp] theorem Device.tick_now : s.tick.lintel.now = (s.lintel.now + 1) % 2 ^ 64 := by unfold Device.tick Device.unpause; rw [Device.releaseFrames_rest]

/-! ## Reading what has been written -/

@[simp] theorem Device.pane_setPane (a : Nat) (p : Pane) : (s.setPane a p).pane a = p := SMap.get_put_same ..
theorem Device.pane_setPane_other {a b : Nat} (p : Pane) (h : b ≠ a) : (s.setPane a p).pane b = s.pane b :=
  SMap.get_put_other _ _ _ h
@[simp] theorem Device.pane_modPane (a : Nat) (f : Pane → Pane) : (s.modPane a f).pane a = f (s.pane a) := SMap.get_put_same ..
theorem Device.pane_modPane_other {a b : Nat} (f : Pane → Pane) (h : b ≠ a) : (s.modPane a f).pane b = s.pane b :=
  SMap.get_put_other _ _ _ h
@[simp] theorem Pane.groups_setGroup (p : Pane) (k : Nat) (g : Group) : (p.setGroup k g).groups = SMap.put p.groups k g := rfl
@[simp] theorem Device.group_setGroup (a k : Nat) (g : Group) : (s.setGroup a k g).group? a k = some g := by
  simp [Device.group?, Device.setGroup]
theorem Device.group_setGroup_other {a k j : Nat} (g : Group) (h : j ≠ k) :
    (s.setGroup a k g).group? a j = s.group? a j := by
  simp [Device.group?, Device.setGroup, SMap.find_put_other _ _ h]
theorem Device.pane_setGroup_other {a b : Nat} (k : Nat) (g : Group) (h : b ≠ a) : (s.setGroup a k g).pane b = s.pane b :=
  SMap.get_put_other _ _ _ h
@[simp] theorem Device.pane_setGroup (a k : Nat) (g : Group) : (s.setGroup a k g).pane a = (s.pane a).setGroup k g :=
  SMap.get_put_same ..
@[simp] theorem Device.part_setPart (p : Nat) (x : Partition) : (s.setPart p x).part p = x := SMap.get_put_same ..
theorem Device.part_setPart_other {p q : Nat} (x : Partition) (h : q ≠ p) : (s.setPart p x).part q = s.part q :=
  SMap.get_put_other _ _ _ h
@[simp] theorem Device.part_modPart (p : Nat) (f : Partition → Partition) : (s.modPart p f).part p = f (s.part p) :=
  SMap.get_put_same ..
theorem Device.part_modPart_other {p q : Nat} (f : Partition → Partition) (h : q ≠ p) : (s.modPart p f).part q = s.part q :=
  SMap.get_put_other _ _ _ h
@[simp] theorem Device.stack_modStack (k : Nat) (f : Stack → Stack) : (s.modStack k f).stack k = f (s.stack k) :=
  SMap.get_put_same ..
theorem Device.stack_modStack_other {k j : Nat} (f : Stack → Stack) (h : j ≠ k) : (s.modStack k f).stack j = s.stack j :=
  SMap.get_put_other _ _ _ h
@[simp] theorem Device.door_modDoor (d : Nat) (f : Door → Door) : (s.modDoor d f).door d = f (s.door d) :=
  SMap.get_put_same ..
theorem Device.door_modDoor_other {d e : Nat} (f : Door → Door) (h : e ≠ d) : (s.modDoor d f).door e = s.door e :=
  SMap.get_put_other _ _ _ h
@[simp] theorem Device.odGet_odSet (part index sub row v : Nat) :
    (s.odSet part index sub row v).odGet part index sub row = v := SMap.get_keep_same ..

end Sys2Proof.Machine
end

