-- ==== Sys2Proof/Laws/Memory.lean ====
section
/-! SUPPORT. Memory keeps its canonical form under every operation that writes bytes or poison: the one store of bytes, the
one mark of poison, the sill buffers, what is built from them, and the removals; a store leaves every byte outside it, and an access of a
sill buffer every byte and mark. -/

namespace Sys2Proof.Machine

theorem Memory.wf_iff (m : MemSt) :
    Memory.wf m = true ↔ SMap.wf m.bytes 0 = true ∧ SMap.wf m.poison false = true ∧ SMap.rising m.buffer = true := by
  simp [Memory.wf, and_assoc]

theorem SMap.filter_wf {α : Type} [DecidableEq α] (m : SMap α) (p : Nat × α → Bool) (d : α) (h : SMap.wf m d = true) :
    SMap.wf (m.filter p) d = true := by
  rw [SMap.wf_iff] at h ⊢
  exact ⟨SMap.filter_rising m p h.1, fun kv hkv => h.2 kv (List.mem_filter.1 hkv).1⟩

theorem State.reset_memory_wf : Memory.wf State.reset.mem = true := by decide

/-- A fold of steps that each keep a property keeps it. -/
theorem foldl_keeps {α β : Type} (P : α → Prop) (f : α → β → α) (l : List β) (a : α) (h : P a)
    (step : ∀ a b, P a → P (f a b)) : P (l.foldl f a) := by
  induction l generalizing a with
  | nil => exact h
  | cons b rest ih => exact ih _ (step a b h)

/-! ## What an access of a sill buffer leaves -/

/-- Memory as a reader finds it is the same: every byte, the canonical form, and every mark of a sector that its buffer and its stack agree on. -/
def MemSt.Same (m n : MemSt) : Prop :=
  n.bytes = m.bytes ∧ (Memory.wf m = true → Memory.wf n = true ∧ ∀ key, m.agrees key → n.agrees key ∧ n.marked key = m.marked key)

theorem MemSt.Same.refl (m : MemSt) : m.Same m := ⟨rfl, fun h => ⟨h, fun _ a => ⟨a, rfl⟩⟩⟩

theorem MemSt.Same.trans {m n k : MemSt} (a : m.Same n) (b : n.Same k) : m.Same k := by
  refine ⟨b.1.trans a.1, fun h => ⟨(b.2 (a.2 h).1).1, fun key g => ?_⟩⟩
  obtain ⟨a1, a2⟩ := (a.2 h).2 key g
  obtain ⟨b1, b2⟩ := (b.2 (a.2 h).1).2 key a1
  exact ⟨b1, b2.trans a2⟩

/-- Nothing of the module but the panes, the counter of free values and the counts of OD 0x6150 and of R172 differs, and memory is the same
to a reader. -/
def Device.Beside (s t : Device) : Prop :=
  t = { s with panes := t.panes, free := t.free, use := t.use,
               mem := { s.mem with poison := t.mem.poison, buffer := t.mem.buffer, traffic := t.mem.traffic } } ∧ s.mem.Same t.mem

theorem Device.Beside.refl (s : Device) : s.Beside s := ⟨rfl, .refl _⟩

theorem Device.Beside.trans {s t u : Device} (a : s.Beside t) (b : t.Beside u) : s.Beside u := by
  refine ⟨?_, a.2.trans b.2⟩
  rw [b.1, a.1]

theorem Device.countTraffic_beside (s : Device) (user key : Nat) : s.Beside (s.countTraffic user key) :=
  ⟨rfl, rfl, fun h => ⟨h, fun _ a => ⟨a, rfl⟩⟩⟩

theorem Device.draw_beside (s : Device) : s.Beside s.draw.2 := ⟨rfl, .refl _⟩

/-- The marks that a line's dirty sectors leave on their stack. -/
theorem SMap.get_evicted (out : SMap BufSector) (m : SMap Bool) (key : Nat) (h : out.rising = true) :
    SMap.get (out.foldl (fun m kv => if kv.2.dirty then SMap.keep m kv.1 kv.2.bad false else m) m) key false
      = match SMap.find out key with
        | some b => if b.dirty then b.bad else SMap.get m key false
        | none => SMap.get m key false := by
  induction out generalizing m with
  | nil => rfl
  | cons a rest ih =>
    obtain ⟨k, b⟩ := a
    have hr := (SMap.rising_cons k b rest).1 h
    rw [List.foldl_cons, ih _ hr.2]
    by_cases hk : key = k
    · subst hk
      rw [SMap.find_none_of_lt rest key hr.1]
      by_cases hd : b.dirty = true <;> simp [SMap.find, hd]
    · have ho : SMap.get (if b.dirty then SMap.keep m k b.bad false else m) key false = SMap.get m key false := by
        split
        · exact SMap.get_keep_other m _ _ _ hk
        · rfl
      simp [SMap.find, hk, ho]

theorem Device.evict_beside (s : Device) (line : Nat) : s.Beside (s.evict line) := by
  unfold Device.evict
  dsimp only
  refine Device.Beside.trans ?_ (foldl_keeps (fun t => Device.Beside _ t) _ _ _ (.refl _) (fun t kv h => h.trans (t.countTraffic_beside _ _)))
  refine ⟨rfl, rfl, fun h => ?_⟩
  rw [Memory.wf_iff] at h
  have hw : SMap.wf ((s.mem.buffer.filter (fun kv => kv.1 / 4 == line)).foldl
      (fun m kv => if kv.2.dirty then SMap.keep m kv.1 kv.2.bad false else m) s.mem.poison) false = true :=
    foldl_keeps (fun m => SMap.wf m false = true) _ _ _ h.2.1 (fun m kv hm => by
      split
      · exact SMap.keep_wf _ _ _ _ hm
      · exact hm)
  refine ⟨(Memory.wf_iff _).2 ⟨h.1, hw, SMap.filter_rising _ _ h.2.2⟩, fun key a => ?_⟩
  have hf := SMap.find_filter s.mem.buffer (fun k => k / 4 != line) key
  have hg := SMap.get_evicted (s.mem.buffer.filter (fun kv => kv.1 / 4 == line)) s.mem.poison key (SMap.filter_rising _ _ h.2.2)
  rw [SMap.find_filter s.mem.buffer (fun k => k / 4 == line) key] at hg
  unfold MemSt.agrees MemSt.marked at *
  dsimp only at *
  by_cases hl : key / 4 = line
  · simp only [hl, bne_self_eq_false, Bool.false_eq_true, ↓reduceIte, beq_self_eq_true] at hf hg
    rw [hf, hg]
    cases e : SMap.find s.mem.buffer key with
    | none => simp
    | some b => cases hd : b.dirty <;> simp_all
  · simp only [bne_iff_ne, ne_eq, hl, not_false_eq_true, ↓reduceIte, beq_iff_eq] at hf hg
    rw [hf, hg]
    exact ⟨a, rfl⟩

/-- What is not in the buffer is not in it after a line has left. -/
theorem Device.find_evict (s : Device) (line key : Nat) (h : SMap.find s.mem.buffer key = none) :
    SMap.find (s.evict line).mem.buffer key = none := by
  unfold Device.evict
  dsimp only
  refine foldl_keeps (fun t : Device => SMap.find t.mem.buffer key = none) _ _ _ ?_ (fun t kv ht => ht)
  dsimp only
  rw [SMap.find_filter s.mem.buffer (fun k => k / 4 != line) key, h]
  split <;> rfl

theorem Device.makeRoom_beside (s : Device) (line : Nat) : s.Beside (s.makeRoom line) := by
  unfold Device.makeRoom
  dsimp only
  split
  · exact .refl s
  · split
    · exact .refl s
    · exact s.draw_beside.trans (Device.evict_beside _ _)

/-- A sector enters the buffer as its stack holds it. -/
theorem Device.enter_beside (s : Device) (key : Nat) (dirty : Bool) (h : SMap.find s.mem.buffer key = none) :
    s.Beside { s with mem := { s.mem with buffer := SMap.put s.mem.buffer key { dirty, bad := SMap.get s.mem.poison key false } } } := by
  refine ⟨rfl, rfl, fun hw => ?_⟩
  rw [Memory.wf_iff] at hw
  refine ⟨(Memory.wf_iff _).2 ⟨hw.1, hw.2.1, SMap.put_rising _ _ _ hw.2.2⟩, fun k a => ?_⟩
  unfold MemSt.agrees MemSt.marked at *
  dsimp only
  by_cases hk : k = key
  · subst hk; simp [h]
  · rw [SMap.find_put_other _ _ hk]; exact ⟨a, rfl⟩

/-- A buffered sector becomes dirty. -/
theorem Device.soil_beside (s : Device) (key : Nat) (b : BufSector) (h : SMap.find s.mem.buffer key = some b) :
    s.Beside { s with mem := { s.mem with buffer := SMap.put s.mem.buffer key { b with dirty := true } } } := by
  refine ⟨rfl, rfl, fun hw => ?_⟩
  rw [Memory.wf_iff] at hw
  refine ⟨(Memory.wf_iff _).2 ⟨hw.1, hw.2.1, SMap.put_rising _ _ _ hw.2.2⟩, fun k a => ?_⟩
  unfold MemSt.agrees MemSt.marked at *
  dsimp only
  by_cases hk : k = key
  · subst hk; simp [h]
  · rw [SMap.find_put_other _ _ hk]; exact ⟨a, rfl⟩

/-- An access leaves what a reader finds. -/
theorem Device.touch_beside (s : Device) (user view key : Nat) (dirty : Bool) : s.Beside (s.touch user view key dirty) := by
  unfold Device.touch
  split
  · next b hb =>
    split
    · exact s.soil_beside key b hb
    · exact .refl s
  · next hb =>
    dsimp only
    split
    · exact s.countTraffic_beside user key
    · have h1 := (s.countTraffic_beside user key).trans (Device.makeRoom_beside _ (key / 4))
      refine h1.trans (Device.enter_beside _ key dirty ?_)
      unfold Device.makeRoom
      dsimp only
      split
      · exact hb
      · split
        · exact hb
        · exact Device.find_evict _ _ _ hb

theorem Device.touchRead_beside (s : Device) (user : Nat) (t : Target) (len sash : Nat) : s.Beside (s.touchRead user t len sash) := by
  unfold Device.touchRead
  split
  · exact foldl_keeps (fun u => s.Beside u) _ _ _ (.refl s) (fun u on h => h.trans (u.touch_beside _ _ _ _))
  · exact .refl s

theorem Device.evict_panes (s : Device) (line : Nat) : (s.evict line).panes = s.panes := by
  unfold Device.evict
  exact foldl_keeps (fun t : Device => t.panes = s.panes) _ _ _ rfl (fun t kv h => h)

theorem Device.touch_panes (s : Device) (user view key : Nat) (dirty : Bool) : (s.touch user view key dirty).panes = s.panes := by
  unfold Device.touch
  split
  · split <;> rfl
  · dsimp only
    split
    · rfl
    · unfold Device.makeRoom
      dsimp only
      split
      · rfl
      · split
        · rfl
        · exact Device.evict_panes _ _

theorem Device.touchRead_panes (s : Device) (user : Nat) (t : Target) (len sash : Nat) : (s.touchRead user t len sash).panes = s.panes := by
  unfold Device.touchRead
  split
  · exact foldl_keeps (fun u : Device => u.panes = s.panes) _ _ _ rfl (fun u on h => (Device.touch_panes _ _ _ _ _).trans h)
  · rfl

theorem Device.fitBuffer_beside (s : Device) : s.Beside s.fitBuffer := by
  unfold Device.fitBuffer
  refine foldl_keeps (fun u => s.Beside u) _ _ _ (.refl s) (fun u l h => ?_)
  dsimp only
  split
  · exact h
  · exact h.trans (u.draw_beside.trans (Device.evict_beside _ _))

theorem Device.Beside.wf {s t : Device} (a : s.Beside t) (h : Memory.wf s.mem = true) : Memory.wf t.mem = true := (a.2.2 h).1

variable {s : Device}

theorem Device.dropBuffer_wf {gone : Nat → Bool} (h : Memory.wf s.mem = true) : Memory.wf (s.dropBuffer gone).mem = true := by
  rw [Memory.wf_iff] at h ⊢
  exact ⟨h.1, h.2.1, SMap.filter_rising _ _ h.2.2⟩

/-! ## Stores and poison -/

theorem Device.putBytes_wf {part pool copy off : Nat} {data : List Byte} (h : Memory.wf s.mem = true) :
    Memory.wf (s.putBytes part pool copy off data).mem = true := by
  rw [Memory.wf_iff] at h ⊢
  exact ⟨SMap.foldl_keep_wf _ _ _ _ _ h.1, h.2⟩

theorem Device.setPoison_wf {part pool copy off : Nat} {b : Bool} (h : Memory.wf s.mem = true) :
    Memory.wf (s.setPoison part pool copy off b).mem = true := by
  rw [Memory.wf_iff] at h ⊢
  unfold Device.setPoison MemSt.mark
  dsimp only
  split
  · exact ⟨h.1, h.2.1, SMap.put_rising _ _ _ h.2.2⟩
  · exact ⟨h.1, SMap.keep_wf _ _ _ _ h.2.1, h.2.2⟩

/-- A mark stands as it is made, and leaves every other. -/
theorem MemSt.marked_mark (m : MemSt) (key : Nat) (b : Bool) : (m.mark key b).marked key = b := by
  unfold MemSt.mark
  by_cases h : (SMap.find m.buffer key).isSome = true
  · rw [if_pos h]; simp [MemSt.marked]
  · rw [if_neg h]
    rw [Option.not_isSome_iff_eq_none] at h
    simp [MemSt.marked, h]

theorem MemSt.marked_mark_other (m : MemSt) {key k : Nat} (b : Bool) (h : k ≠ key) : (m.mark key b).marked k = m.marked k := by
  unfold MemSt.mark
  split
  · simp [MemSt.marked, SMap.find_put_other _ _ h]
  · simp [MemSt.marked, SMap.get_keep_other _ _ _ _ h]

/-- A store leaves every byte of every key outside it. -/
theorem Device.putBytes_other {part pool copy off key : Nat} {data : List Byte}
    (h : ¬ (memKey part pool copy off ≤ key ∧ key < memKey part pool copy off + data.length)) :
    SMap.get (s.putBytes part pool copy off data).mem.bytes key 0 = SMap.get s.mem.bytes key 0 := by
  refine SMap.get_foldl_keep_other _ _ _ _ _ _ _ ?_
  intro b hb
  have := List.snd_lt_of_mem_zipIdx hb
  simp only [memKey] at h ⊢
  omega

/-- A store marks no sector. -/
@[simp] theorem Device.putBytes_poison {part pool copy off : Nat} {data : List Byte} :
    (s.putBytes part pool copy off data).mem.poison = s.mem.poison := rfl

/-- A mark of poison changes no byte. -/
@[simp] theorem Device.setPoison_bytes {part pool copy off : Nat} {b : Bool} :
    (s.setPoison part pool copy off b).mem.bytes = s.mem.bytes := by
  unfold Device.setPoison MemSt.mark; dsimp only; split <;> rfl

theorem Device.writeCopy_wf {part pool copy off : Nat} {data : List Byte} (h : Memory.wf s.mem = true) :
    Memory.wf (s.writeCopy part pool copy off data).1.mem = true := by
  unfold Device.writeCopy
  repeat' split
  · exact h
  · exact Device.setPoison_wf (Device.putBytes_wf h)
  · exact h
  · exact Device.putBytes_wf h

theorem Device.storeCopy_wf {part pool copy base : Nat} {writes : List (Nat × Byte)} (h : Memory.wf s.mem = true) :
    Memory.wf (s.storeCopy part pool copy base writes).1.mem = true := by
  have hf : Memory.wf (writes.foldl (fun t w => t.putBytes part pool copy (base + w.1) [w.2]) s).mem = true :=
    foldl_keeps (fun t : Device => Memory.wf t.mem = true) _ _ _ h (fun _ _ => Device.putBytes_wf)
  unfold Device.storeCopy
  dsimp only
  repeat' split
  · exact h
  · exact h
  · exact Device.setPoison_wf hf
  · exact hf

theorem Device.repairCopy_wf {part pool from' onto base : Nat} (h : Memory.wf s.mem = true) :
    Memory.wf (s.repairCopy part pool from' onto base).mem = true := Device.setPoison_wf (Device.putBytes_wf h)

theorem Device.healMirror_wf {part pool base : Nat} (h : Memory.wf s.mem = true) :
    Memory.wf (s.healMirror part pool base).mem = true := by
  unfold Device.healMirror
  dsimp only
  repeat' split
  · exact Device.repairCopy_wf h
  · exact Device.repairCopy_wf h
  · exact h
  · exact h

theorem Device.performForward_wf {f : Forward} (h : Memory.wf s.mem = true) : Memory.wf (s.performForward f).mem = true := by
  unfold Device.performForward
  dsimp only
  split
  · exact (Device.touch_beside _ _ _ _ _).wf (Device.setPoison_wf h)
  · exact (Device.touch_beside _ _ _ _ _).wf (Device.storeCopy_wf (Device.healMirror_wf h))

theorem Device.flushPartners_wf {part pool base : Nat} (h : Memory.wf s.mem = true) :
    Memory.wf (s.flushPartners part pool base).mem = true := by
  unfold Device.flushPartners
  dsimp only
  split
  · exact h
  · exact foldl_keeps (fun t : Device => Memory.wf t.mem = true) _ _ _ h (fun _ _ => Device.performForward_wf)

theorem Device.forward_wf {user view part pool base : Nat} {writes : Option (List (Nat × Byte))} (h : Memory.wf s.mem = true) :
    Memory.wf (s.forward user view part pool base writes).mem = true := by
  unfold Device.forward Device.forwardAs
  dsimp only
  split <;> exact h

/-! ## Sectors and ranges -/

@[simp] theorem Device.clearLost_mem {part pool off len : Nat} : (s.clearLost part pool off len).mem = s.mem := by
  unfold Device.clearLost; dsimp only; split <;> rfl

@[simp] theorem Device.firstTouch_mem {part pool off : Nat} : (s.firstTouch part pool off).mem = s.mem := by
  unfold Device.firstTouch; dsimp only; (repeat' split) <;> rfl

/-- An event is told to the sessions that take it; memory stands. -/
@[simp] theorem Device.deliverEvent_mem {id body : Nat} : (deliverEvent s id body).mem = s.mem := by
  unfold deliverEvent
  (repeat' split) <;> rfl

@[simp] theorem Device.raisePart_mem {part code sev : Nat} {params : List (Nat × Nat)} :
    (s.raisePart part code sev params).mem = s.mem := by
  unfold Device.raisePart
  dsimp only
  exact foldl_keeps (fun t : Device => t.mem = s.mem) _ _ _ rfl (fun a b h => by rw [Device.deliverEvent_mem, h])

@[simp] theorem Device.noteShared_mem {part pool base : Nat} {before : Device} : (s.noteShared part pool base before).mem = s.mem := by
  unfold Device.noteShared
  dsimp only
  split
  · split
    · exact Device.raisePart_mem
    · rfl
  · rfl

theorem Device.healed_wf {part pool base : Nat} (h : Memory.wf s.mem = true) :
    Memory.wf (if s.poisonAt part pool 0 base then (s.flushPartners part pool base).healMirror part pool base else s).mem = true := by
  split
  · exact Device.healMirror_wf (Device.flushPartners_wf h)
  · exact h

theorem Device.writeSector_wf {part pool off : Nat} {data : List Byte} {view user : Nat} (h : Memory.wf s.mem = true) :
    Memory.wf (s.writeSector part pool off data view user).1.mem = true := by
  have hc : Memory.wf ((s.firstTouch part pool off).clearLost part pool off data.length).mem = true := by simpa using h
  have hh := Device.healed_wf (part := part) (pool := pool) (base := off / 32 * 32) hc
  unfold Device.writeSector
  generalize (s.firstTouch part pool off).clearLost part pool off data.length = u at *
  dsimp only
  generalize (if u.poisonAt part pool 0 (off / 32 * 32) then (u.flushPartners part pool (off / 32 * 32)).healMirror part pool (off / 32 * 32)
    else u) = v at *
  have hv := Device.writeCopy_wf (part := part) (pool := pool) (copy := 0) (off := off) (data := data) hh
  generalize v.writeCopy part pool 0 off data = r at *
  by_cases e : r.2 = stPoison
  · rw [if_pos e]; exact hv
  · rw [if_neg e]; exact Device.forward_wf ((Device.touch_beside _ _ _ _ _).wf hv)

theorem Device.writeBoth_wf {part pool off : Nat} {data : List Byte} (h : Memory.wf s.mem = true) :
    Memory.wf (s.writeBoth part pool off data).1.mem = true := Device.flushPartners_wf (Device.writeSector_wf h)

theorem Device.writePool_wf {part pool off : Nat} {data : List Byte} (h : Memory.wf s.mem = true) :
    Memory.wf (s.writePool part pool off data).1.mem = true := by
  unfold Device.writePool
  refine foldl_keeps (fun r : Device × Nat => Memory.wf r.1.mem = true) _ _ _ h ?_
  intro acc on ha
  dsimp only
  exact Device.writeBoth_wf ha

theorem Device.poisonSector_wf {part pool off : Nat} (h : Memory.wf s.mem = true) :
    Memory.wf (s.poisonSector part pool off).mem = true := by
  unfold Device.poisonSector
  dsimp only
  rw [Device.noteShared_mem]
  exact foldl_keeps (fun t : Device => Memory.wf t.mem = true) _ _ _ (Device.flushPartners_wf (by simpa using h))
    (fun _ _ => Device.setPoison_wf)

theorem Device.carryPoison_wf {part pool off view user : Nat} (h : Memory.wf s.mem = true) :
    Memory.wf (s.carryPoison part pool off view user).mem = true := by
  unfold Device.carryPoison
  dsimp only
  rw [Device.noteShared_mem]
  exact Device.forward_wf ((Device.touch_beside _ _ _ _ _).wf (Device.setPoison_wf (by simpa using h)))

/-! ## Removals -/

theorem Device.wipePool_wf {part pool : Nat} (h : Memory.wf s.mem = true) : Memory.wf (s.wipePool part pool).mem = true := by
  rw [Memory.wf_iff] at h ⊢
  exact ⟨SMap.filter_wf _ _ _ h.1, SMap.filter_wf _ _ _ h.2.1, SMap.filter_rising _ _ h.2.2⟩

theorem Device.dropMemory_wf {part : Nat} (h : Memory.wf s.mem = true) : Memory.wf (s.dropMemory part).mem = true := by
  rw [Memory.wf_iff] at h ⊢
  exact ⟨SMap.filter_wf _ _ _ h.1, SMap.filter_wf _ _ _ h.2.1, SMap.filter_rising _ _ h.2.2⟩

theorem Device.zeroRun_wf {part pool : Nat} {run : Nat × Nat} (h : Memory.wf s.mem = true) :
    Memory.wf (s.zeroRun part pool run).mem = true := by
  have hf : Memory.wf (((s.part part).snap.todo.filter (fun b =>
      b / 2 ^ 27 == pool && decide (run.1 < (b % 2 ^ 27 + 1) * 32768 ∧ b % 2 ^ 27 * 32768 < run.1 + run.2))).foldl
        (fun t b => t.firstTouch part pool (b % 2 ^ 27 * 32768)) s).mem = true :=
    foldl_keeps (fun t : Device => Memory.wf t.mem = true) _ _ _ h (fun a b ha => by simpa using ha)
  rw [Memory.wf_iff] at hf ⊢
  exact ⟨SMap.filter_wf _ _ _ hf.1, SMap.filter_wf _ _ _ hf.2.1, SMap.filter_rising _ _ hf.2.2⟩

theorem Device.beforeStart_wf {boot : BootSt} : Memory.wf (s.beforeStart boot).mem = true := State.reset_memory_wf

end Sys2Proof.Machine
end

