-- ==== Sys2Proof/Laws/Registers.lean ====
section
/-! SUPPORT. The registers of a group: what reads them after a write, and what a write leaves. -/

namespace Sys2Proof.Machine

/-! ## v registers (R52, Table 04-3) -/

/-- A v register other than v255 reads what was last written to it in its lane; every other register keeps its value. -/
theorem Group.v_setV (g : Group) (l n k m : Nat) (x : Word) (hn : n < 256) (hm : m < 256) :
    (g.setV l n x).v k m = if k = l ∧ m = n ∧ n ≠ 255 then x else g.v k m := by
  unfold Group.setV Group.v
  by_cases h255 : n = 255
  · simp [h255]
  · by_cases hm255 : m = 255
    · have : ¬ m = n := by omega
      simp [hm255, h255]; omega
    · by_cases he : k = l ∧ m = n
      · obtain ⟨rfl, rfl⟩ := he
        simp [h255]
      · have hk : k * 256 + m ≠ l * 256 + n := by omega
        have hf : ¬(k = l ∧ m = n ∧ n ≠ 255) := fun h => he ⟨h.1, h.2.1⟩
        rw [if_neg hm255, if_neg h255, if_neg hf]
        simp only [SMap.get_keep_other _ _ _ _ hk, if_neg hm255]

/-- A run of lanes written: each lane gets its own value, and every other lane and register keeps its value. -/
theorem Group.v_setVs (g : Group) (lanes : List Nat) (n : Nat) (f : Nat → Word) (k m : Nat) (hn : n < 256) (hm : m < 256) :
    (g.setVs lanes n f).v k m = if k ∈ lanes ∧ m = n ∧ n ≠ 255 then f k else g.v k m := by
  induction lanes generalizing g with
  | nil => simp [Group.setVs]
  | cons l ls ih =>
    have e : g.setVs (l :: ls) n f = (g.setV l n (f l)).setVs ls n f := rfl
    rw [e, ih, Group.v_setV _ _ _ _ _ _ hn hm]
    by_cases h1 : k ∈ ls <;> by_cases h2 : k = l <;> by_cases h3 : m = n <;> by_cases h4 : n = 255 <;> simp [h1, h2, h3, h4]

section
variable (g : Group) (l n : Nat) (x : Word)
@[simp] theorem Group.setV_sregs : (g.setV l n x).sregs = g.sregs := by unfold Group.setV; split <;> rfl
@[simp] theorem Group.setV_preds : (g.setV l n x).preds = g.preds := by unfold Group.setV; split <;> rfl
@[simp] theorem Group.setV_flags : (g.setV l n x).flags = g.flags := by unfold Group.setV; split <;> rfl
@[simp] theorem Group.setV_paths : (g.setV l n x).paths = g.paths := by unfold Group.setV; split <;> rfl
@[simp] theorem Group.setV_splits : (g.setV l n x).splits = g.splits := by unfold Group.setV; split <;> rfl
@[simp] theorem Group.setV_cur : (g.setV l n x).cur = g.cur := by unfold Group.setV; split <;> rfl
@[simp] theorem Group.setV_loads : (g.setV l n x).loads = g.loads := by unfold Group.setV; split <;> rfl
@[simp] theorem Group.setV_stores : (g.setV l n x).stores = g.stores := by unfold Group.setV; split <;> rfl
@[simp] theorem Group.setV_drains : (g.setV l n x).drains = g.drains := by unfold Group.setV; split <;> rfl
@[simp] theorem Group.setV_stopped : (g.setV l n x).stopped = g.stopped := by unfold Group.setV; split <;> rfl
@[simp] theorem Group.setV_unchecked : (g.setV l n x).unchecked = g.unchecked := by unfold Group.setV; split <;> rfl
@[simp] theorem Group.setV_cohort : (g.setV l n x).cohort = g.cohort := by unfold Group.setV; split <;> rfl
@[simp] theorem Group.setV_gic : (g.setV l n x).gic = g.gic := by unfold Group.setV; split <;> rfl
@[simp] theorem Group.setV_width : (g.setV l n x).width = g.width := by unfold Group.setV; split <;> rfl
@[simp] theorem Group.setV_vcount : (g.setV l n x).vcount = g.vcount := by unfold Group.setV; split <;> rfl
end

/-- What a group holds besides its v registers. -/
def Group.sameButV (g h : Group) : Prop := h = { g with vregs := h.vregs }

theorem Group.setV_sameButV (g : Group) (l n : Nat) (x : Word) : g.sameButV (g.setV l n x) := by
  unfold Group.sameButV Group.setV; split <;> rfl

theorem Group.sameButV_trans {g h k : Group} (a : g.sameButV h) (b : h.sameButV k) : g.sameButV k := by
  unfold Group.sameButV at *; rw [b, a]

/-- Writing v registers leaves all else of the group. -/
theorem Group.setVs_sameButV (g : Group) (lanes : List Nat) (n : Nat) (f : Nat → Word) : g.sameButV (g.setVs lanes n f) := by
  induction lanes generalizing g with
  | nil => rfl
  | cons l ls ih => exact Group.sameButV_trans (g.setV_sameButV l n (f l)) (ih _)

/-- Writing a wide value to v registers leaves all else of the group. -/
theorem Group.setVWide_sameButV (g : Group) (l n x k : Nat) : g.sameButV (g.setVWide l n x k) := by
  induction k generalizing g n x with
  | zero => rfl
  | succ k ih => exact Group.sameButV_trans (g.setV_sameButV _ _ _) (ih _ _ _)

/-! ## s registers and predicates (R53, Table 04-3) -/

theorem Group.s_setS (g : Group) (n m : Nat) (x : Word) : (g.setS n x).s m = if m = n then x else g.s m := by
  unfold Group.setS Group.s
  split
  · next h => subst h; simp
  · next h => simp [SMap.get_keep_other _ _ _ _ h]

/-- p0 ignores writes; another predicate takes the value in the lanes of the mask and keeps the rest. -/
theorem Group.p_setP (g : Group) (n m : Nat) (lanes value : Mask) :
    (g.setP n lanes value).p m = if m = n ∧ n ≠ 0 then (g.p n &&& ~~~lanes) ||| (value &&& lanes) else g.p m := by
  unfold Group.setP
  by_cases hn : n = 0
  · simp [hn]
  · by_cases hm : m = n
    · subst hm; simp [hn, Group.p]
    · simp [hn, hm, Group.p, SMap.get_keep_other _ _ _ _ hm]

@[simp] theorem Group.v_setS (g : Group) (n : Nat) (x : Word) (l m : Nat) : (g.setS n x).v l m = g.v l m := rfl
@[simp] theorem Group.p_setS (g : Group) (n : Nat) (x : Word) (m : Nat) : (g.setS n x).p m = g.p m := rfl
@[simp] theorem Group.v_setP (g : Group) (n : Nat) (a b : Mask) (l m : Nat) : (g.setP n a b).v l m = g.v l m := by
  unfold Group.setP; split <;> rfl
@[simp] theorem Group.s_setP (g : Group) (n : Nat) (a b : Mask) (m : Nat) : (g.setP n a b).s m = g.s m := by
  unfold Group.setP; split <;> rfl

end Sys2Proof.Machine
end

