-- ==== Sys2Proof/Laws/Krycha.lean ====
section
/-! SUPPORT. What a Krycha command does once its word has passed its checks, and what the end of an instruction leaves. -/

namespace Sys2Proof.Machine

/-! ## Lanes and fields -/

theorem mem_lanesOf (m : Mask) (l : Nat) : l ∈ lanesOf m ↔ l < 128 ∧ m.getLsbD l = true := by
  simp [lanesOf]

theorem Ctx.fD_lt (y : Ctx) : y.fD < 256 := by
  unfold Ctx.fD fld; omega

/-! ## Paths -/

/-- Where a group's paths stand is all that a change of paths touches. -/
def Group.samePaths (g h : Group) : Prop := h = { g with paths := h.paths, splits := h.splits, cur := h.cur }

theorem Group.samePaths_refl (g : Group) : g.samePaths g := rfl

theorem Group.samePaths_trans {g h k : Group} (a : g.samePaths h) (b : h.samePaths k) : g.samePaths k := by
  unfold Group.samePaths at *; rw [b, a]

theorem Group.dropDead_samePaths (g : Group) : g.samePaths g.dropDead := rfl

theorem Group.mergeOne_samePaths (g : Group) : g.samePaths g.mergeOne := by
  unfold Group.mergeOne
  split
  · rfl
  · dsimp only; split <;> rfl

theorem Group.mergeN_samePaths (g : Group) (n : Nat) : g.samePaths (g.mergeN n) := by
  induction n generalizing g with
  | zero => rfl
  | succ n ih => exact Group.samePaths_trans g.mergeOne_samePaths (ih _)

theorem Group.unwait_samePaths (g : Group) : g.samePaths g.unwait := rfl

theorem Group.settle_samePaths (g : Group) : g.samePaths g.settle :=
  Group.samePaths_trans g.dropDead_samePaths (Group.samePaths_trans (Group.mergeN_samePaths _ _) (Group.unwait_samePaths _))

theorem Group.switchFrom_samePaths (g : Group) (k : Nat) : g.samePaths (g.switchFrom k) := by
  unfold Group.switchFrom; split <;> rfl

theorem Group.resume_samePaths (g : Group) : g.samePaths g.resume := by
  unfold Group.resume
  split
  · exact g.switchFrom_samePaths _
  · split
    · rfl
    · exact g.switchFrom_samePaths _

theorem Group.samePaths.settle {g h : Group} (a : g.samePaths h) : g.samePaths h.settle :=
  Group.samePaths_trans a h.settle_samePaths

theorem Group.samePaths.switchFrom {g h : Group} (a : g.samePaths h) (k : Nat) : g.samePaths (h.switchFrom k) :=
  Group.samePaths_trans a (h.switchFrom_samePaths k)

theorem Group.samePaths.resume {g h : Group} (a : g.samePaths h) : g.samePaths h.resume :=
  Group.samePaths_trans a h.resume_samePaths

theorem Group.redirect_samePaths (g : Group) (p : Path) (moves : List (Mask × Nat)) (rcv : Option Nat) (aside : Mask) :
    g.samePaths (g.redirect p moves rcv aside) := by
  unfold Group.redirect
  dsimp only
  split
  · apply Group.samePaths.switchFrom; apply Group.samePaths.settle; rfl
  · apply Group.samePaths.resume; apply Group.samePaths.settle; rfl

theorem Group.advance_samePaths (g : Group) (p : Path) (n : Nat) : g.samePaths (g.advance p n) := by
  unfold Group.advance Group.goto
  exact g.redirect_samePaths ..

theorem Group.block_samePaths (g : Group) (p : Path) (lanes : Mask) (st : PathSt) (n : Nat) :
    g.samePaths (g.block p lanes st n) := by
  unfold Group.block
  dsimp only
  split
  · apply Group.samePaths.switchFrom; rfl
  · apply Group.samePaths.resume; apply Group.samePaths.settle; rfl

theorem Group.exitLanes_samePaths (g : Group) (p : Path) (lanes : Mask) (n : Nat) : g.samePaths (g.exitLanes p lanes n) := by
  unfold Group.exitLanes
  dsimp only
  split
  · apply Group.samePaths.switchFrom; apply Group.samePaths.settle; rfl
  · apply Group.samePaths.resume; apply Group.samePaths.settle; rfl

theorem Group.release_samePaths (g : Group) (p : Path) (n : Nat) : g.samePaths (g.release p n) := by
  unfold Group.release
  apply Group.samePaths.resume; apply Group.samePaths.settle; rfl

theorem Ctx.uncheck_only (x : Ctx) (g : Group) : OnlyPaths g (x.uncheck g) := by
  unfold Ctx.uncheck OnlyPaths; split <;> rfl

theorem OnlyPaths.trans {g h k : Group} (a : OnlyPaths g h) (b : OnlyPaths h k) : OnlyPaths g k := by
  unfold OnlyPaths at *; rw [b]; rw [a]

theorem Group.samePaths.only {g h : Group} (a : g.samePaths h) : OnlyPaths g h := by
  unfold Group.samePaths at a
  obtain ⟨h1, h2, h3⟩ : h.paths = h.paths ∧ h.splits = h.splits ∧ h.cur = h.cur := ⟨rfl, rfl, rfl⟩
  have hu : h.unchecked = g.unchecked := by rw [a]
  unfold OnlyPaths; rw [hu]; exact a

/-! ## Issuing -/

/-- A group without a struck register is none the different for what an instruction writes (R354). -/
theorem Ctx.rewritten_none (x : Ctx) (u : Uses) (h : x.g.struck = []) : x.rewritten u = x := by
  obtain ⟨s, pane, slot, w, w1, g, p, c, l⟩ := x
  cases g
  simp_all [Ctx.rewritten]

/-- A Krycha command whose word is its own and passes its checks has its effect. -/
theorem krycha_issues {n : Nat} {own : Nat → Bool} {uses : Ctx → Uses} {body : Ctx → Device} {pane slot w w1 : Nat} {s : Device}
    {y : Ctx} (ho : own w = true) (hi : Issues s pane slot w w1 n uses y) :
    krycha n own uses body pane slot w w1 s = .next (body y) := by
  obtain ⟨x, h1, h2, rfl, h4, h5, h6⟩ := hi
  simp [krycha, ho, h1, h2, h4, h5, Ctx.struckLanes, h6, Ctx.rewritten_none _ _ h6]

/-- What an issuing instruction sees is what the state holds. -/
theorem Device.issuing_some {s : Device} {pane slot w w1 : Nat} {x : Ctx} (h : s.issuing pane slot w w1 = some x) :
    x.s = s ∧ x.pane = pane ∧ x.slot = slot ∧ x.w = w ∧ x.w1 = w1 ∧ s.group? pane slot = some x.g
      ∧ x.g.cur? = some x.p ∧ s.cohort? x.g.cohort = some x.c ∧ s.launch? x.c.part x.c.launch = some x.l
      ∧ x.p.runnable = true ∧ x.g.stopped = false := by
  unfold Device.issuing at h
  split at h
  · cases h
  · split at h
    · cases h
    · next g hg =>
      split at h
      · next p c hp hc =>
        split at h
        · next l hl =>
          split at h
          · next hr =>
            simp only [Option.some.injEq] at h
            subst h
            simp only [Bool.and_eq_true] at hr
            simp_all
          · cases h
        · cases h
      · cases h

/-! ## The fetch (R58) -/

/-- A sector of code that is fetched leaves all but the pane's instruction cache as a reader finds it, and all of it when the cache holds
the sector. -/
theorem Ctx.fetchSector_beside (x : Ctx) (s : Device) (k : Nat) :
    s.Beside (x.fetchSector s k) ∧ (∀ a, a ≠ x.pane → (x.fetchSector s k).pane a = s.pane a)
      ∧ (x.fetchSector s k).pane x.pane = { s.pane x.pane with icache := ((x.fetchSector s k).pane x.pane).icache }
      ∧ (k ∈ (s.pane x.pane).icache → x.fetchSector s k = s) := by
  have into (t : Device) : t.Beside (t.fetchInto x.pane k) ∧ (∀ a, a ≠ x.pane → (t.fetchInto x.pane k).pane a = t.pane a)
      ∧ (t.fetchInto x.pane k).pane x.pane = { t.pane x.pane with icache := ((t.fetchInto x.pane k).pane x.pane).icache } := by
    unfold Device.fetchInto
    dsimp only
    split
    · exact ⟨.refl t, fun _ _ => rfl, rfl⟩
    · split
      · exact ⟨⟨rfl, .refl _⟩, fun a h => Device.pane_modPane_other t _ h, by simp⟩
      · exact ⟨⟨rfl, .refl _⟩, fun a h => Device.pane_modPane_other t.draw.2 _ h, by rw [Device.pane_modPane]; rfl⟩
  unfold Ctx.fetchSector
  split
  · exact ⟨.refl s, fun _ _ => rfl, rfl, fun _ => rfl⟩
  · next hk =>
    have hn : ¬ k ∈ (s.pane x.pane).icache := by simpa using hk
    split
    · next t ht =>
      have hb := s.touchRead_beside x.part t 32 (sashOf x.pane)
      have hp : (s.touchRead x.part t 32 (sashOf x.pane)).panes = s.panes := Device.touchRead_panes s _ _ _ _
      have hq (a : Nat) : (s.touchRead x.part t 32 (sashOf x.pane)).pane a = s.pane a := by unfold Device.pane; rw [hp]
      obtain ⟨i1, i2, i3⟩ := into (s.touchRead x.part t 32 (sashOf x.pane))
      exact ⟨hb.trans i1, fun a h => (i2 a h).trans (hq a), by rw [i3, hq], fun h => absurd h hn⟩
    · obtain ⟨i1, i2, i3⟩ := into s
      exact ⟨i1, i2, i3, fun h => absurd h hn⟩

theorem Ctx.fetchSectors_beside (x : Ctx) (ks : List Nat) (s : Device) :
    s.Beside (ks.foldl x.fetchSector s) ∧ (∀ a, a ≠ x.pane → (ks.foldl x.fetchSector s).pane a = s.pane a)
      ∧ (ks.foldl x.fetchSector s).pane x.pane = { s.pane x.pane with icache := ((ks.foldl x.fetchSector s).pane x.pane).icache }
      ∧ ((∀ k ∈ ks, k ∈ (s.pane x.pane).icache) → ks.foldl x.fetchSector s = s) := by
  induction ks generalizing s with
  | nil => exact ⟨.refl s, fun _ _ => rfl, rfl, fun _ => rfl⟩
  | cons k ks ih =>
    obtain ⟨a1, a2, a3, a4⟩ := x.fetchSector_beside s k
    obtain ⟨b1, b2, b3, b4⟩ := ih (x.fetchSector s k)
    refine ⟨a1.trans b1, fun a h => (b2 a h).trans (a2 a h), by rw [List.foldl_cons, b3, a3], fun h => ?_⟩
    have hk := a4 (h k List.mem_cons_self)
    rw [List.foldl_cons, b4 (fun j hj => by rw [hk]; exact h j (List.mem_cons_of_mem _ hj)), hk]

theorem mem_span {lo hi k : Nat} : k ∈ span lo hi ↔ lo ≤ k ∧ k < hi := by
  simp only [span, List.mem_map, List.mem_range]
  exact ⟨fun ⟨a, h1, h2⟩ => by omega, fun h => ⟨k - lo, by omega, by omega⟩⟩

/-- The sectors of a shorter run from an address are sectors of a longer one. -/
theorem sectorsOf_mono {a n m k : Nat} (h : n ≤ m) (hk : k ∈ sectorsOf a n) : k ∈ sectorsOf a m := by
  unfold sectorsOf at hk ⊢
  by_cases hn : n = 0
  · rw [if_pos hn] at hk; exact absurd hk List.not_mem_nil
  · rw [if_neg hn, mem_span] at hk
    rw [if_neg (by omega), mem_span]
    exact ⟨hk.1, by omega⟩

/-- What the context of an instruction that issues holds: the words, the state's own group, and the state as the fetch leaves it. -/
theorem Issues.sees {s : Device} {pane slot w w1 n : Nat} {uses : Ctx → Uses} {y : Ctx} (h : Issues s pane slot w w1 n uses y)
    (hn : n ≤ 16) :
    y.pane = pane ∧ y.slot = slot ∧ y.w = w ∧ y.w1 = w1 ∧ s.group? pane slot = some y.g
      ∧ Fetches s y.s pane slot ∧ y.g.cur? = some y.p
      ∧ s.cohort? y.g.cohort = some y.c ∧ s.launch? y.c.part y.c.launch = some y.l := by
  obtain ⟨x, h1, -, rfl, -, -⟩ := h
  obtain ⟨rfl, rfl, rfl, rfl, rfl, h6, h7, h8, h9, -⟩ := Device.issuing_some h1
  obtain ⟨c1, c2, c3, c4⟩ := x.fetchSectors_beside (sectorsOf x.p.pc n) x.s
  refine ⟨rfl, rfl, rfl, rfl, h6, ⟨c1.1, c2, c3, fun hw key ha => ((c1.2.2 hw).2 key ha).2, fun hc => c4 (fun k hk => ?_)⟩, h7, h8, h9⟩
  exact hc x.g x.p h6 h7 k (sectorsOf_mono hn hk)

/-! ## The end of an instruction -/

theorem Ctx.count_group (x : Ctx) (s : Device) (a k : Nat) : (x.count s).group? a k = s.group? a k := by
  unfold Ctx.count
  split
  · by_cases h : a = x.pane
    · subst h; simp [Device.group?]
    · simp [Device.group?, Device.pane_modPane_other _ _ h]
  · rfl

/-- The group as the instruction left it stands in its slot, past the instruction. -/
theorem Ctx.finish_group (x : Ctx) (s : Device) (g : Group) (n : Nat) :
    (x.finish s g n).group? x.pane x.slot = some ((x.uncheck g).advance x.p n) := by
  simp [Ctx.finish]

theorem OwnGroup.trans {s t u : Device} {pane slot : Nat} (a : OwnGroup s t pane slot) (b : OwnGroup t u pane slot) :
    OwnGroup s u pane slot := by
  obtain ⟨a1, a2, a3, a4⟩ := a
  obtain ⟨b1, b2, b3, b4⟩ := b
  refine ⟨by rw [b1, a1], fun k h => by rw [b2 k h, a2 k h], by rw [b3, a3], fun k h => by rw [b4 k h, a4 k h]⟩

theorem Device.setGroup_only (s : Device) (pane slot : Nat) (g : Group) : OwnGroup s (s.setGroup pane slot g) pane slot := by
  refine ⟨rfl, fun a h => Device.pane_setGroup_other s slot g h, ?_, fun k h => Device.group_setGroup_other s g h⟩
  simp [Pane.setGroup]

theorem Ctx.count_only (x : Ctx) (s : Device) (slot : Nat) : OwnGroup s (x.count s) x.pane slot := by
  unfold Ctx.count
  split
  · exact ⟨rfl, fun a h => Device.pane_modPane_other s _ h, by simp, fun k _ => by simp [Device.group?]⟩
  · exact ⟨rfl, fun _ _ => rfl, rfl, fun _ _ => rfl⟩

/-- An instruction that ends changes its own group and the pane's counts. -/
theorem Ctx.finish_only (x : Ctx) (s : Device) (g : Group) (n : Nat) : OwnGroup s (x.finish s g n) x.pane x.slot :=
  (x.count_only s x.slot).trans (Device.setGroup_only _ _ _ _)

/-- From the state before the fetch on, an instruction that ends at once changes what the fetch leaves, its own group and the pane's
counts. -/
theorem Issues.done_only {s : Device} {pane slot w w1 n : Nat} {uses : Ctx → Uses} {y : Ctx}
    (h : Issues s pane slot w w1 n uses y) (hn : n ≤ 16) (g : Group) : OnlyGroup s (y.done g) pane slot := by
  obtain ⟨h1, h2, -, -, -, h6, -⟩ := h.sees hn
  have b := y.finish_only y.s g 8
  rw [h1, h2] at b
  exact ⟨y.s, h6, b⟩

/-- The group that an instruction leaves differs from what it made of it in its paths alone. -/
theorem Ctx.done_group (x : Ctx) (g : Group) :
    ∃ h, (x.done g).group? x.pane x.slot = some h ∧ OnlyPaths g h :=
  ⟨_, x.finish_group x.s g 8, (x.uncheck_only g).trans (Group.advance_samePaths _ _ _).only⟩

end Sys2Proof.Machine
end

