-- ==== Sys2Proof/Tests/Slice0.lean ====
section
/-! SUPPORT. Tests: an ill-formed command for each check of WellFormed, a small state that meets the hypotheses of each
statement, clause by clause, and worked examples and tables of the spec, each over one step. -/

namespace Sys2Proof.Machine.Test

set_option Elab.async false

/-! ## Small states -/

/-- A pool of one sector row on stack 0, ready, in partition 1. -/
def pool0 : Pool := { set := 1, size := 1048576, mirror := false, shared := false, readers := 0, state := .ready }

/-- Its mapping at 2^20 of partition 1. -/
def map0 : Mapping := { va := 1048576, psz := 65536, count := 16, write := true, view := 0, kind := 0, owner := 1, pool := 0 }

def launch0 : Launch :=
  { queue := 0, n := 0, tag := 7, entry := 1048576, codelen := 4096, vreg := 16, width := 16, gpc := 1, lsc := 0, split := 12,
    args := [], cohorts := 1, psel := 0, profile := 1, est0 := 0, seed := 0, checked := false, policy := 0 }

def part0 : Partition :=
  { state := .active, desc := 9 * 65536 + 2 ^ 192, pools := [(0, pool0)], maps := [map0], launches := [(0, launch0)] }

def path0 : Path := { mask := 0xFFFF, pc := 1048576 }

/-- A group of 16 threads with 64 v registers at the start of its code. -/
def group0 : Group := { cohort := 0, gic := 0, width := 16, vcount := 64, paths := [path0] }

def cohort0 : Cohort := { part := 1, launch := 0, index := 0, pane := 0, lsBase := 0, lsPages := 16 }

/-- Pane 0 of a module that is ready, with one group in slot 0 of partition 1. -/
def world (g : Group) (p : Pane := {}) (now : Nat := 0) : State :=
  { boot := { state := 1, stage := 10 }, lintel := { now, views := [(0, now)] }, fabric := { chip := 5 },
    panes := [(0, { p with part := some 1, groups := [(0, g)], icache := sectorsOf 1048576 64 })], cohorts := [(0, cohort0)], parts := [(1, part0)] }

/-- The context of the instruction of the words w and w1 in pane 0, slot 0; any context where none issues. -/
def ctx (s : State) (w w1 n : Nat) : Ctx :=
  match s.issuing 0 0 w w1 with
  | some x => x.cached n
  | none => { s := s.toDevice, pane := 0, slot := 0, w, w1, g := group0, p := path0, c := cohort0, l := launch0 }

/-- Whether the words issue in pane 0, slot 0. -/
def issues (s : State) (w w1 n : Nat) (uses : Ctx → Uses) : Bool :=
  match s.issuing 0 0 w w1 with
  | some x => x.fetch n == none && (uses (x.cached n)).legal (x.cached n).g.vcount && !(x.cached n).g.held (uses (x.cached n))
      && (x.cached n).g.struck == []
  | none => false

theorem issues_spec {s : State} {w w1 n : Nat} {uses : Ctx → Uses} (h : issues s w w1 n uses = true) :
    Issues s.toDevice 0 0 w w1 n uses (ctx s w w1 n) := by
  unfold issues at h
  unfold ctx
  split at h
  · next x hx =>
    simp only [Bool.and_eq_true, beq_iff_eq, Bool.not_eq_true'] at h
    exact ⟨x, hx, h.1.1.1, rfl, h.1.1.2, h.1.2, h.2⟩
  · cases h

/-- What holds of each lane of a mask below 128 holds of each of its lanes. -/
theorem lanes_spec {m : Mask} {P : Nat → Prop} (h : ∀ l, l < 128 → m.getLsbD l = true → P l) (l : Nat) (hl : m.getLsbD l = true) :
    P l := by
  by_cases hb : l < 128
  · exact h l hb hl
  · rw [BitVec.getLsbD_of_ge m l (by omega)] at hl; cases hl

/-- The word of a vector or scalar instruction: class, opcode, D, A, B and C. -/
def word (cls op d a b c : Nat) : DWord :=
  BitVec.ofNat 64 (cls + 16 * op + 2 ^ 16 * d + 2 ^ 24 * a + 2 ^ 32 * b + 2 ^ 40 * c)

/-- An instruction issues in pane 0, slot 0 of a state, and what it sees is as `P` says. -/
def Seen (s : State) (w w1 : DWord) (n : Nat) (uses : Ctx → Uses) (P : Ctx → Prop) : Prop :=
  ∃ y, Issues s.toDevice 0 0 w.toNat w1.toNat n uses y ∧ P y

theorem seen {s : State} {w w1 : DWord} {n : Nat} {uses : Ctx → Uses} {P : Ctx → Prop}
    (h : issues s w.toNat w1.toNat n uses = true) (hp : P (ctx s w.toNat w1.toNat n)) : Seen s w w1 n uses P :=
  ⟨_, issues_spec h, hp⟩

/-- What an answer that may fail gives. -/
theorem ok_of {ε α : Type} [DecidableEq α] {e : Except ε α} {v : α}
    (h : (match e with | .ok x => decide (x = v) | .error _ => false) = true) : e = .ok v := by
  cases e with
  | ok x => simp at h; rw [h]
  | error _ => simp at h

/-! ## Arithmetic instructions -/

theorem witness_IntegerResults : intRow 0 true (word 1 0 2 1 3 0).toNat = true
    ∧ Seen (world group0) (word 1 0 2 1 3 0) 0 8 (Shape.uses {}) (fun y => y.cls ≠ 5 ∧ y.fD = 2 ∧ y.act = 0xFFFF) :=
  ⟨by decide, seen (by decide +kernel) (by decide +kernel)⟩

/-- v255 as D: the write is discarded (R52). -/
theorem witness_IntegerResults_v255 : Seen (world group0) (word 1 0 255 1 3 0) 0 8 (Shape.uses {}) (fun y => y.fD = 255) :=
  seen (by decide +kernel) (by decide +kernel)

theorem witness_IntegerResults_scalar : intRow 0 true (word 5 0 63 1 2 0).toNat = true
    ∧ Seen (world group0) (word 5 0 63 1 2 0) 0 8 (Shape.uses {}) (fun y => y.cls = 5 ∧ y.fD = 63) :=
  ⟨by decide, seen (by decide +kernel) (by decide +kernel)⟩

theorem witness_CompareAndSelect_setp :
    Seen (world group0) (word 1 0x12 1 1 3 0) 0 8 (Shape.uses { mods := setpMods, dp := true }) (fun y => y.cls ≠ 5)
    ∧ Seen (world group0) (word 5 0x12 7 1 3 0) 0 8 (Shape.uses { mods := setpMods, dp := true }) (fun y => y.cls = 5)
    ∧ Seen (world group0) (word 1 0x12 0 1 3 0) 0 8 (Shape.uses { mods := setpMods, dp := true }) (fun y => y.fD = 0) :=
  ⟨seen (by decide +kernel) (by decide +kernel), seen (by decide +kernel) (by decide +kernel),
   seen (by decide +kernel) (by decide +kernel)⟩

theorem witness_CompareAndSelect_sel :
    Seen (world group0) (word 1 0x13 2 1 3 7) 0 8 (Shape.uses { c := .pred }) (fun y => y.cls ≠ 5)
    ∧ Seen (world group0) (word 5 0x13 2 1 3 1) 0 8 (Shape.uses { c := .pred }) (fun y => y.cls = 5) :=
  ⟨seen (by decide +kernel) (by decide +kernel), seen (by decide +kernel) (by decide +kernel)⟩

theorem witness_CompareAndSelect_shuffles :
    intRow 0x15 true (word 1 0x15 2 1 3 0).toNat = true
    ∧ Seen (world group0) (word 1 0x15 2 1 3 0) 0 8 (Shape.uses {}) (fun _ => True)
    ∧ Seen (world group0) (word 1 0x16 2 1 3 0) 0 8 (Shape.uses {}) (fun _ => True) :=
  ⟨by decide, seen (by decide +kernel) trivial, seen (by decide +kernel) trivial⟩

/-- MOD 0 any, 1 all, 2 ballot into an s register. -/
theorem witness_CompareAndSelect_vote :
    Seen (world group0) (word 1 0x17 1 2 0 0) 0 8 voteUses (fun y => y.mod = 0)
    ∧ Seen (world group0) (word 1 0x17 1 2 0 0x100) 0 8 voteUses (fun y => y.mod = 1)
    ∧ Seen (world group0) (word 1 0x17 63 2 0 0x200) 0 8 voteUses (fun y => y.mod = 2 ∧ y.fD = 63) :=
  ⟨seen (by decide +kernel) (by decide +kernel), seen (by decide +kernel) (by decide +kernel),
   seen (by decide +kernel) (by decide +kernel)⟩

theorem witness_FloatResults :
    fpRow [2, 3, 4] 0 true (word 2 0 2 1 3 0).toNat = true
    ∧ Seen (world group0) (word 2 0 2 1 3 0) 0 8 (fun x => (fpShape x true .none true).uses x) (fun y => y.act ≠ 0)
    ∧ Seen (world group0) (word 3 0 62 2 4 0) 0 8 (fun x => (fpShape x true .none true).uses x) (fun y => fpCount y.cls = 2)
    ∧ Seen (world group0) (word 2 0x14 2 1 0 0) 0 8 (fun x => (fpShape x false .none false).uses x) (fun y => y.act ≠ 0) :=
  ⟨by decide, seen (by decide +kernel) (by decide +kernel), seen (by decide +kernel) (by decide +kernel),
   seen (by decide +kernel) (by decide +kernel)⟩

theorem witness_FloatCompareAndConvert :
    Seen (world group0) (word 2 8 1 1 3 0) 0 8 (fun x => (fpSetpShape x).uses x) (fun y => y.act ≠ 0)
    ∧ Seen (world group0) (word 3 8 7 2 4 0) 0 8 (fun x => (fpSetpShape x).uses x) (fun y => y.cls = 3)
    ∧ Seen (world group0) (word 2 9 2 1 0 0) 0 8 (fun x => (cvtShape x).uses x) (fun y => y.act ≠ 0) :=
  ⟨seen (by decide +kernel) (by decide +kernel), seen (by decide +kernel) (by decide +kernel),
   seen (by decide +kernel) (by decide +kernel)⟩

/-! ## Memory instructions -/

/-- A word of format M: opcode, D, A in s registers, size code and SPACE. -/
def mword (op d a sz space : Nat) : DWord := word 6 op d a (1 + 2 * sz + 16 * space) 0

/-- A 16-byte load at the end of a populated local store, and an ld.s. -/
theorem witness_LocalLoads :
    Seen (world { group0 with sregs := [(1, 3145712)] }) (mword 0 4 1 4 0) 0 8 (memUses false false) (fun y =>
      y.mSpace = false ∧ y.acquiring = false ∧ y.act ≠ 0
      ∧ ∀ l, y.act.getLsbD l = true → (y.s.pane 0).lsFault y.mSize (y.lsAddr l) = none
        ∧ (y.s.pane 0).lsBad (y.lsAddr l) y.mSize = false ∧ (y.s.pane 0).drainPending 0 (y.lsAddr l, y.mSize) = false)
    ∧ Seen (world group0) (mword 2 4 1 2 0) 0 8 (memUses true false) (fun y =>
      y.mSpace = false ∧ y.acquiring = false ∧ y.act ≠ 0
      ∧ ∀ l, y.act.getLsbD l = true → (y.s.pane 0).lsFault y.mSize (y.lsAddr l) = none
        ∧ (y.s.pane 0).lsBad (y.lsAddr l) y.mSize = false ∧ (y.s.pane 0).drainPending 0 (y.lsAddr l, y.mSize) = false) :=
  ⟨seen (by decide +kernel) ⟨by decide +kernel, by decide +kernel, by decide +kernel, lanes_spec (by decide +kernel)⟩,
   seen (by decide +kernel) ⟨by decide +kernel, by decide +kernel, by decide +kernel, lanes_spec (by decide +kernel)⟩⟩

theorem witness_LocalStores :
    Seen (world { group0 with sregs := [(1, 3145724)] }) (mword 1 4 1 2 0) 0 8 (memUses false true) (fun y =>
      y.mSpace = false ∧ y.acquiring = false ∧ y.checkHeld = false ∧ y.releasing = false ∧ (y.mOrd ≠ 1 ∨ y.fenceMet 1 = true) ∧ y.act ≠ 0
      ∧ (y.s.pane 0).partSectors ((lanesOf y.act).map y.lsAddr) y.mSize = []
      ∧ ∀ l, y.act.getLsbD l = true → (y.s.pane 0).lsFault y.mSize (y.lsAddr l) = none
        ∧ (y.s.pane 0).readPending 0 (y.lsAddr l, y.mSize) = false) :=
  seen (by decide +kernel) ⟨by decide +kernel, by decide +kernel, by decide +kernel, by decide +kernel, by decide +kernel, by decide +kernel,
    by decide +kernel, lanes_spec (by decide +kernel)⟩

/-- A group whose s1 and s2 hold the virtual address of its pool's last sector. -/
def atPool : Group := { group0 with sregs := [(2, 2097120)] }

theorem witness_MemoryRequests_load :
    Seen (world atPool) (mword 0 4 2 2 1) 0 8 (memUses false false) (fun y => y.mSpace = true ∧ y.acquiring = false ∧ y.act ≠ 0
      ∧ (∀ l ∈ lanesOf y.act, y.s.memFault y.part y.mSize (y.vaddr l) .read = none)
      ∧ (y.targets (lanesOf y.act) .read).filter (y.s.pane 0).misses ≠ [] ∧ y.outstanding < 16
      ∧ ((y.targets (lanesOf y.act) .read).filter (y.s.pane 0).misses).any (y.s.mirrorBusy 0) = false)
    ∧ Seen (world atPool) (mword 2 4 2 2 1) 0 8 (memUses true false) (fun y => y.mSpace = true ∧ y.acquiring = false ∧ y.act ≠ 0
      ∧ (∀ l ∈ [lowLane y.act], y.s.memFault y.part y.mSize (y.vaddr l) .read = none)
      ∧ (y.targets [lowLane y.act] .read).filter (y.s.pane 0).misses ≠ [] ∧ y.outstanding < 16
      ∧ ((y.targets [lowLane y.act] .read).filter (y.s.pane 0).misses).any (y.s.mirrorBusy 0) = false) :=
  ⟨seen (by decide +kernel) (by decide +kernel), seen (by decide +kernel) (by decide +kernel)⟩

/-- A state whose pool's last page is a doorbell page, and a group that names its first word. -/
def atBell : Group := { group0 with sregs := [(2, 2031616)] }
def ringing (s : State) : State := { s with parts := [(1, { part0 with maps := [{ map0 with count := 15 }, { va := 2031616, psz := 65536, count := 1, write := true, view := 0, kind := 1, owner := 1, queue := 3 }] })] }

theorem witness_MemoryRequests_store (bell : Bool) :
    Seen (if bell then ringing (world atBell) else world atPool) (mword 1 4 2 2 1) 0 8 (memUses false true) (fun y =>
      y.mSpace = true ∧ y.acquiring = false ∧ y.checkHeld = false ∧ y.releasing = false ∧ (y.mOrd ≠ 1 ∨ y.fenceMet 3 = true) ∧ y.act ≠ 0
      ∧ (∀ l ∈ lanesOf y.act, y.s.memFault y.part y.mSize (y.vaddr l) .write = none)
      ∧ ∀ q ∈ y.targets (lanesOf y.act) .write, q.t.map.kind = if bell then 1 else 0) := by
  cases bell <;> exact seen (by decide +kernel) (by decide +kernel)

/-- Two lanes run, both on the last word of local store. -/
def twoLanes : Group := { group0 with sregs := [(1, 3145724)], paths := [{ path0 with mask := 3 }] }

theorem witness_LocalAtomics :
    atomicRow (.atomAdd 0 0 (word 6 8 4 1 3 0x100)) ≠ none ∧ isWord 0x6 [8] (word 6 8 4 1 3 0x100).toNat = true
    ∧ Seen (world twoLanes) (word 6 8 4 1 3 0x100) 0 8 atomUses (fun y => y.act ≠ 0 ∧ y.acquiring = false ∧ y.releasing = false
      ∧ (y.aOrd < 2 ∨ y.fenceMet 1 = true)
      ∧ ∀ l, y.act.getLsbD l = true → (y.s.pane 0).lsFault y.aSize (y.aAddr l) = none
        ∧ (y.s.pane 0).readPending 0 (y.aAddr l, y.aSize) = false
        ∧ (y.s.pane 0).drainPending 0 (y.aAddr l, y.aSize) = false ∧ (y.s.pane 0).lsBad (y.aAddr l) y.aSize = false) :=
  ⟨by simp [atomicRow], by decide, seen (by decide +kernel) ⟨by decide +kernel, by decide +kernel, by decide +kernel, by decide +kernel,
    lanes_spec (by decide +kernel)⟩⟩

/-- The second of two lanes that exchange sees what the first left (R83). -/
theorem test_atomics_in_order :
    ((atomics (ctx (world twoLanes) (word 6 8 4 1 3 0x100).toNat 0 8) 8 ((world twoLanes).pane 0) [0, 1]).2.map (·.1)) = [0, 1] := by
  decide +kernel

/-! ## Control, fences and counters -/

/-- p1 holds in lanes 0 to 7. -/
def half : Group := { group0 with preds := [(1, 0xFF)] }

/-- A guarded branch that splits the path, with a reconvergence address; a call; and an indirect jump to the entry. -/
theorem witness_ControlFlow_moves :
    Seen (world half) (BitVec.ofNat 64 (0x1010 + 2 ^ 16 * 4 + 2 ^ 40 * 6)) 0 8 (fun _ => { ok := true }) (fun y =>
      y.relative (sfld y.w 16 24) = some 1048608 ∧ (y.rcvWords ≠ 0 → (y.relative y.rcvWords).isSome = true)
      ∧ (y.rcvWords = 0 → y.act = 0 ∨ y.p.mask &&& ~~~y.act = 0))
    ∧ Seen (world half) (BitVec.ofNat 64 (0x1020 + 2 ^ 16 * 3 + 2 ^ 24 * 511)) 0 8
        (fun x => { ok := fld x.w 48 16 == 0, wv := [(x.fD, 1)] }) (fun y => y.relative (sfld y.w 24 24) = some 1052664 ∧ y.act ≠ 0)
    ∧ Seen (world half) (BitVec.ofNat 64 (0x30 + 2 ^ 16 * 3 + 2 ^ 40 * 6)) 0 8 jmpUses (fun y => y.rcvWords ≠ 0
      ∧ (y.relative y.rcvWords).isSome = true ∧ ∀ l, l < 128 → y.act.getLsbD l = true →
          (y.jmpTarget l - y.l.entry) % 8 = 0 ∧ y.inCode (y.jmpTarget l) 8 = true) :=
  ⟨seen (by decide +kernel) (by decide +kernel), seen (by decide +kernel) (by decide +kernel),
   seen (by decide +kernel) (by decide +kernel)⟩

theorem witness_ControlFlow_exit :
    Seen (world half) (BitVec.ofNat 64 0x1040) 0 8 (fun x => { ok := fld x.w 16 48 == 0 }) (fun y => y.act ≠ 0
      ∧ (∀ q ∈ y.g.paths, q ≠ y.p → q.mask &&& y.p.mask = 0) ∧ y.p.mask.getLsbD 8 = true ∧ y.act.getLsbD 8 = false) :=
  seen (by decide +kernel) (by decide +kernel)

theorem witness_BarriersAndFences_bar :
    Seen (world half) (BitVec.ofNat 64 (0x1050 + 2 ^ 16 * 7)) 0 8 (fun x => { ok := fld x.w 19 45 == 0 }) (fun y =>
      y.act ≠ 0 ∧ y.fenceMet 1 = true) :=
  seen (by decide +kernel) (by decide +kernel)

/-- A full fence at .sys scope, a release at .pane scope and an acquire at .dev scope. -/
theorem witness_BarriersAndFences_fence :
    Seen (world group0) (BitVec.ofNat 64 (7 + 2 ^ 16 * 3)) 0 8 fenceUses (fun y => y.act ≠ 0 ∧ y.fenceMet (fld y.w 16 2) = true)
    ∧ Seen (world group0) (BitVec.ofNat 64 (7 + 2 ^ 16 * 5)) 0 8 fenceUses (fun y => fld y.w 18 2 = 1 ∧ y.act ≠ 0)
    ∧ Seen (world group0) (BitVec.ofNat 64 (7 + 2 ^ 16 * 10)) 0 8 fenceUses (fun y => fld y.w 18 2 = 2 ∧ y.act ≠ 0
        ∧ y.readsMet = true) :=
  ⟨seen (by decide +kernel) (by decide +kernel), seen (by decide +kernel) (by decide +kernel),
   seen (by decide +kernel) (by decide +kernel)⟩

theorem witness_SpecialReads :
    Seen (world group0) (BitVec.ofNat 64 0) 0 8 (fun x => { ok := fld x.w 16 48 == 0 }) (fun _ => True)
    ∧ Seen (world group0) (BitVec.ofNat 64 (0x60 + 2 ^ 16 * 62)) 0 8
        (fun x => { ok := fld x.w 22 42 == 0, ws := [(fld x.w 16 6, 2)] }) (fun y => y.act ≠ 0)
    ∧ Seen (world group0) (word 0 7 63 1 6 0) 0 8 rdsrUses (fun y => y.act ≠ 0 ∧ bit y.w 24 = true)
    ∧ Seen (world group0) (word 0 7 63 0 0 0) 0 8 rdsrUses (fun y => y.act ≠ 0 ∧ bit y.w 24 = false) :=
  ⟨seen (by decide +kernel) trivial, seen (by decide +kernel) (by decide +kernel), seen (by decide +kernel) (by decide +kernel),
   seen (by decide +kernel) (by decide +kernel)⟩

theorem witness_TrapStopsCohort :
    Seen (world half) (BitVec.ofNat 64 (0x1080 + 2 ^ 16 * 11)) 0 8
      (fun x => { ok := decide (1 ≤ fld x.w 16 8 ∧ fld x.w 16 8 ≤ 0x0B) && fld x.w 24 40 == 0 })
      (fun y => y.act ≠ 0 ∧ y.c.pane = 0) :=
  seen (by decide +kernel) (by decide +kernel)

/-- s1 names the last counter word of local store, s2 holds a value. -/
def counting : Group := { group0 with sregs := [(1, 3145720), (2, 0xFFFFFFFF)] }

theorem witness_Counters_writes :
    Seen (world counting) (word 8 2 1 2 0 0) 0 8 ctrUses (fun y => y.act ≠ 0 ∧ (y.s.pane 0).lsFault 8 y.counter.addr = none
      ∧ (y.s.pane 0).lsBad y.counter.addr 8 = false ∧ (y.s.pane 0).drainPending 0 (y.counter.addr, 8) = false
      ∧ (y.s.pane 0).readPending 0 (y.counter.addr, 8) = false ∧ y.acquiring = false ∧ y.checkHeld = false ∧ y.releasing = false)
    ∧ Seen (world counting) (word 8 3 1 2 0 0) 0 8 ctrUses (fun y => y.act ≠ 0 ∧ (y.s.pane 0).lsFault 8 y.counter.addr = none
      ∧ (y.s.pane 0).lsBad y.counter.addr 8 = false ∧ (y.s.pane 0).drainPending 0 (y.counter.addr, 8) = false
      ∧ (y.s.pane 0).readPending 0 (y.counter.addr, 8) = false ∧ y.acquiring = false ∧ y.checkHeld = false ∧ y.releasing = false) :=
  ⟨seen (by decide +kernel) (by decide +kernel), seen (by decide +kernel) (by decide +kernel)⟩

theorem witness_Counters_waits :
    Seen (world counting) (word 8 1 1 2 0 0x700) 0 8 ctrUses (fun y => y.act ≠ 0 ∧ y.counterFault = none ∧ y.acquiring = false
      ∧ y.ownStoreOn = false ∧ (y.cSpace = true ∨ (y.s.pane 0).drainPending 0 (y.counter.addr, 8) = false)
      ∧ (y.s.counterWord y.part y.counter (sashOf 0)).1 = some 0)
    ∧ Seen (world counting) (word 8 0 1 2 0 0) 0 8 ctrUses (fun y => y.act ≠ 0 ∧ y.counterFault = none ∧ y.acquiring = false
      ∧ y.ownStoreOn = false ∧ (y.cSpace = true ∨ (y.s.pane 0).drainPending 0 (y.counter.addr, 8) = false)
      ∧ (y.s.counterWord y.part y.counter (sashOf 0)).1 = some 0)
    ∧ Seen (world atPool) (word 8 0 0x42 3 0 0) 0 8 ctrUses (fun y => y.act ≠ 0 ∧ y.counterFault = none ∧ y.acquiring = false
      ∧ y.ownStoreOn = false ∧ y.cSpace = true ∧ (y.s.counterWord y.part y.counter (sashOf 0)).1 = some 0) :=
  ⟨seen (by decide +kernel) (by decide +kernel), seen (by decide +kernel) (by decide +kernel),
   seen (by decide +kernel) (by decide +kernel)⟩

/-! ## Copies and the matrix unit -/

/-- Two rows of 32 bytes from local store 1,024 to 2,048, and a counter at 4,096. -/
def desc0 : Nat :=
  1024 + 2 ^ 57 + 2 ^ 64 * 2048 + 2 ^ 121 + 2 ^ 128 * 32 + 2 ^ 144 * 2 + 2 ^ 160 * 64 + 2 ^ 192 * 64 + 2 ^ 224 * (4096 + 2 ^ 57 + 2 ^ 64)

/-- Bytes at an offset. -/
def bytesAtOff (off : Nat) (b : List Byte) : SMap Byte := (b.zipIdx).map (fun x => (off + x.2, x.1))

theorem witness_Copies_enter :
    Seen (world { group0 with sregs := [(1, 64)] } { ls := bytesAtOff 64 (bytesOf desc0 64) }) (word 9 0 1 0 0 0) 0 8
      (fun x => { ok := fld x.w 22 42 == 0, s := [(fld x.w 16 6, 1)] }) (fun y => y.act ≠ 0 ∧ y.acquiring = false
        ∧ y.checkHeld = false ∧ y.releasing = false ∧ (y.s.pane 0).drainPending 0 ((y.g.s (fld y.w 16 6)).toNat, 64) = false
        ∧ (y.s.pane 0).copies.length < 64 ∧ y.readDescriptor = .ok desc0) :=
  seen (by decide +kernel) ⟨by decide +kernel, by decide +kernel, by decide +kernel, by decide +kernel, by decide +kernel,
    by decide +kernel, ok_of (by decide +kernel)⟩

def copy0 : Copy := { id := 3, cohort := 0, slot := 0, desc := desc0, stamp := 0 }

theorem witness_Copies_complete :
    ((world group0 { copies := [copy0] }).pane 0).copies.find? (fun c => c.id == 3) = some copy0
    ∧ (world group0 { copies := [copy0] }).cohort? 0 = some cohort0 ∧ (world group0 { copies := [copy0] }).storesBefore 0 copy0 = false
    ∧ (world group0 { copies := [copy0] }).copyHeld 1 copy0 2 = false ∧ (copyParts desc0).length ≤ 2
    ∧ dSrcLs desc0 = true ∧ dDstLs desc0 = true
    ∧ (∀ r i, r < dRows desc0 → i < dRowBytes desc0 → ((world group0 { copies := [copy0] }).pane 0).lsPoisoned ((dSrc desc0
        + r * dSStride desc0 + i) / 32) = false)
    ∧ (∀ r i q j, r < dRows desc0 ∧ i < dRowBytes desc0 → q < dRows desc0 ∧ j < dRowBytes desc0 →
        dDst desc0 + r * dDStride desc0 + i ≠ dSrc desc0 + q * dSStride desc0 + j
        ∧ (dDst desc0 + r * dDStride desc0 + i = dDst desc0 + q * dDStride desc0 + j → r = q ∧ i = j)) := by
  refine ⟨by decide, by decide, by decide, by decide +kernel, by decide +kernel, by decide, by decide, fun _ _ _ _ => rfl, ?_⟩
  rw [show dRows desc0 = 2 by decide, show dRowBytes desc0 = 32 by decide, show dDst desc0 = 2048 by decide,
    show dDStride desc0 = 64 by decide, show dSrc desc0 = 1024 by decide, show dSStride desc0 = 64 by decide]
  omega

/-- An INT8 mma of M = N = 32 and K = 16 that opens group 7 on tile 63; SA, SB and SLD in s1, s2 and s3. -/
def mma0 : DWord :=
  BitVec.ofNat 64 (0xA + 2 ^ 16 * 63 + 2 ^ 22 * 7 + 2 ^ 25 + 2 ^ 28 * 0xB + 2 ^ 32 * 2 + 2 ^ 40 * 32 + 2 ^ 48 * 32)
def mma1 : DWord := BitVec.ofNat 64 (0xF + 2 ^ 4 * 1 + 2 ^ 10 * 2 + 2 ^ 24 * 16 + 2 ^ 36 * 3)
def operands : Group := { group0 with sregs := [(1, 0), (2, 4096), (3, 0x200020)] }

theorem witness_MatrixEnters :
    matrixRow (.mma 0 0 mma0 mma1) ≠ none ∧ isWord 0xA [0] mma0.toNat = true
    ∧ Seen (world operands) mma0 mma1 16 matrixUses (fun y => y.act ≠ 0 ∧ y.acquiring = false ∧ y.recordPending = false
        ∧ y.matrixFault = none ∧ (y.s.pane 0).mq.length < 32) :=
  ⟨by simp [matrixRow], by decide, seen (by decide +kernel) (by decide +kernel)⟩

/-- An entry of the queue with the words of a matrix instruction. -/
def entry (w0 w1 sld : Nat) : MqEntry :=
  { slot := 0, cohort := 0, part := 1, w0, w1, sa := 0, sb := 4096, ss := 0, sld, profile := 1, seed := 0, est0 := 0, tag := 7,
    cindex := 0, gic := 0 }

theorem witness_IntegerProducts :
    let s := world group0 { mq := [entry mma0.toNat mma1.toNat 0x200020] }
    let e := entry mma0.toNat mma1.toNat 0x200020
    s.paneRuns 0 = true ∧ s.queueHeld 0 = false ∧ (s.pane 0).mq = e :: [] ∧ e.mx.op = 0 ∧ e.mx.am = 2 ∧ e.mx.fmt = 0xB
      ∧ e.mx.m ≠ 0 ∧ e.mx.n ≠ 0 ∧ e.mx.k ≠ 0 := by decide +kernel

/-- acc.ld, acc.st with rows 128 bytes apart, and an INT32 acc.drain, of one tile of group 7. -/
def accWord (op fmt : Nat) : Nat := 0xA + 16 * op + 2 ^ 22 * 7 + 2 ^ 28 * fmt + 2 ^ 32 * 2 + 2 ^ 40 * 32 + 2 ^ 48 * 32

theorem witness_TileTransfers_load :
    let s := world group0 { mq := [entry (accWord 1 0 + 2 ^ 25) 0xF 0] }
    s.paneRuns 0 = true ∧ s.queueHeld 0 = false ∧ (entry (accWord 1 0 + 2 ^ 25) 0xF 0).mx.op = 1 := by decide +kernel

theorem witness_TileTransfers_store :
    let e := entry (accWord 2 0) 0xF 128
    let s := world group0 { mq := [e], accGroups := [(7, { acc := 0, m := 32, n := 32, am := 2 })] }
    s.paneRuns 0 = true ∧ s.queueHeld 0 = false ∧ e.moved = 0 ∧ e.mx.op = 2 ∧ (e.mx.ldA = 0 ∨ 128 * e.mx.tilesN ≤ e.mx.ldA)
      ∧ (∀ k, (s.pane 0).lsPoisoned k = false) ∧ (∀ a n, (s.pane 0).accBad a n = false) :=
  ⟨by decide +kernel, by decide +kernel, by decide, by decide, by decide, fun _ => rfl, fun a n => by simp [Device.pane, world, Pane.accBad, SMap.get, SMap.find]⟩

theorem witness_TileTransfers_drain :
    let e := entry (accWord 3 0xB) 0xF 128
    let s := world group0 { mq := [e], accGroups := [(7, { acc := 0, m := 32, n := 32, am := 2 })] }
    s.paneRuns 0 = true ∧ s.queueHeld 0 = false ∧ e.mx.op = 3 ∧ e.mx.am = 2 ∧ e.mx.fmt = 0xB ∧ e.mx.fuse = 0 ∧ 4 * e.mx.n ≤ e.mx.ldA := by
  decide +kernel

/-- Two rows of eight elements, of which a command drains the first. -/
theorem witness_TileTransfers_part :
    let e := entry (0xA + 16 * 3 + 2 ^ 22 * 7 + 2 ^ 28 * 0xB + 2 ^ 32 * 2 + 2 ^ 40 * 2 + 2 ^ 48 * 8) 0xF 32
    let s := world group0 { mq := [e], accGroups := [(7, { acc := 0, m := 2, n := 8, am := 2 })] }
    s.paneRuns 0 = true ∧ s.queueHeld 0 = false ∧ e.mx.op = 3 ∧ e.moved + 1 < (outSectors ((s.pane 0).drainOut e e.mx)).length := by
  decide +kernel

/-! ## Remote operations -/

/-- An operation of pane 0 that the verdict of step 9 still holds. -/
def held0 : RemOp :=
  { tid := 3, part := 1, pane := 0, slot := 0, cohort := 0, kind := 0, faddr := 2 ^ 52 * 5, lane := 0, block := true, acquire := false, lsOff := 0, len := 32,
    lctr := none, deadline := 5000, first := 3, held := [9] }

/-- s1:s2 name the last word of pane 0's local store on chip 5; a lane-form word with A = v2. -/
def remoteHome : Nat := 2 ^ 52 * 5 + 2 ^ 48 + 3145724
def reaching : Group :=
  { group0 with paths := [{ path0 with mask := 1 }],
                vregs := [(2, BitVec.ofNat 32 remoteHome), (3, BitVec.ofNat 32 (remoteHome / 2 ^ 32))],
                sregs := [(2, BitVec.ofNat 32 (2 ^ 48 + 64)), (3, BitVec.ofNat 32 ((2 ^ 52 * 5 + 2 ^ 48) / 2 ^ 32)), (4, 0), (5, 32)] }

/-- A lane-form put, a lane-form amo.add and a block-form put of 32 bytes; and a put behind an operation that a verdict holds. -/
theorem witness_RemoteOperationsLeave :
    remoteRow (.put 0 0 (word 0xB 0 0 2 1 0x200) (BitVec.ofNat 64 0xF)) ≠ none
    ∧ Seen (world reaching) (word 0xB 0 0 2 1 0x200) (BitVec.ofNat 64 0xF) 16 remoteUses (fun y => y.act ≠ 0 ∧ y.remoteBad = 0
        ∧ y.remoteHeld = false ∧ (∀ l ∈ lanesOf y.act, y.s.routed (faChip (y.faddr l)) = true)
        ∧ y.s.fabric.ops.length + 128 ≤ 2 ^ 20)
    ∧ Seen (world reaching) (word 0xB 8 4 2 1 0x200) (BitVec.ofNat 64 0xF) 16 remoteUses (fun y => y.act ≠ 0 ∧ y.remoteBad = 0
        ∧ y.remoteHeld = false ∧ (∀ l ∈ lanesOf y.act, y.s.routed (faChip (y.faddr l)) = true))
    ∧ Seen (world reaching) (word 0xB 0 0 2 4 0x2000) (BitVec.ofNat 64 (0xF + 16 * 5)) 16 remoteUses (fun y => y.act ≠ 0
        ∧ y.rBlk = true ∧ y.remoteBad = 0 ∧ y.remoteHeld = false ∧ y.s.routed (faChip (y.faddr 0)) = true)
    ∧ (let s : State := { world reaching with fabric := { chip := 5, ops := [(3, held0)], nextOp := 1 } }
       Seen s (word 0xB 0 0 2 1 0x200) (BitVec.ofNat 64 0xF) 16 remoteUses (fun y => y.act ≠ 0 ∧ y.remoteBad = 0 ∧ y.remoteHeld = false)
       ∧ (s.unsent 0).head? = some held0 ∧ held0.held ≠ [] ∧ ∀ o ∈ s.unsent 0, o.order < s.fabric.nextOp) :=
  ⟨by simp [remoteRow], seen (by decide +kernel) (by decide +kernel), seen (by decide +kernel) (by decide +kernel),
   seen (by decide +kernel) (by decide +kernel), seen (by decide +kernel) (by decide +kernel), by decide +kernel, by decide, by decide +kernel⟩

/-- A packet of partition 1's job to this chip. -/
def packet (type : Nat) (p : Packet) : Packet := { p with type, dst := 5, src := 5, job := 9 }

/-- A state to which packets have come. -/
def brought (s : State) (ps : List Packet) : State := { s with fabric := { s.fabric with arrived := ps } }

theorem arrives_of {s : Device} {type : Nat} {p : Packet} (h : (decide (p ∈ s.fabric.arrived) && p.type == type && s.accepts p
    && !s.overtakes p && !s.stackHolds p && !s.held? p
    && (decide (5 < type) || p.space != 1 || decide (320 ≤ p.taddr / 2 ^ 24) || !s.edgeHeld (p.taddr / 2 ^ 24))) = true) :
    Arrives s type p := by
  simp at h
  exact ⟨h.1.1.1.1.1.1, h.1.1.1.1.1.2, h.1.1.1.1.2, h.1.1.1.2, h.1.1.2, h.1.2, by
    intro a b c; rcases h.2 with ((h | h) | h) | h <;> omega⟩

/-- A put of 16 bytes to the end of pane 0's local store, and of a whole sector to the end of the pool. -/
theorem witness_PutsAndGets_put :
    let p := packet 1 { type := 1, dlen := 1, sz := 4, arg := 1, space := 1, taddr := 3145712, data := List.replicate 32 7 }
    let q := packet 1 { type := 1, dlen := 1, arg := 1, space := 0, taddr := 2097120, data := List.replicate 32 7 }
    let s := brought (world group0) [p, q]
    (Arrives s.toDevice 1 p ∧ s.jobPart? p.job = some 1 ∧ p.poison = [] ∧ p.rce = false ∧ p.progress = (0, stOk) ∧ p.waits = []
      ∧ 0 < (dataOfPacket p).length
      ∧ s.reach 1 p.src p.space p.taddr (dataOfPacket p).length .write = .ok (.ls 0 3145712)
      ∧ (s.pane 0).lsBad 3145712 (dataOfPacket p).length = false)
    ∧ Arrives s.toDevice 1 q ∧ s.reach 1 q.src q.space q.taddr (dataOfPacket q).length .write =
        .ok (.mem { owner := 1, pool := 0, off := 1048544, map := map0 })
      ∧ map0.kind = 0 ∧ 1048544 + 32 ≤ 2 ^ 43 ∧ Memory.wf s.mem = true ∧ s.copies 1 0 = [0]
      ∧ (∀ i c, i < 32 → s.poisonAt 1 0 c (1048544 + i) = false ∧ s.mem.agrees (sectorKey 1 0 c (1048544 + i))) :=
  ⟨⟨arrives_of (by decide +kernel), by decide, by decide, by decide, by decide, by decide, by decide +kernel, ok_of (by decide +kernel),
    by decide +kernel⟩,
   arrives_of (by decide +kernel), ok_of (by decide +kernel), by decide, by decide, by decide, by decide, fun _ _ _ => ⟨rfl, fun _ h _ => by cases h⟩⟩

/-- The same write to a mirrored pool, whose home copy lies on either sash. -/
theorem witness_PutsAndGets_mirrored :
    let q := packet 1 { type := 1, dlen := 1, arg := 1, space := 0, taddr := 2097120, data := List.replicate 32 7 }
    let s : State := { brought (world group0) [q] with parts := [(1, { part0 with pools := [(0, { pool0 with set := 3, mirror := true })] })] }
    Arrives s.toDevice 1 q ∧ s.reach 1 q.src q.space q.taddr (dataOfPacket q).length .write =
        .ok (.mem { owner := 1, pool := 0, off := 1048544, map := map0 })
      ∧ s.copies 1 0 = [0, 1] ∧ ∀ f ∈ s.mem.forwards, f.id < s.mem.nextReq :=
  ⟨arrives_of (by decide +kernel), ok_of (by decide +kernel), by decide, fun f h => by cases h⟩

theorem witness_PutsAndGets_get :
    let p := packet 2 { type := 2, dlen := 1, sz := 2, arg := 1, space := 1, taddr := 3145724 }
    let q := packet 2 { type := 2, dlen := 1, arg := 1, space := 0, taddr := 1048576 }
    let s := brought (world group0) [p, q]
    (Arrives s.toDevice 2 p ∧ s.jobPart? p.job = some 1 ∧ p.rce = false
      ∧ s.reach 1 p.src p.space p.taddr (getLength p) .read = .ok (.ls 0 3145724) ∧ (s.pane 0).lsBad 3145724 (getLength p) = false)
    ∧ Arrives s.toDevice 2 q ∧ s.reach 1 q.src q.space q.taddr (getLength q) .read =
        .ok (.mem { owner := 1, pool := 0, off := 0, map := map0 })
      ∧ (∀ i c, i < getLength q → s.poisonAt 1 0 c (0 + i) = false)
      ∧ (∀ i c, i < getLength q → c ∈ s.copies 1 0 → s.byteAt 1 0 c (0 + i) = 0) :=
  ⟨⟨arrives_of (by decide +kernel), by decide, by decide, ok_of (by decide +kernel), by decide +kernel⟩,
   arrives_of (by decide +kernel), ok_of (by decide +kernel), fun _ _ _ => rfl, fun _ _ _ _ => rfl⟩

theorem witness_RemoteAtomics :
    let p := packet 3 { type := 3, dlen := 1, sz := 3, aop := 8, space := 1, taddr := 3145720, data := List.replicate 32 1 }
    let r := packet 3 { type := 3, dlen := 1, sz := 2, aop := 0, space := 0, taddr := 2097148, data := List.replicate 32 1 }
    let q := packet 5 { type := 5, sz := 3, arg := 0xFFFFFFFF, space := 1, taddr := 3145720 }
    let s := brought (world group0) [p, r, q]
    (Arrives s.toDevice 3 p ∧ s.jobPart? p.job = some 1 ∧ p.rce = false ∧ s.reach 1 p.src p.space p.taddr 8 .write = .ok (.ls 0 3145720)
      ∧ (s.pane 0).lsBad 3145720 8 = false)
    ∧ (Arrives s.toDevice 3 r ∧ s.reach 1 r.src r.space r.taddr 4 .write = .ok (.mem { owner := 1, pool := 0, off := 1048572, map := map0 })
      ∧ map0.kind = 0 ∧ s.copies 1 0 = [0] ∧ s.poisonAt 1 0 0 1048572 = false)
    ∧ Arrives s.toDevice 5 q ∧ s.reach 1 q.src q.space q.taddr 8 .write = .ok (.ls 0 3145720)
      ∧ (s.pane 0).populated 3145720 8 = true :=
  ⟨⟨arrives_of (by decide +kernel), by decide, by decide, ok_of (by decide +kernel), by decide +kernel⟩,
   ⟨arrives_of (by decide +kernel), ok_of (by decide +kernel), by decide, by decide, rfl⟩,
   arrives_of (by decide +kernel), ok_of (by decide +kernel), by decide⟩

/-- A state whose range at the start of the pool stands at NEXT, with a staging region of `mib` MiB, and pieces that have come. -/
def ordered (next mib : Nat) (held : List Piece) (stall : SMap Nat) (now : Nat := 0) (ps : List Packet := []) : State :=
  { brought (world group0 {} now) ps with mem := { order := [(rangeKey 1 0 0, next)], held, stall }, od := [(odKey 0 0x3030 0 0, mib)] }

/-- A piece of one segment of eight BF16 elements at the start of the pool. -/
def piece (seq : Nat) : Packet :=
  packet 4 { type := 4, dlen := 1, status := 64, elt := 1, arg := seq, taddr := 1048576, rctr := 2 ^ 48, data := List.replicate 32 0 }

/-- A piece in its turn at the wrap of SEQ, one ahead of it, one that finds no room, and one behind it. -/
theorem witness_OrderedAccumulates :
    let s := ordered 0xFFFFFFFF 64 [] [] 0 [piece 0xFFFFFFFF]
    let q : Target := { owner := 1, pool := 0, off := 0, map := map0 }
    Arrives s.toDevice 4 (piece 0xFFFFFFFF) ∧ s.jobPart? 9 = some 1 ∧ s.pieceSegments (piece 0xFFFFFFFF) = []
      ∧ s.reach 1 5 0 1048576 64 .accumulate = .ok (.mem q) ∧ (s.part 1).shardAt 1 0 0 = none ∧ s.copies 1 0 = [0]
      ∧ (∀ i, i < 64 → s.poisonAt 1 0 0 (0 + i) = false ∧ s.mem.agrees (sectorKey 1 0 0 (0 + i))) ∧ Memory.wf s.mem = true
      ∧ (0xFFFFFFFF + 2 ^ 32 - s.nextOf (rangeKey 1 0 0)) % 2 ^ 32 = 0 ∧ (0 + 2 ^ 32 - s.nextOf (rangeKey 1 0 0)) % 2 ^ 32 = 1
      ∧ s.stagedBytes (s.place 1 0 0 0).stack + 32 ≤ s.odGet 0 0x3030 0 * 1048576
      ∧ (ordered 0 0 [] []).odGet 0 0x3030 0 * 1048576 < (ordered 0 0 [] []).stagedBytes ((ordered 0 0 [] []).place 1 0 0 0).stack + 32
      ∧ 2 ^ 31 ≤ (0x7FFFFFFF + 2 ^ 32 - s.nextOf (rangeKey 1 0 0)) % 2 ^ 32 :=
  ⟨arrives_of (by decide +kernel), by decide, by decide, ok_of (by decide +kernel), by decide, by decide,
   fun _ _ => ⟨rfl, fun _ h _ => by cases h⟩, by decide, by decide, by decide, by decide +kernel, by decide +kernel, by decide⟩

/-- A gradient plane whose range holds a piece under SEQ 9: a second one is refused. -/
theorem witness_OrderedAccumulates_twin :
    let d := 1048576 + 2 ^ 64 * 1
    let p := { piece 9 with taddr := 1048576 + 8 * shardN d }
    let q : Target := { owner := 1, pool := 0, off := 8 * shardN d, map := map0 }
    let h : Piece := { part := 1, pool := 0, range := rangeKey 1 0 (8 * shardN d), seq := 9, off := 8 * shardN d, elt := 1, data := [], bad := [], rctr := 0, src := 5 }
    let s : State := { ordered 0 64 [h] [] 0 [p] with parts := [(1, { part0 with shards := [(1048576, { desc := d, sill := 0 })] })] }
    Arrives s.toDevice 4 p ∧ s.reach 1 5 0 p.taddr 64 .accumulate = .ok (.mem q) ∧ ((s.part 1).shardAt 1 0 q.off).isSome = true
      ∧ (s.heldIn (rangeKey 1 0 q.off)).any (fun h => h.seq == p.arg) = true :=
  ⟨arrives_of (by decide +kernel), ok_of (by decide +kernel), by decide +kernel, by decide +kernel⟩

theorem witness_OrderedAccumulates_stall :
    let s := ordered 0 64 [] [(rangeKey 1 0 0, 0)] 60000000000
    SMap.find s.mem.stall (rangeKey 1 0 (0 * 32768)) = some 0 ∧ 0 + 1000 * s.odGet 1 0x6112 0 ≤ s.now := by decide +kernel

/-- A piece held for a range: the timers of R226 with and without it. -/
def heldPiece : Piece :=
  { part := 1, pool := 0, range := rangeKey 1 0 0, seq := 9, off := 0, elt := 1, data := [], bad := [], rctr := 0, src := 5 }

theorem witness_StalledRanges :
    (ordered 0 64 [] []).heldIn (rangeKey 1 0 0) = [] ∧ (ordered 0 64 [heldPiece] []).heldIn (rangeKey 1 0 0) ≠ []
    ∧ (1 + 2 ^ 32 - (ordered 0 64 [] []).nextOf (rangeKey 1 0 0)) % 2 ^ 32 = 1
    ∧ (0 + 2 ^ 32 - (ordered 0 64 [heldPiece] []).nextOf (rangeKey 1 0 0)) % 2 ^ 32 = 0
    ∧ (∀ h ∈ (ordered 0 64 [heldPiece] []).mem.held, h.range = rangeKey 1 0 0 → h.seq ≠ 1)
    ∧ Arrives (ordered 0 64 [heldPiece] [] 0 [piece 0]).toDevice 4 (piece 0) ∧ Arrives (ordered 0 64 [] [] 0 [piece 1]).toDevice 4 (piece 1)
    ∧ (ordered 0 64 [heldPiece] [(rangeKey 1 0 0, 0)] 0).now < 0 + 1000 * (ordered 0 64 [heldPiece] [(rangeKey 1 0 0, 0)] 0).odGet 1 0x6112 0 :=
  ⟨by decide, by decide, by decide, by decide, by decide, arrives_of (by decide +kernel), arrives_of (by decide +kernel),
   by decide +kernel⟩


/-! ## Replies and their upkeep -/

/-- A block get of 64 bytes of pane 0 into local store at 1,024 with its counter at the end of local store, and operations like it. -/
def op0 : RemOp :=
  { tid := 7, part := 1, pane := 0, slot := 0, cohort := 0, kind := 2, faddr := 2 ^ 52 * 5 + 1048576, lane := 0, block := true,
    acquire := false, lsOff := 1024, len := 64, lctr := some 3145720, deadline := 5000, first := 7, todo := [1048576], sent := true }

/-- A state whose partition has the operations of a list, and to which packets have come. -/
def asking (os : List (Nat × RemOp)) (g : Group := group0) (now : Nat := 0) (ps : List Packet := []) : State :=
  { world g {} now with fabric := { chip := 5, ops := os, arrived := ps } }

def reply (type : Nat) (st : Nat := 0) (data : List Byte := []) : Packet :=
  packet type { type, tid := 7, vc := 1, taddr := 1048576, status := st, data }

theorem witness_RepliesComplete_ack :
    let o := { op0 with todo := [1048576, 1048608] }
    (Arrives (asking [(7, o)] group0 0 [reply 8]).toDevice 8 (reply 8) ∧ (asking [(7, o)]).op? 7 = some o ∧ o.tid = 7 ∧ o.held = []
      ∧ 1048576 ∈ o.todo ∧ ((asking [(7, o)]).paneOps 0).all (·.later.isEmpty) = true ∧ o.todo.erase 1048576 ≠ [])
    ∧ Arrives (asking [(7, op0)] group0 0 [reply 8 255]).toDevice 8 (reply 8 255) ∧ op0.acquire = false ∧ (asking [(7, op0)]).op? 7 = some op0 ∧ op0.todo.erase 1048576 = []
      ∧ ((asking [(7, op0)]).pane 0).populated 3145720 8 = true ∧ ((asking [(7, op0)]).pane 0).lsBad 3145720 8 = false
      ∧ (∀ g, (asking [(7, op0)]).group? 0 0 = some g → ∀ l ∈ g.loads, l.waiting.contains 7 = false) :=
  ⟨⟨arrives_of (by decide +kernel), by decide, rfl, rfl, by decide, by decide +kernel, by decide⟩, arrives_of (by decide +kernel), rfl,
   by decide, by decide, by decide, by decide +kernel, by intro g h l hl; cases h; cases hl⟩

theorem witness_RepliesComplete_data :
    let o := { op0 with lctr := none }
    let p := reply 9 0 (List.replicate 32 5)
    let s := asking [(7, o)] group0 0 [p]
    Arrives s.toDevice 9 p ∧ s.op? 7 = some o ∧ o.tid = p.tid ∧ (s.paneOps o.pane).all (·.later.isEmpty) = true ∧ o.held = [] ∧ p.taddr ∈ o.todo ∧ o.block = true ∧ p.status = stOk ∧ o.lctr = none
      ∧ o.stats = false ∧ (s.pane o.pane).lsBad (o.lsOff + (p.taddr - fld o.faddr 0 48)) p.data.length = false :=
  ⟨arrives_of (by decide +kernel), by decide, rfl, by decide +kernel, rfl, by decide, rfl, by decide, rfl, rfl, by decide +kernel⟩

/-- A load of lane 15 into v254 and v255, the last pair. -/
def load0 : Load := { id := 0, scalar := false, dst := 254, size := 8, remote := true, pc := 0, lanes := 0x8000, waiting := [7] }
def loading : Group := { group0 with loads := [load0] }

theorem witness_RepliesComplete_lane (amo : Bool) :
    let o := { op0 with block := false, kind := if amo then 0x0F else 1, len := 8, lane := 15, lctr := none, cmp := 3 }
    let p := reply (if amo then 0xA else 9) 0 (bytesOf 3 8)
    let s := asking [(7, o)] loading 0 [p]
    Arrives s.toDevice (if amo then 0xA else 9) p ∧ s.op? 7 = some o ∧ (s.paneOps o.pane).all (·.later.isEmpty) = true ∧ o.held = [] ∧ o.todo = [p.taddr] ∧ o.block = false ∧ o.status = stOk
      ∧ s.group? 0 0 = some loading ∧ loading.loads = [load0] ∧ load0.waiting = [7] ∧ load0.dst < 256 ∧ loading.paths ≠ []
      ∧ (amo = true → o.kind < 0x0F ∨ ofBytes (p.data.take o.len) = o.cmp) ∧ o.lane < 128 := by
  cases amo <;> exact ⟨arrives_of (by decide +kernel), by decide, by decide +kernel, rfl, by decide, rfl, rfl, by decide, rfl, rfl, by decide, by decide, by decide,
    by decide⟩

theorem witness_RepliesComplete_defer :
    Arrives (asking [(7, op0)] group0 9 [reply 0xB]).toDevice 0xB (reply 0xB) ∧ (asking [(7, op0)] group0 9).op? 7 = some op0 ∧ op0.held = []
      ∧ (reply 0xB).taddr ∈ op0.todo :=
  ⟨arrives_of (by decide +kernel), by decide, rfl, by decide⟩

theorem witness_RemoteUpkeep :
    let o := { op0 with deferred := [(1048576, 4000)], resend := [(1048576, [packet 4 { type := 4 }])] }
    ((asking [(7, op0)] group0 5000).op? 7 = some op0 ∧ op0.deadline ≤ (asking [(7, op0)] group0 5000).now ∧ op0.sent = true
      ∧ ((asking [(7, op0)]).paneOps 0).all (·.later.isEmpty) = true ∧ op0.todo ≠ [])
    ∧ (asking [(7, o)] group0 5000).op? 7 = some o ∧ SMap.find o.deferred 1048576 = some 4000
      ∧ 4000 + 1000 ≤ (asking [(7, o)] group0 5000).now
    ∧ ({ asking [] with fabric := { chip := 5, waiting := [(0, packet 1 { type := 1, dst := 6 })], doors := [(23, { state := .up3 })] } } :
        State).doorUp 23 = true := by decide +kernel

/-- A partial increment of three for the counter at the end of pane 319's local store, and its entry. -/
def share : Partial := { src := 5, tid := 7, job := 9, nseg := 3, rctr := 2 ^ 48 + 2 ^ 24 * 319 + 3145720, status := 0 }
def entry0 : PendCount := { part := 1, src := 5, tid := 7, rctr := 2 ^ 48 + 2 ^ 24 * 319 + 3145720, nseg := 3, seen := 2, status := 7, last := 0 }
def pendingCounts (ps : List PendCount) (now : Nat) : State :=
  { world group0 {} now with panes := [(319, { part := some 1, pend := ps })],
                             parts := [(1, { part0 with desc := 9 * 65536 + 2 ^ 192 * 2 ^ 255 * 2 ^ 64 })] }

theorem witness_RemoteUpkeep_partial :
    (pendingCounts [] 0).jobPart? 9 = some 1 ∧ fld share.rctr 48 4 = 1 ∧ fld share.rctr 24 24 = 319
    ∧ ((pendingCounts [] 0).pane 319).pend.find? (·.isFor 1 share) = none
    ∧ ((pendingCounts [entry0] 0).pane 319).pend.find? (·.isFor 1 share) = some entry0 ∧ share.nseg ≤ entry0.seen + 1
    ∧ ((pendingCounts [entry0] 0).part 1).fence = .none ∧ ((pendingCounts [entry0] 0).part 1).hasPane 319 = true ∧ (pendingCounts [entry0] 0).paneState 319 ≠ .vacant
    ∧ ((pendingCounts [entry0] 0).pane 319).populated 3145720 8 = true ∧ ((pendingCounts [entry0] 0).pane 319).lsBad 3145720 8 = false
    ∧ entry0.last + 1000 * (pendingCounts [entry0] 60000000000).odGet 1 0x6112 0 ≤ (pendingCounts [entry0] 60000000000).now := by
  decide +kernel

theorem witness_LateReplies :
    let s : State := { world group0 with fabric := { chip := 5, expired := [(7, op0)], arrived := [reply 8, reply 9, reply 0xA, reply 0xB] } }
    s.op? 7 = none ∧ SMap.find s.fabric.expired 7 = some op0 ∧ op0.faddr < 2 ^ 64 ∧ op0.kind < 256 ∧ Arrives s.toDevice 8 (reply 8)
      ∧ Arrives s.toDevice 9 (reply 9) ∧ Arrives s.toDevice 0xA (reply 0xA) ∧ Arrives s.toDevice 0xB (reply 0xB) :=
  ⟨by decide, by decide, by decide, by decide, arrives_of (by decide +kernel), arrives_of (by decide +kernel),
   arrives_of (by decide +kernel), arrives_of (by decide +kernel)⟩

/-! ## Sills, requests and stacks -/

/-- A load of the first sector of the pool for lane 0 into v254 and v255, and a store to the last byte of the last sector. -/
def loadReq : MemReq :=
  { id := 3, pane := 0, slot := 0, load := some 9, part := 1, owner := 1, pool := 0, off := 0, view := 0, gen := 0, lanes := [(0, 24, 8)] }
def storeReq : MemReq :=
  { id := 3, pane := 0, slot := 0, load := none, part := 1, owner := 1, pool := 0, off := 1048544, view := 0, gen := 0, writes := [(31, 7)] }

/-- A state with one memory request. -/
def asked (r : MemReq) (g : Group := group0) : State := { world g with mem := { reqs := [r] } }

theorem witness_SillsServe :
    codeClean {} ∧ codeCorrected { symbols := [(35, 1)] } ∧ ((asked loadReq).mem.reqs.find? (fun r => r.id == 3) = some loadReq ∧ (asked loadReq).reqBehind loadReq = false
      ∧ ((asked loadReq).pool? 1 0).isSome = true ∧ (∀ ch, (asked loadReq).channelHeld ch = false) ∧ loadReq.load.isSome = true
      ∧ ∀ c o, (asked loadReq).poisonAt 1 0 c o = false)
    ∧ (asked storeReq).mem.reqs.find? (fun r => r.id == 3) = some storeReq ∧ (asked storeReq).reqBehind storeReq = false
      ∧ (∀ ch, (asked storeReq).channelHeld ch = false) ∧ (∀ c o, (asked storeReq).poisonAt 1 0 c o = false)
      ∧ (storeReq.writes.map Prod.fst).Nodup ∧ storeReq.off + 32 ≤ 2 ^ 43 ∧ (∀ w ∈ storeReq.writes, w.1 < 32) :=
  ⟨⟨rfl, by decide⟩, ⟨rfl, by decide⟩, ⟨by decide, by decide, by decide, fun _ => rfl, by decide, fun _ _ => rfl⟩, by decide, by decide, fun _ => rfl, fun _ _ => rfl, by decide,
   by decide, by decide⟩

def sillLoad : Load := { id := 9, scalar := false, dst := 254, size := 8, pc := 0, lanes := 1, waiting := [3] }

theorem witness_RequestsReturn :
    (let f : Forward := { id := 3, part := 1, owner := 1, pool := 0, off := 1048544, writes := some [(31, 7)], view := 0 }
     let s := fun after => ({ world group0 with mem := { forwards := [f], after } } : State)
     let reply := .answer 1 (reply 8) 8 stOk [] false false
     (s []).mem.forwards.find? (fun f => f.id == 3) = some f
      ∧ ((s []).mem.forwards.takeWhile (fun g => g != f)).any (fun g => g.isOf 1 0 f.off) = false
      ∧ (∀ ch, (s []).channelHeld ch = false) ∧ (∀ c o, (s []).poisonAt 1 0 c o = false) ∧ (s []).mem.after = []
      ∧ (s [([3], reply)]).mem.after = [([3], reply)] ∧ ∀ g ∈ (s []).mem.forwards.erase f, g.id ≠ 3)
    ∧ (∀ bad : Bool, (let r := { storeReq with served := true, status := if bad then stPoison else stOk }
       let g := { group0 with stores := [3] }
       (asked r g).mem.reqs.find? (fun r => r.id == 3) = some r ∧ r.load = none ∧ (asked r g).forwarding 3 = false
         ∧ (asked r g).group? 0 0 = some g ∧ 3 ∈ g.stores ∧ (asked r g).cohort? g.cohort = some cohort0 ∧ cohort0.fault = none))
    ∧ ∀ stale : Bool, (let r := { loadReq with served := true, stale, result := some (List.replicate 32 1) }
       let g := { group0 with loads := [sillLoad] }
       (asked r g).mem.reqs.find? (fun r => r.id == 3) = some r ∧ r.result = some (List.replicate 32 1) ∧ (asked r g).group? 0 0 = some g
        ∧ g.loads.find? (fun k => k.id == sillLoad.id) = some sillLoad ∧ r.lanes = [(0, 24, sillLoad.size)] ∧ sillLoad.dst < 256
        ∧ g.paths ≠ [] ∧ ((asked r g).pane 0).clears = r.gen ∧ (asked { r with gen := 1 } g).mem.reqs = [{ r with gen := 1 }]) := by
  refine ⟨⟨by decide, by decide, fun _ => rfl, fun _ _ => rfl, rfl, rfl, by decide⟩, fun bad => by cases bad <;> decide +kernel, ?_⟩
  intro stale
  cases stale <;> decide +kernel

/-- The pane's split leaves it a cache in the clause that fills it. -/
theorem witness_RequestsReturn_cache : ((world group0 { split := 11 }).pane 0).split < 12 := by decide

/-- The last row of a pool's slab, and a stack in each state that a clause asks for. -/
theorem witness_StackCare_scrub :
    let s := (world group0).toDevice
    (∃ off, (s.stack 0).holds 0 63 31 = some { stack := 0, pc := 63, row := 31 } ∧ s.ownerOf { stack := 0, pc := 63, row := 31 } = some (1, 0, 0, off)
        ∧ s.fresh 1 0 0 (off + 32 * 15) = true)
      ∧ codeDetected { address := true } ∧ codeDetected { symbols := [(0, 1), (31, 2), (35, 3)] }
      ∧ s.pool? 1 0 = some pool0 ∧ (∀ ch, s.channelHeld ch = false) ∧ (∀ k, fld (s.odGet 0 0x3020 0 k) 0 64 < 2 ^ 64 - 1) ∧ pool0.mirror = false
      ∧ pool0.shared = false ∧ (∀ k n, ¬((s.stack k).unrep.contains n = true) ∧ (s.stack k).retrain = none ∧ (s.stack k).suspect = none) := by
  have od : ∀ k, (world group0).odGet 0 0x3020 0 k = (world group0).odGet 0 0x3020 0 0 := fun _ => rfl
  exact ⟨⟨_, by decide, rfl, rfl⟩, Or.inl rfl, Or.inr (by decide), by decide, fun _ => rfl, fun k => by rw [od]; decide +kernel, rfl, rfl,
    fun _ _ => ⟨Bool.false_ne_true, rfl, rfl⟩⟩

theorem witness_StackCare_windows :
    let hot : State := { world group0 with stackAt := [(19, { level := 2 })] }
    let unbalanced : State := { world group0 with stackAt := [(19, { imbRun := 2 ^ 32 })], mem := { traffic := [((64 * 19 + 63) * 32 + 1, 900)] } }
    (hot.stack 19).level < 3 ∧ 3 ≤ (stackThresholds.filter (fun x => decide (x ≤ 255))).length
      ∧ (hot.stack 19).level ≤ (stackThresholds.filter (fun x => decide (x ≤ 255))).length
      ∧ unbalanced.odGet 0 0x3040 3 * 10000000 ≤ 100 * 10000000
      ∧ unbalanced.odGet 0 0x3040 1 * 900 ≤ 64 * total ((List.range 32).map (unbalanced.accesses 19 63))
      ∧ unbalanced.windowIs 19 63 1 64 = true
      ∧ (unbalanced.stack 19).imbOn = false ∧ unbalanced.odGet 0 0x3040 2 ≤ (unbalanced.stack 19).imbRun + 1
      ∧ ((world group0).stack 19).imbRun + 1 < (world group0).odGet 0 0x3040 2 := by decide +kernel

theorem witness_StackCare_channels :
    let s := fun (k : Stack) => ({ world group0 with stackAt := [(19, k)] } : State)
    ((s { retrain := some 31, suspect := some 63 }).stack 19).retrain = some 31
      ∧ ((s { retrain := some 31, suspect := some 63 }).stack 19).suspect = some 63
      ∧ ((s { suspect := some 63 }).stack 19).suspect = some 63 ∧ ((s { suspect := some 63 }).stack 19).retrain = none
      ∧ ((s { suspect := some 63 }).stack 19).spent = none ∧ ((s { suspect := some 63 }).stack 19).moving = none
      ∧ ((s { suspect := some 63, spent := some 0 }).stack 19).spent = some 0
      ∧ ((s { moving := some (63, 0) }).stack 19).moving = some (63, 0)
      ∧ ((s { moving := some (63, 0) }).unit 2 (19 * 64 + 63)).state ≠ .retired := by decide +kernel

/-- A sector of the pool that is uncorrectable as its row moves to the reserve. -/
theorem witness_StackCare_migration :
    (∃ off, (world group0).ownerOf { stack := 0, pc := 63, row := (31 * 16 + 15) / 16 } = some (1, 0, 0, off)) ∧ (31 * 16 + 15) / 16 < reserveRow
      ∧ ∀ e ∈ [(31 * 16 + 15, ({ address := true } : CodeError))], codeClean e.2 ∨ codeCorrected e.2 ∨ codeDetected e.2 :=
  ⟨⟨_, rfl⟩, by decide, fun e h => by simp at h; subst h; exact Or.inr (Or.inr (Or.inl rfl))⟩

/-- A read of a sector whose symbols are wrong in one place, in two and at another address (R160). -/
theorem test_code_verdicts :
    ((world group0).verdict { symbols := [(3, 1)] }).2.1 = .correctable ∧ ((world group0).verdict { symbols := [(3, 1), (35, 9)] }).2.1 = .uncorrectable
      ∧ ((world group0).verdict { address := true }).2.1 = .uncorrectable := by decide

theorem witness_MonitorsAndViews :
    let s : State := { world group0 {} 100000 with power := { rateSince := some 1 } }
    s.odGet 0 0x2041 0 ≤ 2 ^ 32 - 1 ∧ 1 < s.odGet 0 0x2041 0 ∧ s.power.rateLow = false
      ∧ 10 ≤ s.now / 10000 - s.power.rateSince.getD (s.now / 10000) + 1 ∧ s.view 340 ≤ s.now ∧ s.view 0 ≤ s.now := by
  decide +kernel

/-! ## Transom -/

/-- A session of a partition over the host port whose next SEQ is 0, at the wrap, and a message of it. -/
def sess (part : Nat) : Session := { part, iface := .host, opened := true, lastSeq := 0xFFFFFFFF }
def msg (index sub : Nat) (value : List Byte) : TMsg := { iface := .host, session := 1, seq := 0, index, sub, value }

/-- A module that is Ready, its host port up, with session 1 of a partition. -/
def ready (part : Nat) (d : State := world group0) : State :=
  { d with boot := { state := 1, stage := 9 }, host := { link := 2 }, transom := { sessions := [(1, sess part)] } }

theorem accepted_of {s : Device} {type : Nat} {m : TMsg} {x : Session} (h : s.session? m.session = some x ∧ s.carries m.iface = true
    ∧ headerOk type m x = true ∧ m.rsv = 0 ∧ x.busy = none ∧ m.seq = (x.lastSeq + 1) % 2 ^ 32) : Accepted s type m x := h

/-- A message finds its entry, and the entry is as `P` says. -/
def Finds (s : Device) (x : Session) (m : TMsg) (write : Bool) (P : Entry → Prop) : Prop := ∃ e, s.entryFor x m write = .ok e ∧ P e

theorem finds {s : Device} {x : Session} {m : TMsg} {write : Bool} {P : Entry → Prop} [∀ e, Decidable (P e)]
    (h : (match s.entryFor x m write with | .ok e => decide (P e) | .error _ => false) = true) : Finds s x m write P := by
  cases he : s.entryFor x m write with
  | ok e => rw [he] at h; exact ⟨e, he, by simpa using h⟩
  | error k => rw [he] at h; cases h

/-- A message performs an action of session x. -/
def Performs (s : Device) (m : TMsg) (x : Session) : Prop := ∃ e, Acts s m x e

theorem performs {s : Device} {m : TMsg} {x : Session} (h : (match s.entryFor x m true with
    | .ok e => decide (s.session? m.session = some x ∧ s.carries m.iface = true
      ∧ headerOk 4 m x = true ∧ m.rsv = 0 ∧ x.busy = none ∧ m.seq = (x.lastSeq + 1) % 2 ^ 32) && typeOk e m.value
      && (e.type != .bool || ofBytes m.value == 1) && !s.writeFenced x.part e
      && (SMap.find s.transom.acting (sequenceOf e x.part)).isNone && (s.waitingIn (sequenceOf e x.part)).isEmpty
      && (e.index != 0x6010 || !s.queueManages x.part) && s.transom.queued.isEmpty
    | .error _ => false) = true) : Performs s m x := by
  cases he : s.entryFor x m true with
  | error k => rw [he] at h; cases h
  | ok e =>
    rw [he] at h
    simp only [Bool.and_eq_true, decide_eq_true_eq, Bool.or_eq_true, bne_iff_ne, beq_iff_eq, Bool.not_eq_true', Option.isNone_iff_eq_none,
      List.isEmpty_iff] at h
    obtain ⟨⟨⟨⟨⟨⟨⟨h1, h2⟩, h3⟩, h4⟩, h5⟩, h6⟩, h7⟩, h8⟩ := h
    exact ⟨e, h1, he, h2, fun hb => h3.resolve_left (fun k => k hb), h4, h5, h6, fun hi => h7.resolve_left (fun k => k hi),
      by intro pm hpm; rw [h8] at hpm; cases hpm⟩

/-- A module with no panes in a partition, its door 22 to no switch. -/
def free : State := ready 0 { world group0 with parts := [], fabric := { chip := 5, doors := [(22, { plan := 0x2000000 })] } }

/-- A session over the sideband. -/
def rackSess : Session := { sess 0 with iface := .sideband }
def rack : State := { ready 0 with host := { sideband := 1 }, transom := { sessions := [(1, rackSess)] } }

/-- A message of table rows. -/
def rowsMsg (index row nrows : Nat) (value : List Byte) : TMsg := { msg index 0 value with row, nrows }

/-- A write that the clause of plain entries covers. -/
def Stores (s : Device) (x : Session) (m : TMsg) (index : Nat) : Prop :=
  Accepted s 4 m x ∧ Finds s x m true (fun e => e.index = index ∧ e.acc ≠ .x ∧ s.accessOf x e ≠ .ro ∧ s.writeFenced x.part e = false
    ∧ e.type ≠ .table ∧ typeOk e m.value = true ∧ s.entryOk (copyPart e x.part) e 0 (ofBytes m.value) = true
    ∧ s.writeBusy (copyPart e x.part) e = false)

theorem stores {s : Device} {x : Session} {m : TMsg} {index : Nat} (h : Accepted s 4 m x)
    (hf : (match s.entryFor x m true with
      | .ok e => decide (e.index = index ∧ e.acc ≠ .x ∧ s.accessOf x e ≠ .ro ∧ s.writeFenced x.part e = false
          ∧ e.type ≠ .table ∧ typeOk e m.value = true ∧ s.entryOk (copyPart e x.part) e 0 (ofBytes m.value) = true
          ∧ s.writeBusy (copyPart e x.part) e = false)
      | .error _ => false) = true) : Stores s x m index := ⟨h, finds hf⟩

/-- A read of the last rows of OD 0x1020; writes of the highest limit of OD 0x2011, of the write-only OD 0xB041 and of a partition's
OD 0xA000; a write of both rows of OD 0x2020 at the ends of their range, and of the last row of the route table. -/
theorem witness_ReadsAndWrites_tables :
    (Accepted (ready 0).toDevice 3 (rowsMsg 0x1020 318 2 []) (sess 0)
      ∧ Finds (ready 0).toDevice (sess 0) (rowsMsg 0x1020 318 2 []) false (fun e => e.acc ≠ .wo ∧ e.acc ≠ .x ∧ e.type = .table))
    ∧ Stores rack.toDevice rackSess { msg 0x2011 0 [0x68, 0x10, 0, 0] with iface := .sideband } 0x2011
    ∧ Stores (ready 0).toDevice (sess 0) (msg 0xB041 0 (List.replicate 32 255)) 0xB041
    ∧ Stores (ready 1).toDevice (sess 1) (msg 0xA000 1 [1]) 0xA000
    ∧ (let m := rowsMsg 0x2020 0 2 [0x6C, 2, 0x20, 3]
       Accepted (ready 0).toDevice 4 m (sess 0) ∧ Finds (ready 0).toDevice (sess 0) m true (fun e => e.acc ≠ .x
        ∧ (ready 0).accessOf (sess 0) e ≠ .ro ∧ (ready 0).writeFenced 0 e = false ∧ e.type = .table
        ∧ m.row + m.nrows ≤ (ready 0).odRows (copyPart e 0) e ∧ m.value.length = m.nrows * e.width
        ∧ (∀ i, i < m.nrows → typeOk e ((m.value.drop (i * e.width)).take e.width) = true
            ∧ (ready 0).entryOk (copyPart e 0) e (m.row + i) (ofBytes ((m.value.drop (i * e.width)).take e.width)) = true)
        ∧ (ready 0).writeBusy (copyPart e 0) e = false))
    ∧ (let m := rowsMsg 0x4030 4095 1 [1, 0, 0x80]
       Accepted free.toDevice 4 m (sess 0) ∧ Finds free.toDevice (sess 0) m true (fun e => free.accessOf (sess 0) e ≠ .ro)
        ∧ free.anyPanes = false ∧ free.doorKind 23 = 1 ∧ free.doorKind 22 = 0) :=
  ⟨⟨accepted_of (by decide +kernel), finds (by decide +kernel)⟩, stores (accepted_of (by decide +kernel)) (by decide +kernel),
   stores (accepted_of (by decide +kernel)) (by decide +kernel), stores (accepted_of (by decide +kernel)) (by decide +kernel),
   ⟨accepted_of (by decide +kernel), finds (by decide +kernel)⟩,
   accepted_of (by decide +kernel), finds (by decide +kernel), by decide +kernel⟩

/-- A read of OD 0x1010; a write of a persistent entry, OD 0x8050, at its greatest value; a write of an entry that is read-only, OD 0x1010. -/
theorem witness_ReadsAndWrites :
    (Accepted (ready 0).toDevice 3 (msg 0x1010 0 []) (sess 0) ∧ Finds (ready 0).toDevice (sess 0) (msg 0x1010 0 []) false (fun e =>
      e.acc ≠ .wo ∧ e.acc ≠ .x ∧ e.type ≠ .table))
    ∧ (Accepted (ready 0).toDevice 4 (msg 0x8050 0 [3]) (sess 0)
      ∧ Finds (ready 0).toDevice (sess 0) (msg 0x8050 0 [3]) true (fun e => e.acc ≠ .x ∧ (ready 0).accessOf (sess 0) e ≠ .ro
        ∧ (ready 0).writeFenced 0 e = false ∧ e.type ≠ .table ∧ typeOk e [3] = true ∧ e.acc = .rwp
        ∧ (ready 0).entryOk (copyPart e 0) e 0 3 = true ∧ (ready 0).writeBusy (copyPart e 0) e = false
        ∧ [0x1101, 0x2011, 0x4000, 0x4020, 0x4021, 0x4030, 0x5010, 0x5200, 0x6140, 0xA000, 0xB040, 0xB041].contains e.index = false))
    ∧ Accepted (ready 0).toDevice 4 (msg 0x1010 0 [0]) (sess 0)
      ∧ Finds (ready 0).toDevice (sess 0) (msg 0x1010 0 [0]) true (fun e => e.acc ≠ .x ∧ (ready 0).accessOf (sess 0) e = .ro) :=
  ⟨⟨accepted_of (by decide +kernel), finds (by decide +kernel)⟩, ⟨accepted_of (by decide +kernel), finds (by decide +kernel)⟩,
   accepted_of (by decide +kernel), finds (by decide +kernel)⟩

theorem witness_SessionRequests :
    (Accepted (ready 0).toDevice 5 (msg 0x1010 0 []) (sess 0) ∧ Finds (ready 0).toDevice (sess 0) (msg 0x1010 0 []) false (fun _ => True))
    ∧ Accepted (ready 0).toDevice 6 (msg 0 0 []) (sess 0) ∧ Accepted (ready 0).toDevice 7 (msg 0 0 [255, 255, 0, 0]) (sess 0)
    ∧ ofBytes [255, 255, 0, 0] < 2 ^ 16 ∧ Accepted (ready 0).toDevice 8 (msg 0 0 []) (sess 0)
    ∧ Accepted (ready 0).toDevice 2 (msg 0 0 []) (sess 0) ∧ headerOk 0x11 (msg 0 0 []) (sess 0) = true
    ∧ (ready 1 (world group0 {} 60000000000)).session? 1 = some (sess 1)
    ∧ 0 + 1000000 * (ready 1 (world group0 {} 60000000000)).odGet 0 0x1121 0 ≤ (ready 1 (world group0 {} 60000000000)).now
    ∧ 0 + 1000000000 < (ready 1 (world group0 {} 1000000001)).now :=
  ⟨⟨accepted_of (by decide +kernel), finds (by decide +kernel)⟩, accepted_of (by decide +kernel), accepted_of (by decide +kernel),
   by decide, accepted_of (by decide +kernel), accepted_of (by decide +kernel), by decide +kernel, by decide +kernel, by decide +kernel, by decide⟩

/-- Session 1 is partition 0's at round 1, and the module is unclaimed. -/
def asking2 (now : Nat) : State :=
  { world group0 {} now with boot := { state := 1, stage := 9 }, host := { link := 2 },
                             transom := { sessions := [(1, { sess 0 with opened := false })] } }

theorem witness_Opens :
    ((asking2 1000000000).carries .host = true ∧ (asking2 1000000000).boot.random = true
      ∧ (asking2 1000000000).freshSession 31 .host = some 2)
    ∧ (asking2 1000000000).session? 1 = some { sess 0 with opened := false }
      ∧ (asking2 1000000000).keyOpens { sess 0 with opened := false } = true ∧ (asking2 1000000000).now ≤ 0 + 1000000000
      ∧ ¬((asking2 1000000001).now ≤ 0 + 1000000000)
    ∧ ({ asking2 0 with host := { link := 2, sideband := 1 } } : State).carries .sideband = true
      ∧ ({ asking2 0 with host := { link := 2, sideband := 1 } } : State).freshSession 0 .sideband = some 2 := by decide +kernel

/-- Each action of the statement, in a session that may perform it. -/
theorem witness_DeviceActions :
    Performs (ready 0).toDevice (msg 0x1100 0 [1]) (sess 0) ∧ Performs (ready 0).toDevice (msg 0x1102 0 [1]) (sess 0)
    ∧ (ready 0).anyPanes = true ∧ Performs free.toDevice (msg 0x1102 0 [1]) (sess 0) ∧ free.anyPanes = false
    ∧ Performs (ready 0).toDevice (msg 0x1103 0 [0xA1, 0x5E]) (sess 0) ∧ ofBytes [(0xA1 : Byte), 0x5E] = 0x5EA1
    ∧ Performs (ready 0).toDevice (msg 0xB001 0 (List.replicate 64 3)) (sess 0) ∧ (ready 0).ready = true
    ∧ Performs (ready 0).toDevice (msg 0x8051 0 [1]) (sess 0) ∧ Performs (ready 1).toDevice (msg 0xC001 0 [1]) (sess 1)
    ∧ Performs (ready 1).toDevice (msg 0x6132 0 [0]) (sess 1) ∧ ((ready 1).pool? 1 (ofBytes [0])).isSome = true :=
  ⟨performs (by decide +kernel), performs (by decide +kernel), by decide +kernel, performs (by decide +kernel), by decide +kernel,
   performs (by decide +kernel), by decide, performs (by decide +kernel), by decide, performs (by decide +kernel),
   performs (by decide +kernel), performs (by decide +kernel), by decide⟩

/-- A claim of an unclaimed module, and of one that has an owner. -/
theorem witness_DeviceActions_claim :
    let m := msg 0xB021 0 (List.replicate 7232 0)
    Performs (ready 0).toDevice m (sess 0) ∧ (m.value.drop 7219).any (· != 0) = false ∧ (ready 0).mram.owner = []
    ∧ Performs { (ready 0).toDevice with mram := { owner := [1] } } m (sess 0) :=
  ⟨performs (by decide +kernel), by decide +kernel, rfl, performs (by decide +kernel)⟩

theorem witness_AlertLine :
    Performs (ready 0).toDevice (msg 0x8051 0 [1]) (sess 0) ∧ (odEntry 0x8052 0).isSome = true
    ∧ (world group0).boot.pwrgd = true ∧ (world group0).boot.resetLow = false
    ∧ ({ world group0 with boot := { resetLow := true } } : State).boot.resetLow = true :=
  ⟨performs (by decide +kernel), by decide, rfl, rfl, rfl⟩

/-! ## Waits, cohorts, queues, partitions, pools -/

/-- Bytes of pool 0 of partition 1 at an offset. -/
def inPool (off : Nat) (b : List Byte) : SMap Byte := (b.zipIdx.filter (fun x => x.1 != 0)).map (fun x => (memKey 1 0 0 (off + x.2), x.1))

/-- A path that waits for counter 7 at the end of local store, or for one of the pool, its status going to s63. -/
def waiting (memory : Bool) (now : Nat) : State :=
  { world { group0 with paths := [{ path0 with st := .counter memory (if memory then 1048576 else 3145720) 7 63 now }] }
      { ls := bytesAtOff 3145720 (bytesOf (7 + 2 ^ 32 * 255) 8) } now with
      mem := { bytes := inPool 0 (bytesOf (2 ^ 32 * 255 + 7) 8) } }

theorem witness_WaitsEnd (memory : Bool) :
    ∃ w, (waiting memory 9).pathWait 0 0 0 = some w ∧ (waiting memory 9).paneRuns 0 = true ∧ w.g.stopped = false
      ∧ (waiting memory 9).counterWord w.part w.c 0 = (some (7 + 2 ^ 32 * 255), false) ∧ w.target = 7 ∧ w.deadline ≤ (waiting memory 9).now := by
  cases memory <;> refine ⟨_, rfl, ?_⟩ <;> decide +kernel

def waitQueue : Queue :=
  { prio := 0, admin := true, logsz := 6, flogsz := 4, weight := 1, ring := 1048576, cq := 1114112, fring := 1179648, tail := 1,
    running := [{ n := 0, opc := 2, tag := 0, ctr := 0, halt := false, wctr := 1048576, value := 7, deadline := 9 }] }

theorem witness_WaitsEnd_queue :
    let s := { waiting true 9 with parts := [(1, { part0 with queues := [(3, waitQueue)] })] }
    s.queue? 1 3 = some waitQueue ∧ waitQueue.dying = none ∧ (waitQueue.running.find? (·.opc == 2)).isSome = true
      ∧ s.counterWord 1 { memory := true, pane := 0, addr := 1048576 } 0 = (some (7 + 2 ^ 32 * 255), false)
      ∧ 7 ≤ (7 + 2 ^ 32 * 255) % 2 ^ 32 ∧ 9 ≤ s.now := by decide +kernel

/-- A module whose partition 1 has queue 3 and a launch of it with one cohort to place on pane 0, which is empty. -/
def placing : State :=
  { world group0 with
      panes := [(0, { part := some 1 })], cohorts := [],
      parts := [(1, { part0 with queues := [(3, { waitQueue with running := [] })], launches := [(0, { launch0 with queue := 3, lsc := 768 })] })] }

theorem witness_CohortsRun_place :
    (placing.part 1).fence = .none ∧ (placing.part 1).state = .active
      ∧ (placing.part 1).turnQueue 0 = some (3, { waitQueue with running := [] }, false)
      ∧ (∀ k, k < 4 → 0 < k → (placing.part 1).turnQueue k = none)
      ∧ (placing.part 1).unplaced 3 = [(0, { launch0 with queue := 3, lsc := 768 })]
      ∧ (placeOrder (placing.usablePanes 1 0) none).head? = some 0 ∧ (placing.pane 0).reserved = none
      ∧ placing.holds 0 1 0 { launch0 with queue := 3, lsc := 768 } = some 0 := by decide +kernel

theorem witness_CohortsRun_ends :
    let c := { cohort0 with barStart := [(7, 0)] }
    let s := { world group0 {} 60000000000 with cohorts := [(0, c)] }
    let done : State := { world group0 with panes := [(0, { part := some 1 })] }
    let ended := { launch0 with ended := 1 }
    let running : Running := { n := 0, opc := 1, tag := 7, ctr := 0, halt := false, launch := some 0 }
    let q := { waitQueue with running := [running] }
    let gone : State := { world group0 with parts := [(1, { part0 with launches := [(0, ended)], queues := [(0, q)] })] }
    (s.cohort? 0 = some c ∧ SMap.find c.barStart 7 = some 0 ∧ c.fault = none ∧ 0 + 1000 * s.odGet c.part 0x6110 0 ≤ s.now)
    ∧ (done.cohort? 0 = some cohort0 ∧ done.cohortDone 0 cohort0 = true ∧ done.paneState 0 ≠ .migrating ∧ done.launch? 1 0 = some launch0)
    ∧ gone.launch? 1 0 = some ended ∧ ended.ended = ended.cohorts ∧ gone.queue? 1 ended.queue = some q ∧ q.dying = none
      ∧ q.running.find? (·.launch == some 0) = some running := by decide +kernel

/-- TAIL at the wrap of 32 bits: a full ring ahead of HEAD, and one more. -/
theorem witness_Doorbells :
    let q := { waitQueue with head := 2 ^ 32 - 1, tail := 2 ^ 32 - 1 }
    let s : State := { world group0 with parts := [(1, { part0 with queues := [(16383, q)] })] }
    s.queue? 1 16383 = some q ∧ (63 + 2 ^ 32 - q.head) % 2 ^ 32 ≤ 2 ^ q.logsz ∧ (63 + 2 ^ 32 - q.tail) % 2 ^ 32 < 2 ^ 31
      ∧ ¬((64 + 2 ^ 32 - q.head) % 2 ^ 32 ≤ 2 ^ q.logsz) ∧ q.state ≠ .error := by decide +kernel

/-- A state whose queue 3 of partition 1 has descriptor d next, with more bytes in the pool after the ring. -/
def queued (d : Nat) (more : SMap Byte := []) : State :=
  { world group0 with mem := { bytes := inPool 0 (bytesOf d 64) ++ more },
                      parts := [(1, { part0 with launches := [], queues := [(3, { waitQueue with running := [] })] })] }

theorem starts_of {s : Device} {part queue d : Nat} {q : Queue} (h : s.queue? part queue = some q ∧ s.engineRuns part q = true
    ∧ (match s.readVa part (q.ring + 64 * (q.started % 2 ^ q.logsz)) 64 with | .ok b => decide (d = ofBytes b) | .error _ => false) = true
    ∧ (bit d 8 = true → q.head = q.started) ∧ s.headerFits part d = true ∧ ∀ k ∈ q.running, k.n ≠ q.started) : Starts s part queue q d := by
  refine ⟨h.1, h.2.1, ?_, h.2.2.2⟩
  cases he : s.readVa part (q.ring + 64 * (q.started % 2 ^ q.logsz)) 64 with
  | ok b => have k := h.2.2.1; rw [he] at k; exact ⟨b, rfl, by simpa using k⟩
  | error e => have k := h.2.2.1; rw [he] at k; cases k

/-- A kernel header at the pool's offset 8,192: its code at the pool's start, 8 v registers, one group of 16, 64 KiB of split 2. -/
def kernel0 : Nat := 1048576 + 2 ^ 64 + 2 ^ 72 + 2 ^ 96 * 2 + 2 ^ 128 * 8

theorem agrees_empty {m : MemSt} (h : m.buffer = []) (key : Nat) : m.agrees key := by
  intro b hb
  rw [h] at hb; cases hb

/-- A NOP; a LAUNCH of one cohort; a WAIT for 2^32 − 1 at a counter at 8,192 of the pool. -/
theorem witness_Descriptors :
    let q := { waitQueue with running := [] }
    let launch := 1 + 2 ^ 128 * (1048576 + 8192) + 2 ^ 256 * 1
    let wait := 2 + 2 ^ 128 * (1048576 + 8192) + 2 ^ 192 * (2 ^ 32 - 1)
    let l := queued launch (inPool 8192 (bytesOf kernel0 64))
    Starts (queued (2 ^ 32 * 9)).toDevice 1 3 q (2 ^ 32 * 9)
    ∧ Starts l.toDevice 1 3 q launch ∧ (l.part 1).launches.length < 256 ∧ l.readVa 1 (fld launch 128 57) 64 = .ok (bytesOf kernel0 64)
      ∧ kernelOk (ofBytes (bytesOf kernel0 64)) = true ∧ fld launch 249 7 = 0 ∧ fld launch 292 220 = 0
      ∧ fld (ofBytes (bytesOf kernel0 64)) 100 6 = 0 ∧ l.usablePanes 1 (fld launch 288 4) ≠ []
      ∧ occupancy (fld kernel0 72 5) (widthOf (fld kernel0 70 2)) (fld kernel0 64 6) (fld kernel0 80 10) (fld kernel0 96 4) ≠ 0
    ∧ Starts (queued wait).toDevice 1 3 q wait ∧ fld wait 185 7 = 0 ∧ fld wait 228 284 = 0 ∧ fld wait 128 57 % 8 = 0
      ∧ (queued wait).counterWord 1 { memory := true, pane := 0, addr := fld wait 128 57 } 0 = (some 0, false) ∧ 0 % 2 ^ 32 < fld wait 192 32
    ∧ (fld launch 185 7 = 0 ∧ fld launch 128 57 % 64 = 0 ∧ fld launch 256 32 ≠ 0 ∧ Memory.wf l.mem = true ∧ Memory.wf (queued wait).mem = true)
    ∧ ∀ key, l.mem.agrees key ∧ (queued wait).mem.agrees key ∧ (queued (2 ^ 32 * 9)).mem.agrees key :=
  ⟨starts_of (by decide +kernel), starts_of (by decide +kernel), by decide +kernel, ok_of (by decide +kernel), by decide +kernel,
   by decide +kernel, by decide +kernel, by decide +kernel, by decide +kernel, by decide +kernel, starts_of (by decide +kernel),
   by decide +kernel, by decide +kernel, by decide +kernel, by decide +kernel, by decide +kernel, by decide +kernel,
   fun _ => ⟨agrees_empty rfl _, agrees_empty rfl _, agrees_empty rfl _⟩⟩

/-- A descriptor of partition 31 with the last pane; partition 1 with panes 0 and 319, and without pane 0. -/
def desc31 : Nat := 31 + 0xFFFF * 2 ^ 16 + 2 ^ 192 * 2 ^ 255 * 2 ^ 64
def active (desc : Nat) : State := ready 0 { world group0 with parts := [(1, { part0 with desc })] }

theorem witness_PartitionCommands_create :
    let s := ready 0
    Performs s.toDevice (msg 0x6002 0 (bytesOf desc31 64)) (sess 0) ∧ ofBytes (bytesOf desc31 64) = desc31 ∧ descOk desc31 = true
      ∧ descPart desc31 = 31 ∧ (s.part 31).state = .absent ∧ (∀ y ∈ s.others 31, y.job ≠ descJob desc31) ∧ s.descShort desc31 = false ∧ s.boot.random = true :=
  ⟨performs (by decide +kernel), by decide +kernel⟩

theorem witness_PartitionCommands_resize (keeps : Bool) :
    let old := 1 + 9 * 65536 + 2 ^ 64 * 1 + 2 ^ 192
    let d := 1 + 9 * 65536 + 2 ^ 64 * 1 + (if keeps then 2 ^ 192 else 0) + 2 ^ 192 * 2 ^ 255 * 2 ^ 64
    let s := active old
    Performs s.toDevice (msg 0x6003 0 (bytesOf d 64)) (sess 0) ∧ ofBytes (bytesOf d 64) = d ∧ descOk d = true ∧ descPart d = 1
      ∧ (s.part 1).state = .active ∧ (∀ y ∈ s.others 1, y.job ≠ descJob d) ∧ descJob d = descJob (s.part 1).desc
      ∧ descFast d = descFast (s.part 1).desc ∧ descQueues d = descQueues (s.part 1).desc ∧ descQps d = descQps (s.part 1).desc
      ∧ s.descShort d = false ∧ (s.part 1).consumed ≤ descQuota d * 2 ^ 30
      ∧ (if keeps then ∀ kv ∈ s.cohorts, kv.2.part = 1 → kv.2.pane < 320 ∧ bit d (192 + kv.2.pane) = true
         else ∃ kv ∈ s.cohorts, kv.2.part = 1 ∧ bit d (192 + kv.2.pane) = false) := by
  cases keeps <;> exact ⟨performs (by decide +kernel), by decide +kernel⟩

theorem witness_PartitionCommands_ends :
    let s := active (1 + 9 * 65536 + 2 ^ 192)
    let reset := { s with boot := { s.boot with stages := [{ stage := 1, target := 1, start := 0, limit := 9 }] } }
    let leaving : State := { world group0 with parts := [(1, { part0 with state := .resizing, resizeMsg := some (msg 0x6003 0 []) })] }
    Performs s.toDevice (msg 0x6004 0 [1]) (sess 0) ∧ (s.part 1).state = .active ∧ (s.part 1).fence = .none ∧ s.resetting 1 = false
      ∧ Performs reset.toDevice (msg 0x6004 0 [1]) (sess 0) ∧ (reset.part 1).state = .active ∧ (reset.part 1).fence = .none ∧ reset.resetting 1 = true
      ∧ (leaving.part 1).resizeMsg = some (msg 0x6003 0 []) ∧ (leaving.part 1).state = .resizing ∧ leaving.leftPanes 1 = true :=
  ⟨performs (by decide +kernel), by decide, by decide, by decide, performs (by decide +kernel), by decide, by decide, by decide, by decide,
   by decide, by decide +kernel⟩

/-- A management command of partition 1 through OD 0x6010. -/
def manage (d : Nat) : CmdPath := .session (msg 0x6010 0 (bytesOf d 64))

theorem manages_session {s : Device} {opc d : Nat} (h : fld d 0 8 = opc ∧ d = ofBytes (bytesOf d 64) ∧ fld d 10 22 = 0 ∧ fld d 121 7 = 0)
    (p : Performs s (msg 0x6010 0 (bytesOf d 64)) (sess 1)) : Manages s opc (manage d) 1 d :=
  ⟨h.1, h.2.1, h.2.2.1, h.2.2.2, rfl, sess 1, p.choose, p.choose_spec, rfl⟩

/-- A mirrored pool 7 of 4 MiB on stacks 9 and 19; one that is being zeroed; the release of pool 0. -/
theorem witness_PoolsAndMappings_pools :
    let create := 0x10 + 2 ^ 128 * 7 + 2 ^ 132 * (2 ^ 9 + 2 ^ 19) + 2 ^ 153 + 2 ^ 160 * 2
    let p : Pool := { set := 2 ^ 9 + 2 ^ 19, size := 2 * 2 ^ 21, mirror := true, shared := false, readers := 0, state := .zeroing, via := some (manage create) }
    let s := ready 1 { world group0 with parts := [(1, { part0 with desc := 1 + 9 * 65536 + 2 ^ 64 * 2460 + 2 ^ 192 })] }
    let z : State := { world group0 with parts := [(1, { part0 with pools := [(7, { pool0 with state := .zeroing })] })] }
    (Manages s.toDevice 0x10 (manage create) 1 create
      ∧ bodyClear create [(128, 3), (132, 20), (152, 1), (153, 2), (160, 32), (192, 32)] = true ∧ fld create 153 2 = 1
      ∧ (stacksOf (fld create 132 20)).length = 2 ∧ s.pool? 1 (fld create 128 3) = none ∧ mirrorOk (fld create 132 20) = true
      ∧ (s.part 1).consumed + p.size * 2 ≤ fld (s.part 1).desc 64 16 * 2 ^ 30 ∧ (s.slabFor p).isSome = true)
    ∧ (z.pool? 1 7 = some { pool0 with state := .zeroing } ∧ pool0.via = none)
    ∧ Manages s.toDevice 0x11 (manage 0x11) 1 0x11 ∧ bodyClear 0x11 [(128, 3)] = true ∧ (s.pool? 1 (fld 0x11 128 3)).isSome = true
      ∧ (s.part 1).pinned = [] ∧ (s.part 1).snap.armed = none :=
  ⟨⟨manages_session (by decide +kernel) (performs (by decide +kernel)), by decide +kernel⟩, by decide +kernel,
   manages_session (by decide +kernel) (performs (by decide +kernel)), by decide +kernel, by decide +kernel, by decide, by decide⟩

/-- A map of the last pages of the address space onto pool 0, one of a doorbell page, and the unmapping of every page of pool 0. -/
theorem witness_PoolsAndMappings_maps :
    let s := ready 1 (queued 0)
    let high := 0x12 + 2 ^ 128 * (2 ^ 48 - 1048576) + 2 ^ 187 + 2 ^ 195 + 2 ^ 288 * 16
    let bell := 0x12 + 2 ^ 187 + 2 ^ 189 + 2 ^ 195 + 2 ^ 200 * 3 + 2 ^ 288
    let off := 0x13 + 2 ^ 128 * 1048576 + 2 ^ 288 * 16
    let free := ready 1
    let fields := [(128, 57), (185, 2), (187, 1), (188, 1), (189, 2), (192, 3), (195, 5), (200, 14), (256, 32), (288, 32)]
    (Manages s.toDevice 0x12 (manage high) 1 high ∧ bodyClear high fields = true
      ∧ fld high 128 57 + fld high 288 32 * 65536 ≤ 2 ^ 48 ∧ (s.part 1).anyMapped (2 ^ 48 - 1048576) 1048576 = false
      ∧ s.mapStatus 1 { va := 2 ^ 48 - 1048576, psz := 65536, count := 16, write := true, view := 0, kind := 0, owner := 1 } = stOk
      ∧ s.tableRoom 16 = true ∧ s.tableRoom 1 = true)
    ∧ (Manages s.toDevice 0x12 (manage bell) 1 bell ∧ bodyClear bell fields = true ∧ fld bell 189 2 = 1
      ∧ (s.part 1).anyMapped 0 65536 = false ∧ (s.queue? 1 3).isSome = true)
    ∧ Manages free.toDevice 0x13 (manage off) 1 off ∧ bodyClear off [(128, 57), (185, 2), (288, 32)] = true
      ∧ total (((free.part 1).maps.filter (fun m => m.meets (1048576, 1048576))).map (fun m => min (m.va + m.psz * m.count) (2 * 1048576)
          - Nat.max m.va 1048576)) = 1048576 ∧ (free.part 1).pinned = [] :=
  ⟨⟨manages_session (by decide +kernel) (performs (by decide +kernel)), by decide +kernel⟩,
   ⟨manages_session (by decide +kernel) (performs (by decide +kernel)), by decide +kernel⟩,
   manages_session (by decide +kernel) (performs (by decide +kernel)), by decide +kernel, by decide +kernel, by decide⟩

/-- QUEUE_CREATE of a queue whose rings lie in the pool, and QUEUE_DESTROY of an idle queue and of one with a launch under way. -/
theorem witness_QueuesAndShards_queues :
    let s := ready 1 { world group0 with parts := [(1, { part0 with desc := 1 + 9 * 65536 + 2 ^ 32 * 16384 + 2 ^ 192 })] }
    let create := 0x14 + 2 ^ 128 * 16383 + 2 ^ 145 * 6 + 2 ^ 150 * 4 + 2 ^ 160 * 255 + 2 ^ 192 * 1048576 + 2 ^ 256 * 1114112 + 2 ^ 320 * 1179648
    let destroy := 0x15 + 2 ^ 128 * 3
    let busy := { waitQueue with running := [{ n := 0, opc := 1, tag := 0, ctr := 0, halt := false, launch := some 0 }] }
    let b := ready 1 { world group0 with parts := [(1, { part0 with queues := [(3, busy)] })] }
    (Manages s.toDevice 0x14 (manage create) 1 create
      ∧ bodyClear create [(128, 14), (142, 2), (144, 1), (145, 5), (150, 4), (160, 8), (192, 57), (256, 57), (320, 57)] = true
      ∧ fld create 128 14 < fld (s.part 1).desc 32 16 ∧ s.queue? 1 (fld create 128 14) = none
      ∧ s.mappedWith 1 (fld create 192 57) (64 * 2 ^ 6) .read = stOk ∧ s.mappedWith 1 (fld create 256 57) (16 * 2 ^ 6) .write = stOk
      ∧ s.mappedWith 1 (fld create 320 57) (64 * 2 ^ 4) .write = stOk)
    ∧ (Manages (ready 1 (queued 0)).toDevice 0x15 (manage destroy) 1 destroy
      ∧ (ready 1 (queued 0)).queue? 1 3 = some { waitQueue with running := [] })
    ∧ Manages b.toDevice 0x15 (manage destroy) 1 destroy ∧ b.queue? 1 3 = some busy ∧ bodyClear destroy [(128, 14)] = true
      ∧ busy.running ≠ [] ∧ ∀ r ∈ busy.running, r.opc = 1 :=
  ⟨⟨manages_session (by decide +kernel) (performs (by decide +kernel)), by decide +kernel⟩, ⟨manages_session (by decide +kernel) (performs (by decide +kernel)), by decide +kernel⟩,
   manages_session (by decide +kernel) (performs (by decide +kernel)), by decide +kernel, by decide +kernel, by decide, by decide⟩

/-- A shard of one row of 8,192 elements at the pool's start with its descriptor at 2^19 + 8,192, for a momentum optimizer of rate 1. -/
def shard0 : Nat := 1048576 + 2 ^ 64 * 1 + 2 ^ 96 * 1 + 2 ^ 160 * 0x3F800000 + 2 ^ 288 * 0x3F800000

/-- A SHARD_REGISTER of it, and a SHARD_DEREGISTER with no step in progress and with one. -/
theorem witness_QueuesAndShards_shards :
    let d := 0x16 + 2 ^ 128 * (1048576 + 524288)
    let s : State := { ready 1 with mem := { bytes := inPool 524288 (bytesOf shard0 64) },
                                    od := [(odKey 1 0x7110 1 0, 2 ^ 20), (odKey 1 0x7110 2 0, 2 ^ 20), (odKey 1 0x7110 3 0, 2 ^ 20)] }
    let out := 0x17 + 2 ^ 128 * 1048576
    let r := fun first => ready 1 { world group0 with parts := [(1, { part0 with shards := [(1048576, { desc := shard0, sill := 0 })], step := { first } })] }
    (Manages s.toDevice 0x16 (manage d) 1 d ∧ bodyClear d [(128, 57)] = true ∧ s.readVa 1 (fld d 128 57) 64 = .ok (bytesOf shard0 64)
      ∧ (s.tryShard 1 (ofBytes (bytesOf shard0 64))).2 = stOk ∧ Memory.wf s.mem = true ∧ ∀ key, s.mem.agrees key)
    ∧ (Manages (r none).toDevice 0x17 (manage out) 1 out ∧ ((r none).part 1).step.inProgress = false)
    ∧ Manages (r (some 0)).toDevice 0x17 (manage out) 1 out ∧ ((r (some 0)).part 1).step.inProgress = true
      ∧ SMap.find ((r (some 0)).part 1).shards (fld out 128 57) = some { desc := shard0, sill := 0 } ∧ bodyClear out [(128, 57)] = true :=
  ⟨⟨manages_session (by decide +kernel) (performs (by decide +kernel)), by decide +kernel, ok_of (by decide +kernel), by decide +kernel,
    by decide +kernel, agrees_empty rfl⟩,
   ⟨manages_session (by decide +kernel) (performs (by decide +kernel)), by decide +kernel⟩,
   manages_session (by decide +kernel) (performs (by decide +kernel)), by decide +kernel⟩

/-! ## Detection, tests, updates and doors -/

/-- A step of pane 0 that waits for the verdicts of its tiles. -/
def step0 : CubeStep :=
  { id := 7, mma := 1, e := { slot := 0, cohort := 0, part := 1, w0 := 0, w1 := 0, sa := 0, sb := 0, ss := 0, sld := 0, profile := 1, seed := 0,
                              est0 := 0, tag := 0, cindex := 0, gic := 0 }, kk := 0, tiles := [0], feeds := [] }

def stepped (u : CubeStep) : State := world group0 { steps := [u] }

/-- A verdict with another to come, the last of its steps, the last of a repeat for row 4; a tile that names row 4, read by a group
or by none, and that names it in the repeat. -/
theorem witness_Detections_verdicts :
    let two := { step0 with out := [(0, []), (15, [])] }
    let last := { step0 with out := [(15, [])] }
    let repeated := { last with again := [4] }
    let bad := { step0 with out := [(0, [4])] }
    let read := { bad with readers := [{ tile := 0, cohort := 0, slot := 0, gic := 0 }] }
    ((stepped two).pane 0).steps = [two] ∧ ((stepped last).pane 0).steps = [last] ∧ (stepped last).unsent 0 = [] ∧ ((stepped last).pane 0).redo = []
    ∧ ((stepped repeated).pane 0).steps = [repeated] ∧ repeated.again = [4] ∧ repeated.phys < 338
      ∧ ((stepped repeated).unit 0 (repeated.phys * 5 + 4)).state ≠ .retired ∧ ((stepped repeated).rowsNext repeated.phys).2 = none
    ∧ ((stepped bad).pane 0).steps = [bad] ∧ (∀ x ∈ [4], x ∉ bad.again) ∧ bad.live = true ∧ bad.retract = false ∧ bad.readers = []
    ∧ ((stepped read).pane 0).steps = [read] ∧ (stepped read).cohort? 0 = some cohort0 ∧ (∀ x ∈ cohort0.records, x.gic ≠ 0)
    ∧ 4 ∈ ({ bad with again := [4] } : CubeStep).again := by decide +kernel

theorem witness_Detections_vector :
    (world group0).group? 0 0 = some group0 ∧ (world group0).cohort? group0.cohort = some cohort0
    ∧ ((world group0).unit 1 ((world group0).phys 0)).state ≠ .retired ∧ cohort0.records = [] := by decide +kernel

/-- A place that is held, and one that no hold names, past the stall limit and at it. -/
theorem witness_Detections_stall :
    let s : State := { world group0 {} 60000000 with units := { holds := [(.mullion, 9)] } }
    s.watching = true ∧ s.units.holds.find? (fun h => h.1 == .mullion) = some (.mullion, 9) ∧ (∀ h ∈ s.units.holds, h.1 ≠ .frameDie)
      ∧ 1000 * s.odGet 0 0x8010 0 < s.now - 0 ∧ s.now - (s.now - 1000 * s.odGet 0 0x8010 0) ≤ 1000 * s.odGet 0 0x8010 0 := by decide +kernel

/-- The last pane, with a spare free and with none, and the frame die with and without an earlier fault. -/
def noSpares : State := { world group0 with units := { history := (span 329 338).map (fun p => (1690 + p, { state := .retired })) } }

theorem witness_Detections_handshakes :
    (world group0).watching = true ∧ (world group0).paneState 319 ≠ .vacant ∧ (world group0).phys 319 < 338
    ∧ ((world group0).unit 0 ((world group0).phys 319 * 5 + 4)).state ≠ .retired
    ∧ ((world group0).rowsNext ((world group0).phys 319)).2 = none ∧ ((world group0).pane 319).steps = [] ∧ ((world group0).pane 319).redo = []
    ∧ (world group0).stage? 2 ((world group0).phys 319) = none ∧ SMap.find (world group0).units.moves 319 = none
    ∧ (world group0).spareFor ((world group0).phys 319) ≠ none ∧ noSpares.spareFor (noSpares.phys 319) = none
    ∧ noSpares.watching = true ∧ noSpares.stage? 2 (noSpares.phys 319) = none
    ∧ ({ world group0 with boot := { state := 1, stage := 9, escalated := [23] } } : State).watching = true := by decide +kernel

/-- RUN_TEST of a unit beyond the last, of a retired pane, and of the last pseudo-channel. -/
theorem witness_UnitTests_run :
    let s := ready 0 noSpares
    Performs s.toDevice (msg 0x9030 0 (bytesOf (2 ^ 24 * 3 + 96) 4)) (sess 0) ∧ unitCount 3 ≤ 96
    ∧ Performs s.toDevice (msg 0x9030 0 (bytesOf (2 ^ 24 * 1 + 337) 4)) (sess 0) ∧ s.unitGone 1 337 = true ∧ 337 < unitCount 1
    ∧ Performs s.toDevice (msg 0x9030 0 (bytesOf (2 ^ 24 * 2 + 1279) 4)) (sess 0) ∧ s.testable 2 1279 = true :=
  ⟨performs (by decide +kernel), by decide, performs (by decide +kernel), by decide +kernel, by decide, performs (by decide +kernel),
   by decide +kernel⟩

/-- Tests that are due: of a pseudo-channel, of an idle pane, and of the pane of a cohort, whose test then waits past its limits. -/
theorem witness_UnitTests_due :
    let s := ready 0 { world group0 with units := { opsec := 2592000 } }
    s.ready = true ∧ s.testable 2 0 = true ∧ (s.unit 2 0).due ≤ s.units.opsec ∧ s.testable 1 0 = true ∧ (s.unit 1 0).due ≤ s.units.opsec
      ∧ s.numberOf 0 = some 0 ∧ s.paneEmpty 0 = false ∧ s.testable 1 1 = true ∧ s.numberOf 1 = some 1 ∧ s.paneEmpty 1 = true := by
  decide +kernel

theorem witness_UnitTests_limits :
    let w : State := { world group0 {} 600000000000000 with units := { history := [(1690, { state := .good, dueAt := some 0 })] } }
    let n : State := { w with units := { history := [(1690, { state := .good, dueAt := some 0 })]
                                          ++ (span 160 169).map (fun p => (1690 + p, { state := .retired })) } }
    w.numberOf (w.phys 0) = some 0 ∧ w.waitsPast 0 (w.odGet 0 0x9000 0) = true ∧ (w.spareFor (w.phys 0)).isSome = true
    ∧ n.numberOf (n.phys 0) = some 0 ∧ n.waitsPast 0 (n.odGet 0 0x9001 0) = true ∧ n.spareFor (n.phys 0) = none := by decide +kernel

/-- A replacement that fails during a migration, of a good pane and of a permanent one, with a spare left and with none. -/
theorem witness_UnitTests_replacement :
    ∀ retire ∈ [none, some 4], ∀ spare ∈ [true, false],
      (let s : State := { world group0 with units := { moves := [(0, .migrate 168 retire)], history := (span 160 168).map (fun p =>
         (1690 + p, { state := if spare then .spare else .retired })) ++ [(1858, { state := .good })] } }
       SMap.find s.units.moves 0 = some (.migrate 168 retire) ∧ (s.unit 1 168).state = .good ∧ s.phys 0 < 338 ∧ 168 ≠ s.phys 0
         ∧ (s.spareFor (s.phys 0)).isSome = spare) := by decide +kernel

theorem witness_UnitTests_ends :
    let m := fun r => ({ world group0 with units := { moves := [(0, .migrate 168 r)] } } : State)
    let t := fun p => ({ world group0 with units := { history := [(1690 + p, { state := .testing })], moves := [(0, .held)] } } : State)
    (SMap.find (m (some 1)).units.moves 0 = some (.migrate 168 (some 1)) ∧ (m (some 1)).settledPane 0 = true ∧ (m none).settledPane 0 = true)
    ∧ (∀ kv ∈ (t 0).units.history, kv.2.dueAt.isSome = true → kv.2.state = .testing) ∧ ((t 0).unit 1 0).state = .testing
      ∧ ((t 0).unit 1 0).judged = false ∧ (t 0).numberOf 0 = some 0 ∧ SMap.find (t 0).units.moves 0 = some .held
    ∧ ((t 337).unit 1 337).state = .testing ∧ (t 337).numberOf 337 = none
    ∧ (({ world group0 with units := { history := [(1689, { state := .testing })] } } : State).unit 0 1689).state = .testing := by
  decide +kernel

/-- A partition whose shard's plane is at a step, with its control block at 2^20 + 524,288. -/
def stepping (z : StepSt) (next : Nat) (cb : Nat := 0) (now : Nat := 0) : State :=
  { world group0 {} now with
      mem := { bytes := inPool 524288 (bytesOf cb 64), order := [(rangeKey 1 0 65536, next)] },
      od := [(odKey 1 0x7110 1 0, 1048576 + 524288)],
      parts := [(1, { part0 with shards := [(1048576, { desc := shard0, sill := 0 })], step := z })],
      fabric := { chip := 5, doors := [(23, { state := .up4, peer := some { role := 1, chip := 6, door := 0, domain := 0, credit0 := 9, credit1 := 9 } })] } }

/-- A control block of step 0 that passes, and one whose T is 0. -/
def control (t : Nat) : Nat := 2 ^ 64 * 0x3F800000 + 2 ^ 96 * t

theorem witness_WeightUpdates_agree :
    let s := stepping {} 1 (control 1)
    let d := stepping { captured := true } 1
    s.updates 1 = true ∧ s.controlBlock 1 = some (control 1) ∧ controlBlockOk (control 1) = true
    ∧ (stepping {} 1 (control 0)).controlBlock 1 = some (control 0) ∧ controlBlockOk (control 0) = false
    ∧ (∃ kd ∈ ((stepping {} 0).part 1).shards, (stepping {} 0).shardComplete 1 kd.2 0 = false)
    ∧ (d.part 1).step.captured = true ∧ (d.part 1).step.doneSent = false ∧ (∀ kd ∈ (d.part 1).shards, d.shardComplete 1 kd.2 (d.expected 1) = true)
    ∧ d.jobChips 1 = [d.chip] ∧ (d.part 1).step.verdict = none := by decide +kernel

/-- A DONE cell of this job for step 0, new and already seen; a COMMIT cell. -/
theorem witness_WeightUpdates_cells :
    let c : SyncCell := { skind := 0x10, domain := 0, origin := 5, job := 9, cause := 7 }
    let s := stepping {} 1
    let again : State := { s with fabric := { s.fabric with seen := [cellIdentity c] } }
    s.doorInDomain 23 = true ∧ s.cellPart? c = some 1 ∧ s.fabric.seen.contains (cellIdentity c) = false ∧ s.expected 1 ≤ c.step
    ∧ again.doorInDomain 23 = true ∧ again.cellPart? c = some 1 ∧ again.fabric.seen.contains (cellIdentity c) = true
    ∧ c.domain = s.lintel.domain ∧ ({ c with skind := 0x11 } : SyncCell).rsv = 0 := by decide +kernel

theorem witness_WeightUpdates_close :
    let close := fun cause => stepping { verdict := some (cause, 9) } 1 0 9
    let after := stepping { verdict := some (4, 9), closed := true } 1 0 9
    let commit := stepping { verdict := some (0, 9), closed := true, finished := [0] } 1 0 9
    let stall := stepping { first := some 0 } 0 0 60000000000
    let next := stepping { nextFirst := some 0 } 0 0 60000000000
    (∀ cause, cause < 8 → ((close cause).part 1).step.verdict = some (cause, 9) ∧ ((close cause).part 1).step.closed = false ∧ 9 ≤ (close cause).now)
    ∧ (after.part 1).shardsOn 0 = [{ desc := shard0, sill := 0 }] ∧ 0 ∉ (after.part 1).step.finished ∧ (after.part 1).snap.todo = []
      ∧ (after.part 1).mapping? (gradientPlane shard0 0) = some map0
      ∧ gradientPlane shard0 0 + 4 * shardN shard0 ≤ map0.va + map0.psz * map0.count
    ∧ (commit.part 1).step.puts = [] ∧ (∀ kd ∈ (commit.part 1).shards, kd.2.sill ∈ (commit.part 1).step.finished ∧ kd.2.leaving = none)
      ∧ commit.expected 1 < 2 ^ 64 - 1
    ∧ (stall.part 1).step.first = some 0 ∧ 0 + 1000 * stall.odGet 1 0x6112 0 ≤ stall.now ∧ stall.updates 1 = true
    ∧ (next.part 1).step.first = none ∧ (next.part 1).step.nextFirst = some 0 ∧ (next.part 1).step.nextStalled = false ∧ next.updates 1 = true := by
  decide +kernel

/-- Growth comes at the last good step of its interval. -/
theorem witness_WeightUpdates_growth :
    let s : State := { stepping { verdict := some (0, 9) } 1 0 9 with od := [(odKey 1 0x7110 6 0, 1)] }
    s.odGet 1 0x7110 6 ≠ 0 ∧ s.odGet 1 0x7110 8 + 1 = s.odGet 1 0x7110 6 := by decide +kernel

/-- Door 23 in a state. -/
def atDoor (d : Door) (chip : Nat := 5) (now : Nat := 0) : State :=
  { world group0 {} now with fabric := { chip, doors := [(23, d)] } }

def peer0 : Identity := { role := 1, chip := 6, door := 0, domain := 0, credit0 := 9, credit1 := 9 }

theorem witness_Doors_training :
    ((atDoor { plan := 1 }).door 23).state = .training ∧ (atDoor { plan := 1 }).chip ≠ 0xFFF ∧ ((atDoor { plan := 1 }).doorKind 23 = 2 ↔ peer0.role = 0)
    ∧ bit ((atDoor { plan := 1 }).door 23).plan 25 = false ∧ ¬((atDoor {}).doorKind 23 = 2 ↔ ({ peer0 with role := 0 } : Identity).role = 0)
    ∧ (atDoor {} 0xFFF).chip = 0xFFF ∧ ((atDoor { peer := some peer0 }).door 23).peer.isSome = true
    ∧ ((atDoor { state := .retraining }).door 23).state = .retraining ∧ 0 + 1500000000 ≤ (atDoor {} 5 1500000000).now := by decide +kernel

/-- A write of OD 0x4024 waits for the one door still in training. -/
theorem witness_Doors_last :
    let m := msg 0x4024 0 [1]
    let s : State := { world group0 with fabric := { chip := 5, retrain := some (0, m), doors := (List.range 24).map (fun d =>
      (d, { state := if d = 7 then .training else .up4, peer := some peer0 })) } }
    s.fabric.retrain = some (0, m) ∧ (s.door 7).state = .training ∧ (s.door 7).peer.isSome = true
      ∧ ∀ d, d < 24 → d ≠ 7 → (s.door d).state ≠ .training := by decide +kernel

/-- Four good lanes, three, and two: of the lanes that the door had. -/
theorem witness_Doors_lanes :
    (List.range 4).countP (fun i => !((0 : BitVec 4) ||| ~~~15).getLsbD i) = 4 ∧ (List.range 4).countP (fun i => !((0 : BitVec 4) ||| ~~~7).getLsbD i) = 3
    ∧ (List.range 4).countP (fun i => !((8 : BitVec 4) ||| ~~~3).getLsbD i) = 2 := by decide

theorem witness_Doors_service :
    let s := atDoor { state := .up3 }
    let free : State := ready 0 { world group0 with parts := [], fabric := { chip := 5, doors := [(23, { state := .down })] } }
    let still : State := ready 0 { world group0 with parts := [] }
    s.doorUp 23 = true ∧ s.odGet 0 0x4050 1 < 2 ^ 32 ∧ 0 ≤ s.odGet 0 0x4050 1
      ∧ (fp32.decode (s.odGet 0 0x4050 2)).lt (fp32.decode (0 : Word).toNat) = false
    ∧ Performs (ready 0).toDevice (msg 0x4024 0 [1]) (sess 0) ∧ (ready 0).anyPanes = true
    ∧ Performs free.toDevice (msg 0x4024 0 [1]) (sess 0) ∧ free.anyPanes = false ∧ (free.door 23).state = .down
    ∧ (free.door 0).changed = false ∧ Performs still.toDevice (msg 0x4024 0 [1]) (sess 0) ∧ still.anyPanes = false
    ∧ (∀ d, d < 24 → (still.door d).changed = false ∧ (still.door d).state ≠ .down) :=
  ⟨by decide +kernel, by decide +kernel, by decide +kernel, by decide +kernel, performs (by decide +kernel), by decide +kernel,
   performs (by decide +kernel), by decide +kernel, by decide +kernel, by decide +kernel, performs (by decide +kernel), by decide +kernel,
   by decide +kernel⟩

/-- A block of a cell with one whole packet, a cell of time and two idle cells. -/
def block0 (bseq : Nat) : Block :=
  let p := packet 1 { type := 1, dlen := 3, sz := 4, arg := 1, space := 1, taddr := 3145600, data := List.replicate 96 7 }
  let kb := blockOf [(0, (packetSlots p).flatten), (1, cellBytes { skind := 1, domain := 0, origin := 6 })]
  { bseq, back := 0, nak := false, kinds := kb.1, body := kb.2, crc := blockCrc kb.2 bseq 0 false kb.1 0 }

theorem witness_Doors_blocks_crc : crcOk (block0 2047) = true := by simp [crcOk, block0]

/-- The check value of CRC-32 (IEEE 802.3): that of the nine digits. -/
theorem test_crc : crc32 [0x31, 0x32, 0x33, 0x34, 0x35, 0x36, 0x37, 0x38, 0x39] = 0xCBF43926 := by decide +kernel

theorem witness_Doors_blocks :
    let s := atDoor { state := .up4, rxNext := 2047 }
    let b := block0 2047
    s.doorUp 23 = true ∧ b.bseq = (s.door 23).rxNext ∧ (s.door 23).waiting = [] ∧ s.fabric.waiting = []
      ∧ (∀ n, n < 4 → fld b.kinds (2 * n) 2 ≠ 3) ∧ (s.door 23).owe0 = 0 ∧ (s.door 23).owe1 = 0 ∧ b.rsv = 0 ∧ b.nak = false
      ∧ (packetsIn (s.door 23).rxSlots b).1.length = 1 ∧ (syncCells b).map (·.origin) = [6]
      ∧ (∀ p ∈ (packetsIn (s.door 23).rxSlots b).1, p.type ≠ 0 ∧ p.type ≠ 0xE ∧ s.accepts p = true)
    ∧ ({ b with fecOk := false } : Block).fecOk = false ∧ 0 ≠ (s.door 23).rxNext ∧ (s.door 23).nakOut = false ∧ ((atDoor { state := .up4, nakOut := true }).door 23).nakOut = true := by
  decide +kernel

/-! ## Time and the host port -/

/-- A chip that follows door 23 in a state of the lintel. -/
def following (l : LintelSt) : State :=
  { atDoor { state := .up4, peer := some peer0 } with lintel := { l with upstream := some 23 } }

def cell (kind : Nat) : SyncCell := { skind := kind, domain := 0, origin := 6 }

theorem witness_TimeKeeping_cells :
    (∀ k, 1 ≤ k → k ≤ 3 → (following {}).heeds 23 k (cell k) = true) ∧ ((following {}).door 23).replay.length < 1024
    ∧ (cell 1).origin ≠ (following {}).chip ∧ (following { state := 2 }).lintel.upstream = some 23 ∧ (following { state := 2 }).lintel.state = 2
    ∧ (following { state := 2 }).heeds 23 1 (cell 1) = true ∧ (following { state := 1 }).heeds 23 1 (cell 1) = true
    ∧ (following { state := 1 }).lintel.stepped = false ∧ (following { state := 1, stepped := true }).lintel.stepped = true
    ∧ 0 + 10000000 ≤ (following { state := 2, now := 10000000 }).now ∧ (following { now := 9999999 }).now < 0 + 10000000 := by
  refine ⟨?_, by decide +kernel⟩
  intro k h1 h3
  obtain rfl | rfl | rfl : k = 1 ∨ k = 2 ∨ k = 3 := by omega
  all_goals decide +kernel

/-- A chip that a lower rank or number keeps from being master, and one that none does; a period that has passed and one that has not. -/
theorem witness_TimeKeeping_master :
    let s := following { now := 125000 }
    let early := following { timeNext := 125000, now := 124999 }
    (∀ o ∈ [(6, s.odGet 0 0x4022 0), (4, s.odGet 0 0x4022 0 + 1)], s.odGet 0 0x4022 0 < o.2 ∨ (s.odGet 0 0x4022 0 = o.2 ∧ s.chip ≤ o.1))
    ∧ ¬(∀ o ∈ [(4, s.odGet 0 0x4022 0)], s.odGet 0 0x4022 0 < o.2 ∨ (s.odGet 0 0x4022 0 = o.2 ∧ s.chip ≤ o.1))
    ∧ s.lintel.timeNext ≤ s.now ∧ s.doorInDomain 23 = true ∧ early.now < early.lintel.timeNext ∧ early.doorInDomain 23 = true
    ∧ (s.door 23).reqNext ≤ s.now
    ∧ 0 < (({ s with fabric := { s.fabric with doors := [(23, { state := .up4, peer := some peer0, reqNext := 125001 })] } } : State).door 23).reqNext - s.now := by
  decide +kernel

/-- PTP in service: no offset yet, one under a door's time, and one for a free master. -/
theorem witness_TimeKeeping_ptp :
    let s : State := { ready 0 with od := [(odKey 0 0x5010 1 0, 1)], host := { link := 2, ptpState := 1 } }
    let late : State := { ready 0 (world group0 {} 10000000000) with od := [(odKey 0 0x5010 1 0, 1)], host := { link := 2, ptpState := 2 } }
    s.ptpActive = true ∧ 0 = s.odGet 0 0x5010 2 ∧ s.lintel.upstream = none ∧ s.lintel.state < 2 ∧ s.lintel.stepped = false
    ∧ ({ s with lintel := { upstream := some 0 } } : State).lintel.upstream.isSome = true
    ∧ ({ s with lintel := { state := 2 } } : State).ptpActive = true ∧ s.host.ptpState = 1
    ∧ late.odGet 0 0x5010 1 = 1 ∧ late.host.ptpLast + 10000000000 ≤ late.now := by decide +kernel

/-! ## The host port -/

theorem witness_HostLink :
    let up : State := ready 0
    let down : State := { up with host := { link := 1, lost := true } }
    up.hostUp = true ∧ up.delivering = false ∧ down.host.link = 1 ∧ down.delivering = false ∧ down.odGet 0 0x5000 0 = 1
    ∧ ({ down with od := [(odKey 0 0x5000 0 0, 3)] } : State).odGet 0 0x5000 0 = 3
    ∧ ({ up with host := { link := 2, sideband := 1 } } : State).host.sideband ≠ 0
    ∧ ({ up with host := { link := 2, pfc := 3 } } : State).hostUp = true
    ∧ (3145728 ≤ ({ length := 9216, fcsOk := true, ipv6 := true, vlan := none, kind := .other, buffered := 3145728 } : Frame).buffered)
    ∧ (∀ priority quanta, ({ length := 9217, fcsOk := true, ipv6 := true, vlan := none, kind := .other } : Frame).kind ≠ .pause priority quanta) :=
  ⟨by decide, by decide, by decide, by decide, by decide +kernel, by decide +kernel, by decide, by decide, by decide, fun _ _ h => by cases h⟩

/-- A PAUSE of the port's priority, a router's prefix of the port's length, and a port that is free. -/
theorem witness_HostLink_frames :
    let s : State := { ready 0 with host := { link := 3, pfc := 3, prefixLen := 64 } }
    let f : Frame := { length := 9216, fcsOk := true, ipv6 := true, vlan := none, kind := .pause 3 65535 }
    s.hostUp = true ∧ f.kind = .pause 3 65535 ∧ f.buffered < 3145728 ∧ s.host.held = [] ∧ s.host.pfc = 3 ∧ s.host.pfc ≠ 255 ∧ s.delivering = false
      ∧ 64 = s.host.prefixLen ∧ ({ f with kind := .fragment } : Frame).kind = .fragment ∧ ({ f with kind := .roce 0x1000 true } : Frame).kind = .roce 0x1000 true := by
  decide

/-- The port has its link-local address, and no address below it. -/
theorem witness_HostLink_addresses (iface : Iface) :
    ({ ready 0 with host := { link := 2, sideband := 1, address := 7 } } : State).ownsAddress iface (linkLocal iface) = true
    ∧ ({ ready 0 with host := { link := 2, sideband := 1, address := 7 } } : State).ifaceUp iface = true
    ∧ ({ ready 0 with host := { link := 2, sideband := 1, address := 7 } } : State).ownsAddress iface 1 = false := by
  have h : ∀ i, (1 == linkLocal i) = false := by
    intro i
    simp only [linkLocal, beq_eq_false_iff_ne]
    have : 0xFE80 * 2 ^ 112 + interfaceId (macOf i) ≥ 0xFE80 * 2 ^ 112 := Nat.le_add_right _ _
    intro hc; rw [← hc] at this; exact absurd this (by decide +kernel)
  refine ⟨by simp [Device.ownsAddress], by cases iface <;> rfl, ?_⟩
  show (1 == linkLocal iface || _) = false
  rw [h]
  cases iface <;> decide +kernel

/-- Queue pair 0 of partition 1, as the FZ9 numbers it 0x1000, with two buffers of 1 KiB and its counter; and a key for the pool. -/
def qp0 : Qp := { desc := 2 ^ 16 * 3 + 2 ^ 88 + 2 ^ 256 * 1048576 + 2 ^ 256 * 2 ^ 57 + 2 ^ 256 * 2 ^ 64 * 1114112, epsn := 2 ^ 24 - 1, rate := 100000 }
def key0 : MKey := { write := true, read := true, va := 1048576, len := 1048576, gen := 1 }
def linked (q : Qp := qp0) (now : Nat := 0) : State :=
  ready 1 { world group0 {} now with parts := [(1, { part0 with desc := 1 + 9 * 65536 + 2 ^ 144 + 2 ^ 192, qps := [(0, q)], keys := [(0, key0)] })] }

theorem witness_HostLink_congestion :
    (linked).qpOf 0x1000 = some (1, 0) ∧ (linked).qp? 1 0 = some qp0 ∧ qp0.state = 1
    ∧ (∀ t0, qp0.cnpSent = some t0 → t0 + 50000 ≤ (linked).now) ∧ PortFree (linked).toDevice :=
  ⟨by decide +kernel, by decide, rfl, (fun _ h => by cases h), by decide, by decide⟩

/-- A connection, refused and made; a key, made and destroyed. -/
theorem witness_RdmaRequests_actions :
    let free := ready 1 { world group0 with parts := [(1, { part0 with desc := 1 + 9 * 65536 + 2 ^ 144 + 2 ^ 192 })] }
    let d := 2 ^ 16 * 3 + 2 ^ 88
    let k := 2 ^ 11 + 2 ^ 12 + 2 ^ 32 * 1048576 + 2 ^ 96 * 1048576
    (Performs free.toDevice (msg 0x5110 0 (bytesOf d 64)) (sess 1) ∧ ofBytes (bytesOf d 64) = d
      ∧ connectOk d (fld (free.part 1).desc 144 13) = true ∧ free.qp? 1 (fld d 0 12) = none ∧ fld d 313 4 = 0)
    ∧ (Performs (linked).toDevice (msg 0x5110 0 (bytesOf d 64)) (sess 1) ∧ ((linked).qp? 1 (fld d 0 12)).isSome = true)
    ∧ (Performs (linked).toDevice (msg 0x5111 0 (bytesOf 0 2)) (sess 1) ∧ ((linked).qp? 1 0).isSome = true)
    ∧ (Performs free.toDevice (msg 0x5120 0 (bytesOf k 32)) (sess 1) ∧ ofBytes (bytesOf k 32) = k ∧ keyOk k = true
      ∧ SMap.find (free.part 1).keys (fld k 0 11) = none ∧ free.keyPages 1 (fld k 32 57) (fld k 96 64) (bit k 11) (bit k 12) = stOk)
    ∧ Performs (linked).toDevice (msg 0x5122 0 (bytesOf 0 2)) (sess 1) ∧ (SMap.find ((linked).part 1).keys 0).isSome = true :=
  ⟨⟨performs (by decide +kernel), by decide +kernel⟩,
   ⟨performs (by decide +kernel), by decide +kernel⟩, ⟨performs (by decide +kernel), by decide +kernel⟩,
   ⟨performs (by decide +kernel), by decide +kernel⟩, performs (by decide +kernel),
   by decide +kernel⟩

/-- A WRITE of 32 bytes at the pool's last sector, whose PSN is the last, the READ of them, a SEND, and the first packet of a WRITE of two. -/
def rdma0 : Rdma := { op := .write, qpn := 0x1000, psn := 2 ^ 24 - 1, rkey := 2 ^ 11 * 1 + 2 ^ 16, va := 2097120, len := 32, data := List.replicate 32 9 }
def read0 : Rdma := { rdma0 with op := .read, data := [] }
def send0 : Rdma := { rdma0 with op := .send }
def first0 : Rdma := { rdma0 with place := .first, va := 1048576, len := 2048, data := List.replicate 1024 9 }

/-- The same pool under a mapping that leaves nothing in the sills. -/
def uncached (q : Qp := qp0) : State := { linked q with parts := [(1, { (linked q).part 1 with maps := [{ map0 with view := 1 }] })] }

/-- The same pool on both sashes. -/
def mirrored : State := { linked with parts := [(1, { (linked).part 1 with pools := [(0, { pool0 with set := 3, mirror := true })] })] }

theorem witness_RdmaRequests_writes :
    let s := linked
    let w : Target := { owner := 1, pool := 0, off := 1048544, map := map0 }
    (s.hostUp = true ∧ s.delivering = false ∧ s.qpOf 0x1000 = some (1, 0) ∧ s.qp? 1 0 = some qp0 ∧ qp0.state = 1 ∧ s.resetting 1 = false
      ∧ s.sashBusy 0 = false ∧ s.anyHeld = false ∧ PortFree s.toDevice ∧ rdma0.psn = qp0.epsn)
    ∧ (s.rdmaRefused 1 qp0 rdma0 true = none ∧ (rdma0.place = .only ∨ rdma0.place = .last) ∧ rdma0.data.length ≤ 32 - rdma0.va % 32
      ∧ s.translate 1 rdma0.va .write = .ok w ∧ (∀ c, s.poisonAt 1 0 c w.off = false) ∧ s.copies 1 0 = [0])
    ∧ (mirrored.qp? 1 0 = some qp0 ∧ mirrored.rdmaRefused 1 qp0 rdma0 true = none ∧ mirrored.translate 1 rdma0.va .write = .ok w
      ∧ (∀ c, mirrored.poisonAt 1 0 c w.off = false) ∧ mirrored.copies 1 0 = [0, 1] ∧ ∀ f ∈ mirrored.mem.forwards, f.id < mirrored.mem.nextReq)
    ∧ (uncached.rdmaRefused 1 qp0 first0 true = none ∧ ¬(first0.place = .last ∨ first0.place = .only)
      ∧ ((uncached.toDevice.serve 1 2 first0.data.length 0).rdmaPut 1 first0.va first0.data).2 = stOk)
    ∧ s.rdmaRefused 1 qp0 { rdma0 with rkey := 0 } true = some (4, stAccess) :=
  ⟨⟨by decide, by decide, by decide +kernel, by decide, rfl, by decide, by decide, by decide, ⟨by decide, by decide⟩, rfl⟩,
   ⟨by decide +kernel, Or.inl rfl, by decide, ok_of (by decide +kernel), fun _ => rfl, by decide⟩,
   ⟨by decide +kernel, by decide +kernel, ok_of (by decide +kernel), fun _ => rfl, by decide +kernel, by decide⟩,
   ⟨by decide +kernel, by decide, by decide +kernel⟩, by decide +kernel⟩

theorem witness_RdmaRequests_reads :
    let s := linked
    let w : Target := { owner := 1, pool := 0, off := 1048544, map := map0 }
    s.rdmaRefused 1 qp0 read0 false = none ∧ read0.psn = qp0.epsn ∧ read0.len ≤ 32 - read0.va % 32 ∧ read0.len ≤ 32 - w.off % 32
      ∧ s.translate 1 read0.va .read = .ok w ∧ qp0.free ≤ s.now ∧ fld qp0.desc 88 5 ≠ 0 ∧ (∀ c, s.poisonAt 1 0 c w.off = false)
      ∧ (∀ i c, i < 32 → c ∈ s.copies 1 0 → s.byteAt 1 0 c (w.off + i) = 0) ∧ s.copies 1 0 ≠ [] :=
  ⟨by decide +kernel, rfl, by decide, by decide, ok_of (by decide +kernel), by decide, by decide, fun _ => rfl, fun _ _ _ _ => rfl, by decide⟩

/-- A SEND into a free buffer, whole and its first packet, and one that finds both buffers full; one ahead of its turn, and one behind it; a rate that
recovers. -/
theorem witness_RdmaRequests_sends :
    let s := linked
    let large := { qp0 with desc := qp0.desc + 2 ^ 317 }
    let full := linked { qp0 with sends := 2 }
    let slow := { qp0 with rate := 1000, cnp := some 0 }
    let w := (s.serve 1 2 send0.data.length 0).rdmaPut 1 (bufferOf qp0.desc 0) send0.data
    let part := { first0 with op := .send }
    s.sendRefused 1 qp0 send0 = none ∧ w.2 = stOk
      ∧ (w.1.rdmaPut 1 (bufferOf qp0.desc 0 + qpBuffer qp0.desc - 8) (bytesOf 32 8)).2 = stOk
    ∧ (uncached large).sendRefused 1 large part = none
      ∧ (((uncached large).serve 1 2 part.data.length 0).rdmaPut 1 (bufferOf large.desc 0) part.data).2 = stOk
    ∧ full.sendRefused 1 { qp0 with sends := 2 } send0 = some (2, stOk)
    ∧ (0 + 2 ^ 24 - qp0.epsn) % 2 ^ 24 = 1 ∧ 2 ^ 23 ≤ (2 ^ 24 - 2 + 2 ^ 24 - qp0.epsn) % 2 ^ 24
    ∧ slow.cnp = some 0 ∧ 0 + 55000 ≤ (linked slow 55000).now ∧ (linked slow 55000).qp? 1 0 = some slow := by decide +kernel

/-! ## Snapshots and restart -/

def row0 : SnapRow := { id := 3, state := 0, buddy := 6, step := 4, tarm := 1000 }
def head0 : SnapHeader := { step := 4, tarm := 1000, kls := 0, run := 0, pools := [(0, 1048576)] }

/-- Partition 1 with the snapshot side z, of a job of this chip and chip 6 or of this chip alone. -/
def snapping (z : SnapSt) (both : Bool := true) (now : Nat := 0) : State :=
  { ready 1 { world group0 {} now with parts := [(1, { part0 with desc := 1 + 9 * 65536 + 2 ^ 80 + 2 ^ 192, snap := z })] } with
      od := [(odKey 1 0x4070 0 0, if both then 2 ^ 5 + 2 ^ 6 else 0), (odKey 1 0xA000 1 0, 1)],
      fabric := { chip := 5, doors := [(23, { state := .up4, peer := some peer0 })], route := [(6, 2 ^ 23), (7, 2 ^ 23)] } }

theorem witness_SnapshotsDrain_takes :
    let s := snapping { nextTake := some 0 }
    let follower : State := { s with od := [(odKey 1 0x4070 0 0, 2 ^ 4 + 2 ^ 5)] }
    s.leads 1 = true ∧ s.odGet 1 0xA000 1 = 1 ∧ (s.part 1).snap.nextTake = some 0 ∧ s.expected 1 + 2 < 2 ^ 62
    ∧ Performs s.toDevice (msg 0xA010 0 [1]) (sess 1) ∧ (s.part 1).armed = false
    ∧ Performs (snapping { rows := [row0] }).toDevice (msg 0xA010 0 [1]) (sess 1) ∧ ((snapping { rows := [row0] }).part 1).armed = true
      ∧ (snapping { rows := [row0] }).leads 1 = true
    ∧ Performs follower.toDevice (msg 0xA010 0 [1]) (sess 1) ∧ follower.leads 1 = false
    ∧ (snapping { takes := [(3, 4, 0)] } true 60000000000).now = 60000000000
      ∧ 0 + 1000 * (snapping { takes := [(3, 4, 0)] } true 60000000000).odGet 1 0x6112 0 ≤ 60000000000 :=
  ⟨by decide +kernel, by decide +kernel, by decide, by decide +kernel, performs (by decide +kernel), by decide, performs (by decide +kernel),
   by decide, by decide +kernel, performs (by decide +kernel), by decide +kernel, by decide, by decide +kernel⟩

/-- A TAKE for the step to come, a TAKE too late, a TAKEN and a RETRACT from chip 6. -/
def mark (kind : Nat) (step payload : Nat) : SyncCell :=
  { skind := 0x12, domain := 0, origin := 6, job := 9, step := 2 ^ 62 * kind + step, payload }

theorem witness_SnapshotsDrain_cells :
    let s := snapping {}
    let past : State := { s with od := s.od.take 1 ++ [(odKey 1 0x7110 4 0, 1)] }
    (∀ k, k < 3 → s.doorInDomain 23 = true ∧ s.cellPart? (mark k 1 0) = some 1 ∧ markKind (mark k 1 0) = k
      ∧ s.fabric.seen.contains (cellIdentity (mark k 1 0)) = false)
    ∧ s.expected 1 ≤ (mark 0 0 0).step % 2 ^ 62 ∧ (mark 0 0 (2 ^ 32 - 1)).payload < 2 ^ 32
    ∧ (mark 0 0 0).step % 2 ^ 62 < past.expected 1 ∧ past.cellPart? (mark 0 0 0) = some 1 ∧ (mark 1 0 (2 ^ 136 - 1)).payload < 2 ^ 136 := by
  refine ⟨?_, by decide +kernel⟩
  intro k h
  obtain rfl | rfl | rfl : k = 0 ∨ k = 1 ∨ k = 2 := by omega
  all_goals decide +kernel

theorem witness_SnapshotsDrain_drain :
    let z : SnapSt := { rows := [row0], armed := some head0, todo := [31], sent := [(30, 0)] }
    let s := snapping z false 60000000000
    let last := snapping { rows := [row0], armed := some head0 } false
    (s.part 1).armedRow = some row0 ∧ (s.part 1).snap.todo = 31 :: [] ∧ SMap.find (s.part 1).snap.sent (0 * 2 ^ 27 + 30) = some 0
      ∧ 0 + 1000 * s.odGet 1 0x6111 0 ≤ s.now
    ∧ (last.part 1).armedRow = some row0 ∧ (last.part 1).snap.todo = [] ∧ (last.part 1).snap.sent = [] ∧ last.jobChips 1 = [last.chip]
      ∧ (∀ k ∈ (last.part 1).snap.taken, k.2.1 ≠ row0.id) := by decide +kernel

/-- A buddy with room for a block, and one whose reserve of 0 has none. -/
theorem witness_CopiesAndRestores_blocks :
    let s := snapping {}
    let full : State := { s with parts := [(1, part0)] }
    s.jobPart? 9 = some 1 ∧ s.inJobSet 1 6 = true ∧ s.takenVerdict 1 3 ≠ some 3
      ∧ ¬(fld (s.part 1).desc 80 16 * 2 ^ 30 < (s.part 1).reserveUsed + 32832) ∧ (∀ c ∈ (s.part 1).snap.copies, c.origin ≠ 6)
    ∧ full.jobPart? 9 = some 1 ∧ full.inJobSet 1 6 = true ∧ full.takenVerdict 1 3 ≠ some 3
      ∧ fld (full.part 1).desc 80 16 * 2 ^ 30 < (full.part 1).reserveUsed + 32832 := by decide +kernel

/-- A RETRACT of what came at 1,000 and later, with a sector of memory and one of local store that chip 6 has written since. -/
theorem witness_CopiesAndRestores_retract :
    let c := mark 2 4 0
    let s := { snapping { rows := [{ row0 with state := 2 }] } with
      mem := { log := [{ part := 1, chip := 6, time := 1000, sectors := [memKey 1 0 0 0 / 32] }] } }
    s.doorInDomain 23 = true ∧ s.cellPart? c = some 1 ∧ markKind c = 2 ∧ c.payload % 2 ^ 136 = 0 ∧ c.payload < 2 ^ 216 ∧ Memory.wf s.mem = true ∧ c.step % 2 ^ 62 * 256 - 64 ≤ 1000
      ∧ (∀ e ∈ s.mem.log, e.part = 1 ∧ e.chip = c.origin ∧ ∀ k ∈ e.sectors, k * 32 / 2 ^ 43 % 2 = 0) := by decide +kernel

/-- A restore of chip 5's copy from chip 6: on a partition that is fenced, and on one that is not. -/
def restore0 : Nat := 3 + 2 ^ 32 * 5 + 2 ^ 48 * 6 + 2 ^ 64 * 0xFFF
def source0 : RestoreSource := { complete := true, invalid := false, pools := [(0, 1048576)], blocks := [0], step := 2 ^ 64 - 1, kls := 0, run := 0 }
def fencedPart (z : SnapSt) (now : Nat := 0) : State :=
  { snapping z true now with parts := [(1, { part0 with desc := 1 + 9 * 65536 + 2 ^ 80 + 2 ^ 192, fence := .done, snap := z })] }

theorem witness_CopiesAndRestores_restore :
    let m := msg 0xA030 0 (bytesOf restore0 16)
    Performs (snapping {}).toDevice m (sess 1) ∧ (snapping {}).restoreStatus 1 (ofBytes m.value) source0 ≠ stOk
    ∧ Performs (fencedPart {}).toDevice m (sess 1) ∧ (fencedPart {}).restoreStatus 1 (ofBytes m.value) source0 = stOk
      ∧ source0.blocks ≠ [] ∧ (∀ kd ∈ ((fencedPart {}).part 1).shards, kd.2.leaving = none) :=
  ⟨performs (by decide +kernel), by decide +kernel, performs (by decide +kernel), by decide +kernel, by decide, by decide⟩

/-- The last block of a restore and one before it, good and bad, and a silence. -/
theorem witness_CopiesAndRestores_restoring (data : List Byte) (h : data.length = 32768) :
    let m := msg 0xA030 0 (bytesOf restore0 16)
    let s := fun todo => fencedPart { restore := some m, restSrc := some source0, restTodo := todo } 60000000000
    (∀ todo, ((s todo).part 1).snap.restore = some m ∧ ((s todo).part 1).snap.restSrc = some source0)
      ∧ restReplica (ofBytes m.value) = 0xFFF ∧ ((s [0]).part 1).snap.restTodo.contains (0 * 2 ^ 27 + 0) = true
      ∧ ((s [0]).part 1).snap.restTodo.filter (· != 0) = [] ∧ ((s [0, 1]).part 1).snap.restTodo.filter (· != 0) ≠ []
      ∧ data.length = 32768 ∧ Config.sha3 data = Config.sha3 data ∧ Config.sha3 data ≠ Config.sha3 data + 1
      ∧ (∀ f ∈ (s [0]).mem.forwards, ∀ ws, f.writes = some ws → ∀ w ∈ ws, w.1 < 32) ∧ Memory.wf (s [0]).mem = true ∧ (∀ o c, (s [0]).poisonAt 1 0 c o = false)
      ∧ 0 + 1000 * (s [0]).odGet 1 0x6111 0 ≤ (s [0]).now :=
  ⟨fun _ => ⟨rfl, rfl⟩, by decide +kernel, by decide +kernel, by decide +kernel, by decide +kernel, h, rfl, by
    intro hc; generalize Config.sha3 data = x at hc; bv_omega, (fun _ hf => by cases hf), by decide, fun _ _ => rfl, by decide +kernel⟩

def kept0 : BuddyCopy := { origin := 6, id := 3, state := 2, head := head0 }

/-- A hold of a copy at the last page of 1 GiB, one of no copy, and a release. -/
theorem witness_CopiesAndRestores_hold :
    let d := fun va => 3 + 2 ^ 32 * 6 + 2 ^ 64 * va
    let top := 2 ^ 48 - 2 ^ 31
    let s := snapping { copies := [kept0] }
    Performs s.toDevice (msg 0xA040 0 (bytesOf (d top) 16)) (sess 1) ∧ (ofBytes (bytesOf (d top) 16) = d top ∧ fld (d top) 44 20 = 0 ∧ fld (d top) 121 7 = 0
      ∧ (s.part 1).snap.copies.find? (fun c => c.origin == 6 && c.id == 3) = some kept0 ∧ fld (d top) 64 57 % 2 ^ 30 = 0 ∧ fld (d top) 64 57 < 2 ^ 48
      ∧ fld (d top) 64 57 ≠ 0 ∧ top + 2 ^ 30 * (kept0.imageMap top).count ≤ 2 ^ 48
      ∧ (((s.part 1).maps.filter (fun k => !k.isImage 6 3)).any (fun k => k.meets (top, 2 ^ 30 * (kept0.imageMap top).count)) = false))
    ∧ Performs s.toDevice (msg 0xA040 0 (bytesOf (d 0) 16)) (sess 1) ∧ fld (d 0) 64 57 = 0
    ∧ Performs (snapping {}).toDevice (msg 0xA040 0 (bytesOf (d top) 16)) (sess 1)
      ∧ (∀ c ∈ ((snapping {}).part 1).snap.copies, ¬(c.origin = 6 ∧ c.id = 3)) :=
  ⟨performs (by decide +kernel), by decide +kernel, performs (by decide +kernel), by decide +kernel, performs (by decide +kernel), by decide +kernel⟩

/-! ## Resets, power and the start -/

/-- The partition under a fence; the module with a stage that runs. -/
def fencing (f : FenceSt) (now : Nat := 0) : State := { ready 0 (world group0 {} now) with parts := [(1, { part0 with fence := f })] }
def staged (x : StageSt) (now : Nat := 0) : State :=
  { world group0 {} now with boot := { state := 3, stage := 9, stages := [x] }, parts := [], panes := [], cohorts := [] }

theorem witness_Resets_actions :
    let s := ready 1
    let dark : State := { ready 1 with power := { state := 2 } }
    Performs s.toDevice (msg 0xA110 0 [1]) (sess 1) ∧ s.shuttered = false ∧ (s.part 1).state ≠ .destroying ∧ (s.part 1).fence = .none
      ∧ s.resetting 1 = false ∧ s.units.moves = [] ∧ (∀ kq ∈ (s.part 1).queues, kq.2.dying = none)
      ∧ (s.panesOf 1).filter [].contains = [] ∧ (s.panesOf 1).filter [0].contains = [0]
    ∧ Performs dark.toDevice (msg 0xA110 0 [1]) (sess 1) ∧ dark.shuttered = true
    ∧ Performs (ready 0).toDevice (msg 0xA101 0 [31]) (sess 0) ∧ ((ready 0).part 31).state = .absent
    ∧ Performs (ready 0).toDevice (msg 0xA101 0 [1]) (sess 0) ∧ ((ready 0).part 1).state ≠ .absent ∧ ((ready 0).part 1).fence = .none
    ∧ Performs (fencing .done).toDevice (msg 0xA101 0 [1]) (sess 0) ∧ ((fencing .done).part 1).fence ≠ .none
    ∧ Performs (ready 0).toDevice (msg 0xA100 0 [1]) (sess 0) ∧ Performs (ready 0).toDevice (msg 0xA100 0 [2]) (sess 0)
      ∧ (ready 0).stage? 4 0 = none ∧ (ready 0).stage? 4 1 = none ∧ (ready 0).partsOnSash 0 = [1] ∧ (ready 0).resetting 1 = false
    ∧ Performs (ready 0).toDevice (msg 0xA100 0 [3]) (sess 0) :=
  ⟨performs (by decide +kernel), by decide, by decide, by decide, by decide, by decide, by decide, by decide +kernel, by decide +kernel, performs (by decide +kernel),
   by decide, performs (by decide +kernel), by decide, performs (by decide +kernel), by decide, by decide, performs (by decide +kernel), by decide,
   performs (by decide +kernel), performs (by decide +kernel), by decide, by decide, by decide +kernel, by decide, performs (by decide +kernel)⟩

/-- A partition whose context reset waits for a pane that hung: a fence of it, and the end of each of its stages' time. -/
theorem witness_Resets_hung :
    let x : StageSt := { stage := 1, target := 1, start := 0, limit := 7, msg := some (msg 0xA110 0 [1]), panes := [0] }
    let y : StageSt := { stage := 2, target := 0, start := 0, limit := 7, part := some 1 }
    let s : State := ready 0
    let r : State := { s with boot := { s.boot with stages := [x] } }
    Performs r.toDevice (msg 0xA101 0 [1]) (sess 0) ∧ r.shuttered = false ∧ (r.part 1).fence = .none ∧ r.resetting 1 = true
    ∧ (staged x 7).stage? 1 1 = some x ∧ x.paused = none ∧ x.fence = none ∧ 0 + 7 ≤ (staged x 7).now
    ∧ (staged y 7).stage? 2 0 = some y ∧ (staged y 7).units.moves = [] ∧ (staged y 7).resetting 1 = false :=
  ⟨performs (by decide +kernel), by decide, by decide, by decide, by decide, by decide, by decide, by decide, by decide, by decide, by decide⟩

theorem witness_Resets_fence :
    ((fencing (.draining 0) 40000000).part 1).fence = .draining 0 ∧ 0 + 40000000 ≤ (fencing (.draining 0) 40000000).now
    ∧ (∀ kv ∈ (fencing (.draining 0) 40000000).fabric.ops, kv.2.tid = kv.1) ∧ (fencing (.draining 0) 39999999).now < 0 + 40000000
    ∧ (fencing (.draining 0)).drained 1 = true ∧ ((fencing (.draining 0)).part 1).destroyMsg = none
    ∧ ({ fencing (.draining 0) with fabric := { ops := [(7, op0)] } } : State).drained 1 = false := by decide +kernel

theorem witness_Resets_stages :
    let x : StageSt := { stage := 4, target := 1, start := 0, limit := 7, begun := true }
    (staged x).stage? 4 1 = some x ∧ ((staged x).sash 1).tripped = false
      ∧ (∀ p, 1 * 169 ≤ p → p < 1 * 169 + 169 → ((staged x).unit 1 p).state ≠ .testing)
      ∧ (∀ y ∈ (staged x).boot.stages, 4 ≤ y.stage → y.isFor 4 1 = true) ∧ (staged x).partsOnSash 1 = []
    ∧ (∀ k, k = 3 ∨ k = 4 ∨ k = 5 → (staged { x with stage := k } 7).stage? k 1 = some { x with stage := k }) ∧ x.paused = none
      ∧ 0 + 7 ≤ (staged x 7).now ∧ (staged x 6).now < 0 + 7 ∧ ((staged { x with stage := 3 } 7).part 1).destroyMsg = none := by
  refine ⟨by decide +kernel, by decide, ?_, by decide, by decide, ?_, by decide, by decide, by decide, by decide⟩
  · intro p h1 h2 h
    have : ((staged { stage := 4, target := 1, start := 0, limit := 7, begun := true }).unit 1 p).state =
        if (true && decide (160 ≤ p % 169)) || (false && p % 5 == 4) then UnitState.spare else .good := rfl
    rw [this] at h; split at h <;> cases h
  · rintro k (rfl | rfl | rfl) <;> decide

/-- Two sashes at FLOOR, at a limit below 620 mV. -/
theorem witness_PowerAndHeat :
    let s : State := { ready 0 (world group0 {} 1000000000) with power := { cut := 200, sash0 := { applied := 620 }, sash1 := { applied := 620 } } }
    let hot : State := { ready 0 (world group0 {} 1000000000) with power := { sash1 := { tripped := true, off := true, coolSince := some 0, emptySince := some 0 } } }
    s.railsOn = true ∧ (s.sash 0).off = false ∧ s.odGet 0 0x2010 0 < 5000 ∧ 4074 ≤ s.odGet 0 0x2010 0 ∧ s.odGet 0 0x2010 0 * 97 ≤ 4074 * 100
      ∧ 4073 * 100 < s.odGet 0 0x2010 0 * 97 ∧ s.power.lastRise = none ∧ s.power.limited = false
      ∧ (∀ k, k < 2 → (s.sash k).applied = 620 ∧ s.limitOf k < 620) ∧ (s.sash 0).tripped = false ∧ s.stage? 4 0 = none
      ∧ (s.sash 0).forced = false
    ∧ (hot.sash 1).tripped = true ∧ (hot.sash 1).coolSince = some 0 ∧ 0 + 1000000000 ≤ hot.now
      ∧ (∀ kv ∈ hot.cohorts, sashOf kv.2.pane ≠ 1) ∧ (hot.sash 1).emptySince = some 0 ∧ (s.sash 1).emptySince = none ∧ s.boot.stages = [] := by decide +kernel

theorem witness_ShutteredStates :
    let rest : State := { ready 0 with cohorts := [], od := [(odKey 0 0x2050 0 0, 2 ^ 255 * 2 ^ 64)] }
    let dark : State := { ready 0 with power := { state := 2, retained := 1 } }
    let hot : State := { ready 0 with power := { state := 3, thermalShutter := true } }
    (∀ v, v = 2 ∨ v = 3 → Performs rest.toDevice (msg 0x2001 0 [BitVec.ofNat 8 v]) (sess 0)
      ∧ Performs (ready 0).toDevice (msg 0x2001 0 [BitVec.ofNat 8 v]) (sess 0) ∧ ofBytes [BitVec.ofNat 8 v] = v)
    ∧ rest.shutterBusy = false ∧ (ready 0).shutterBusy = true
    ∧ Performs (ready 0).toDevice (msg 0x2001 0 [0]) (sess 0) ∧ (ready 0).shuttered = false
    ∧ Performs dark.toDevice (msg 0x2001 0 [0]) (sess 0) ∧ dark.shuttered = true ∧ dark.tooHot = false
    ∧ Performs hot.toDevice (msg 0x2001 0 [0]) (sess 0) ∧ hot.shuttered = true ∧ hot.tooHot = true := by
  refine ⟨?_, by decide +kernel, by decide +kernel, performs (by decide +kernel), by decide, performs (by decide +kernel), by decide, by decide,
    performs (by decide +kernel), by decide, by decide⟩
  rintro v (rfl | rfl) <;> exact ⟨performs (by decide +kernel), performs (by decide +kernel), by decide⟩

/-- Every bound of Table 21-3 from both sides. -/
theorem witness_SupplyAndReset :
    TurnOff.damages (.voltage 80001 0) = true ∧ TurnOff.damages (.voltage 65001 1001) = true ∧ TurnOff.damages (.voltage 65001 1000) = false
    ∧ TurnOff.turnsOff (.voltage 36999 51) = true ∧ TurnOff.turnsOff (.voltage 36999 50) = false ∧ TurnOff.turnsOff (.voltage 62001 11) = true
    ∧ TurnOff.turnsOff (.voltage 39999 10000) = false ∧ TurnOff.turnsOff (.overcurrent 141) = true ∧ TurnOff.turnsOff (.overcurrent 140) = false
    ∧ State.reset.boot.pwrgd = true ∧ State.reset.boot.resetLow = false
    ∧ (let s : State := { ready 0 with boot := { state := 1, stage := 9, clock := 1 }, lintel := { state := 2 } }
       s.boot.clock = 1 ∧ s.lintel.state = 2 ∧ s.hostUp = true ∧ s.ready = true) := by decide +kernel

/-- A module in delivery, bound to source 7, with bytes accepted. -/
def delivering (bytes : List Byte) (stage : Nat := 5) (bound : Option Nat := some 7) : State :=
  { State.reset with boot := { stage, bound, bytes, acked := bytes.length, bootid := 3 }, host := { link := 2 }, lintel := { now := 5000000000 } }

theorem witness_Starts :
    State.reset.boot.pwrgd = true ∧ State.reset.boot.stage = 1 ∧ State.reset.boot.state ≠ 4 ∧ State.reset.units.history = []
    ∧ (delivering [] 3).boot.trained = false ∧ ((delivering [] 3).stack (1279 / 64)).spent = none
    ∧ (delivering [] 4 none).takesDelivery = true ∧ (delivering [] 4 none).boot.bound = none
    ∧ (delivering []).takesDelivery = true ∧ (delivering []).boot.bound = some 7
      ∧ (delivering []).boot.lastSeg + 5000000000 ≤ (delivering []).now
    ∧ bundleOf ([0] : List Byte) = none ∧ bundleOf (List.replicate 24 0) = some []
      ∧ (delivering []).bundleReason (ofBytes (([] : List Byte).take 16384)) { sigOk := true, digestsOk := true, signers := [], tokenOk := false, burn := 0 } ≠ 0
    ∧ (let s : State := { delivering [] 8 with boot := { stage := 8, trained := true } }
       s.boot.stage = 8 ∧ s.boot.trained = true ∧ s.boot.state ≠ 4) := by decide +kernel

/-- A bundle of version 1 with the four components that it must have, a byte each, at 16, 20, 24 and 28 KiB. -/
def header0 : Nat :=
  0x5A390B5E + 2 ^ 32 + 2 ^ 48 * 4 + 2 ^ 64 + 2 ^ 128 * 28673
    + ([0, 1, 2, 3].map (fun k => 2 ^ (512 + 768 * k) * (k + 2 ^ 64 * (16384 + 4096 * k) + 2 ^ 128))).sum
def bundle0 : List Byte := bytesOf header0 16384 ++ List.replicate 12289 0

theorem witness_Starts_bundle :
    let s := delivering (bundle0.take 24576)
    let body := bundle0.drop 24576
    bundleOf (s.boot.bytes ++ body) = some bundle0 ∧ body ≠ [] ∧ body.length ≤ 8192
      ∧ s.boot.bytes.length = 24576 ∧ (s.boot.bytes ++ body).length ≤ s.boot.acked + 524288
      ∧ s.bundleReason (ofBytes (bundle0.take 16384)) { sigOk := true, digestsOk := true, signers := [], tokenOk := false, burn := 0 } = 0 := by
  have hl : bundle0.length = 28673 := by
    unfold bundle0; rw [List.length_append, bytesOf_length, List.length_replicate]
  have ht : bundle0.take 16384 = bytesOf header0 16384 := by
    unfold bundle0; rw [List.take_append_of_le_length (by simp)]; exact List.take_of_length_le (by simp)
  have hh : ofBytes (bundle0.take 24) = header0 % 256 ^ 24 := by
    have : bundle0.take 24 = (bundle0.take 16384).take 24 := by rw [List.take_take]; rfl
    rw [this, ht, show (16384 : Nat) = 24 + 16360 from rfl, bytesOf_take, ofBytes_bytesOf]
  have hs : (delivering (bundle0.take 24576)).boot.bytes = bundle0.take 24576 := rfl
  have ha : (delivering (bundle0.take 24576)).boot.acked = 24576 := by
    show (bundle0.take 24576).length = _; rw [List.length_take, hl]; rfl
  have hd : (bundle0.drop 24576).length = 4097 := by rw [List.length_drop, hl]
  intro s body
  refine ⟨?_, ?_, ?_, ?_, ?_, ?_⟩
  · show bundleOf (bundle0.take 24576 ++ bundle0.drop 24576) = some bundle0
    rw [List.take_append_drop]
    unfold bundleOf
    rw [hl, hh, show bundleTotal (header0 % 256 ^ 24) = 28673 by decide +kernel]
    rw [if_neg (by omega)]
    show (if 28673 ≤ 28673 then some (bundle0.take 28673) else none) = some bundle0
    rw [if_pos (Nat.le_refl _), List.take_of_length_le (by omega)]
  · intro h; rw [show body = bundle0.drop 24576 from rfl] at h; rw [h] at hd; cases hd
  · show (bundle0.drop 24576).length ≤ 8192; omega
  · show (bundle0.take 24576).length = _; rw [List.length_take, hl]; rfl
  · show (bundle0.take 24576 ++ bundle0.drop 24576).length ≤ (delivering (bundle0.take 24576)).boot.acked + 524288
    rw [List.take_append_drop, hl, ha]; omega
  · rw [ht, ofBytes_bytesOf, show header0 % 256 ^ 16384 = header0 by decide +kernel]
    decide +kernel

/-! ## The whole block -/

/-- A queue of commands that run, from reset: the first has a next state, in which memory is in its canonical form. -/
theorem witness_QueuedCommandsRun :
    queueRuns { State.reset with pending := [.resetNFall, .vinTurnOff (.voltage 36999 51), .refclkLoss] } := by
  intro c hc
  simp only [List.mem_cons, List.not_mem_nil, or_false] at hc
  obtain rfl | rfl | rfl := hc <;> decide +kernel

/-- No command waits: the port holds nothing back, or a PAUSE holds a frame still. -/
theorem witness_StepTakesFront_idle :
    let s : State := { State.reset with host := { pausedUntil := 2, held := [{ since := 0, due := 0, frames := 1, frame := .echo .host [] }] } }
    State.reset.pending = [] ∧ State.reset.host.held = [] ∧ s.pending = [] ∧ s.host.held ≠ [] ∧ (s.now + 1) % 2 ^ 64 < s.host.pausedUntil := by decide

theorem witness_RootOfTrust :
    (∃ t, step { State.reset with mram := { owner := [1], sealed := true, fuseFloor := 3 }, pending := [.resetNFall] } = .next t)
    ∧ Memory.wf State.reset.mem = true := ⟨⟨_, rfl⟩, by decide⟩

/-! ## Ill-formed commands: one for each check, which the check refuses -/

theorem wf_refuses_issue :
    [Instr.add 320 0 (word 1 0 2 1 3 0), .add 0 64 (word 1 0 2 1 3 0), .add 0 0 (word 1 1 2 1 3 0), .add 0 0 (word 2 0 2 1 3 0),
     .vote 0 0 (word 5 0x17 1 2 0 0), .fence 0 0 (BitVec.ofNat 64 (7 + 2 ^ 18)), .fenceRel 0 0 (BitVec.ofNat 64 7),
     .fenceAcq 0 0 (BitVec.ofNat 64 (7 + 2 ^ 18)), .mma 0 0 (BitVec.ofNat 64 0x1A) 0xF].all (fun i => !i.wf) = true := by decide +kernel

theorem wf_refuses_units :
    [Instr.barrierTimeout 0 8, .matrixQueueHead 320 [] [] 0, .cubeStepVerdict 320 [] [] [],
     .vectorCheck 320 0 0 false false, .vectorCheck 0 64 0 false false, .handshakeCodeFault (.cubeRow 320 0), .stallFault (.cubeRow 0 5) false 0,
     .handshakeCodeFault (.paneOther 320), .handshakeCodeFault (.meshThrough 2), .handshakeCodeFault (.sillLogic 20), .copyComplete 320 0 0, .contextReset (msg 0xA110 0 [1]) [320], .contextReset (msg 0xA100 0 [1]) [],
     .inFieldTestDue 1 338, .targetedTestDone 0 1690 true, .targetedTestDone 2 1280 true, .targetedTestDone 3 96 true,
     .targetedTestDone 4 0 true, .testDeferralDeadline 320, .hardTestLimit 320, .paneMigrated 320 false, .stackTrainingDone (some 20) [],
     .stackTrainingDone none [1280], .bootReady [338], .resetWatchdogExpiry 8 0, .resetWatchdogExpiry 3 338].all (fun i => !i.wf) = true := by
  decide +kernel

theorem wf_refuses_stacks :
    [Instr.scrubRead 20 0 0 0 {} {}, .scrubRead 0 64 0 0 {} {}, .scrubRead 0 0 4194304 0 {} {}, .scrubRead 0 0 0 16 {} {},
     .scrubRead 0 0 0 0 { symbols := [(36, 1)] } {}, .sillAccess 0 {} { symbols := [(36, 1)] } .good, .refreshSample 20 0 0, .refreshSample 0 256 0,
     .refreshSample 0 0 256, .imbalanceWindow 20 0 0 0 0 1, .imbalanceWindow 0 0 32 0 0 1, .imbalanceWindow 0 0 0 0 2 1, .pcRetrainDone 20 0 none, .pcRetrainDone 0 32 none, .pcRetrainDone 0 0 (some 2), .pcSelfTestDone 0 64 true,
     .pcMigrationDone 20 0 [], .pcMigrationDone 0 0 [(67108864, {})], .timeCellSend [(4096, 0)], .timeCellSend [(0, 256)], .rateMonitorWindow 16 0,
     .lintelViewRefresh 341, .orderStall 32 0 0, .orderStall 0 8 0, .orderStall 0 0 (2 ^ 48)].all (fun i => !i.wf) = true := by decide +kernel

theorem wf_refuses_packets :
    let p : Packet := { type := 1 }
    [Instr.putPacket { p with type := 2 } 0, .ackPacket p, .putPacket { p with vc := 2 } 0, .putPacket { p with dst := 4096 } 0,
     .putPacket { p with src := 4096 } 0, .putPacket { p with job := 65536 } 0, .putPacket { p with tid := 2 ^ 20 } 0, .putPacket { p with dlen := 17 } 0,
     .putPacket { p with sz := 8 } 0, .putPacket { p with ord := 4 } 0, .putPacket { p with aop := 16 } 0, .putPacket { p with status := 256 } 0,
     .putPacket { p with elt := 4 } 0, .putPacket { p with arg := 2 ^ 32 } 0, .putPacket { p with space := 16 } 0, .putPacket { p with taddr := 2 ^ 48 } 0,
     .putPacket { p with rctr := 2 ^ 64 } 0, .putPacket { p with via := some 24 } 0, .putPacket { p with data := List.replicate 513 0 } 0,
     .remoteTimeout (2 ^ 20), .accputResend (2 ^ 20) 0].all (fun i => !i.wf) = true := by decide +kernel

theorem wf_refuses_partials :
    [Instr.partialIncrement { share with src := 4096 }, .partialIncrement { share with tid := 2 ^ 20 }, .partialIncrement { share with job := 65536 },
     .pendingCountTimeout { share with nseg := 65536 }, .partialIncrement { share with rctr := 2 ^ 64 },
     .partialIncrement { share with status := 256 }].all (fun i => !i.wf) = true := by decide +kernel

theorem wf_refuses_cells :
    [Instr.timeCell 24 (cell 1), .timeCell 0 (cell 2), .delayReq 0 (cell 1), .delayResp 0 (cell 2), .doneCell 0 (cell 0x11), .commitCell 0 (cell 0x10),
     .timeCell 0 { cell 1 with domain := 65536 }, .timeCell 0 { cell 1 with origin := 4096 }, .timeCell 0 { cell 1 with hops := 16 },
     .timeCell 0 { cell 1 with job := 65536 }, .timeCell 0 { cell 1 with cause := 256 }, .timeCell 0 { cell 1 with step := 2 ^ 64 },
     .timeCell 0 { cell 1 with txtime := 2 ^ 64 }, .timeCell 0 { cell 1 with corr := 2 ^ 63 }, .timeCell 0 { cell 1 with corr := -2 ^ 63 - 1 },
     .timeCell 0 { cell 1 with rxtime := 2 ^ 64 }, .snapmarkTake 0 (mark 1 0 0), .snapmarkTaken 0 (mark 2 0 0),
     .snapmarkRetract 0 (mark 0 0 0)].all (fun i => !i.wf) = true
    ∧ ({ cell 1 with payload := 2 ^ 256 * 2 ^ 192 } : SyncCell).wf = false ∧ (cell 256).wf = false := by decide +kernel

theorem wf_refuses_blocks :
    let b := block0 0
    [Instr.blockReceive 24 b, .blockReceive 0 { b with bseq := 2048 }, .blockReceive 0 { b with back := 2048 }, .blockReceive 0 { b with kinds := 256 },
     .blockReceive 0 { b with rsv := 2 }, .blockReceive 0 { b with crc := 2 ^ 32 }, .blockReceive 0 { b with body := [] },
     .doorErrorWindow 24 0 0, .doorRetrainDone 24 0, .doorRetrainLimit 24, .blockLockLoss 24, .creditPacket 24 0 0, .delayReqSend 24,
     .identityBlock 24 peer0, .identityBlock 0 { peer0 with role := 2 }, .identityBlock 0 { peer0 with chip := 4096 },
     .identityBlock 0 { peer0 with domain := 65536 }].all (fun i => !i.wf) = true := by decide +kernel

theorem wf_refuses_messages :
    let m := msg 0x1010 0 []
    [Instr.read { m with session := 2 ^ 32 }, .read { m with seq := 2 ^ 32 }, .read { m with index := 65536 }, .read { m with sub := 256 },
     .read { m with row := 65536 }, .read { m with nrows := 65536 }, .write (msg 0x1100 0 [1]), .commit m, .seal m, .claim m true,
     .partitionCreate m, .sashReset (msg 0xA100 0 [3]), .deviceReset (msg 0xA100 0 [1]), .shutterRetention (msg 0x2001 0 [3]),
     .shutterRefreshOnly (msg 0x2001 0 [0]), .shutterExit (msg 0x2001 0 [2]), .poolCreate (.queue 32 0), .poolCreate (.queue 0 16384),
     .poolCreate (manage 0x11), .poolCreate (.session m), .eventResend (2 ^ 32), .sessionIdleTimeout (2 ^ 32), .sidebandOpen 32 0 0,
     .openRound2 { session := 2 ^ 32, sigOk := true, tagOk := true, rsv := 0 }].all (fun i => !i.wf) = true
    ∧ ({ part := 256, rsv := 0, nonce := 0, ek := 0, key := [] } : Open1).wf = false := by decide +kernel

theorem wf_refuses_partitions :
    [Instr.cohortPlace 32, .launchComplete 32 0, .descNop 32 0, .descLaunch 0 16384, .descWait 32 0, .doorbellTailWrite 0 0 (2 ^ 32),
     .doorbellTailWrite 32 0 0, .doorbellResume 0 16384, .doorbellFheadWrite 0 0 (2 ^ 32), .resizeDone 32, .poolZeroed 0 8, .controlBlockCapture 32,
     .chipDone 32, .stepClose 32, .sillUpdateDone 0 20, .stepCommit 32, .updateStall 32, .fenceDrainTimeout 32, .fenceComplete 32,
     .snapshotTakeSend 32, .snapshotArmTimeout 32, .snapshotDrainBlock 32, .snapshotBlockReceive 0 0 0 head0 8 0 [] 0, .snapshotBlockAck 0 8 0 0,
     .snapshotBlockAck 0 0 0 256, .snapshotBlockTimeout 32 0 0, .snapshotDrainEnd 32, .restoreBlockReceive 32 0 0 [] 0 none, .restoreBlockTimeout 32,
     .waitWake (.path 320 0 0), .waitWake (.path 0 64 0), .waitWake (.path 0 0 128), .waitTimeout (.queue 32 0),
     .waitTimeout (.queue 0 16384)].all (fun i => !i.wf) = true := by decide +kernel

theorem wf_refuses_ports :
    [Instr.ethFrame { length := 64, fcsOk := true, ipv6 := true, vlan := some 4096, kind := .other }, .neighborDiscovery .host (.solicit (2 ^ 128)),
     .neighborDiscovery .host (.announce 0 129), .neighborDiscovery .host (.announce (2 ^ 128) 64),
     .icmpEcho .host (2 ^ 128) [], .rdmaWrite { rdma0 with qpn := 2 ^ 24 }, .rdmaRead { read0 with psn := 2 ^ 24 },
     .rdmaSend { send0 with rkey := 2 ^ 32 }, .rdmaSend { send0 with va := 2 ^ 64 }, .rdmaSend { send0 with len := 2 ^ 32 }, .rdmaRead rdma0, .rdmaSend rdma0,
     .rdmaWrite send0,
     .cnpReceive (2 ^ 24), .rateRecoveryStep (2 ^ 24), .voltageSlewStep 2, .coolingWaitDone 2, .idleDetect 2, .sashResetComplete 2,
     .thermalSample 2 0 0 0, .thermalSample 0 256 0 0, .thermalSample 0 0 256 0, .thermalSample 0 0 0 256,
     .deliverySegment { source := 0, bootid := 2 ^ 32, offset := 0, rsv := 0, body := [] } { sigOk := true, digestsOk := true, signers := [], tokenOk := false, burn := 0 },
     .deliverySegment { source := 0, bootid := 0, offset := 2 ^ 32, rsv := 0, body := [] }
       { sigOk := true, digestsOk := true, signers := [], tokenOk := false, burn := 0 }].all (fun i => !i.wf) = true := by decide +kernel

/-! ## Rules, tables and worked examples of the spec -/

/-- A register of a lane of pane 0, slot 0, after a command. -/
def after (i : Instr) (s : State) (lane reg : Nat) : Option Word :=
  match exec i s with
  | .next t => (t.group? 0 0).map (fun g => g.v lane reg)
  | _ => none

/-- v1 and v3 of lane 2 hold a and b. -/
def holding (a b : Word) : State := world { group0 with vregs := [(2 * 256 + 1, a), (2 * 256 + 3, b)] }

/-- Table 04-5: wrapping, a signed and an unsigned high product, abs(−2^31), shifts by bits [4:0], clz of 0, the wave's lanes. -/
theorem test_add_wraps : after (.add 0 0 (word 1 0 2 1 3 0)) (holding 0xFFFFFFFF 2) 2 2 = some 1 := by decide +kernel
theorem test_sub_wraps : after (.sub 0 0 (word 1 1 2 1 3 0)) (holding 1 2) 2 2 = some 0xFFFFFFFF := by decide +kernel
theorem test_mul_hi_signed : after (.mulHi 0 0 (word 1 3 2 1 3 0)) (holding 0xFFFFFFFF 2) 2 2 = some 0xFFFFFFFF := by decide +kernel
theorem test_mul_hi_unsigned : after (.mulHi 0 0 (word 1 3 2 1 3 0x800)) (holding 0xFFFFFFFF 2) 2 2 = some 1 := by decide +kernel
theorem test_abs_most_negative : after (.abs 0 0 (word 1 7 2 1 0 0)) (holding 0x80000000 0) 2 2 = some 0x80000000 := by decide +kernel
theorem test_shl_low_five_bits : after (.shl 0 0 (word 1 0xC 2 1 3 0)) (holding 1 33) 2 2 = some 2 := by decide +kernel
theorem test_sar_sign : after (.sar 0 0 (word 1 0xE 2 1 3 0)) (holding 0x80000000 31) 2 2 = some 0xFFFFFFFF := by decide +kernel
theorem test_clz_zero : after (.clz 0 0 (word 1 0x10 2 1 0 0)) (holding 0 0) 2 2 = some 32 := by decide +kernel
theorem test_brev : after (.brev 0 0 (word 1 0x11 2 1 0 0)) (holding 1 0) 2 2 = some 0x80000000 := by decide +kernel
theorem test_shfl_xor : after (.shflXor 0 0 (word 1 0x16 2 1 3 0)) (holding 5 0) 2 2 = some 5 := by decide +kernel

/-- R79: 1 + 2^-24 is 1 to nearest even and 1 + 2^-23 toward +∞; the canonical NaN; minimumNumber of a NaN and a number. -/
theorem test_fp_add_nearest : after (.fpAdd 0 0 (word 2 0 2 1 3 0)) (holding 0x3F800000 0x33800000) 2 2 = some 0x3F800000 := by decide +kernel
theorem test_fp_add_up : after (.fpAdd 0 0 (word 2 0 2 1 3 0x200)) (holding 0x3F800000 0x33800000) 2 2 = some 0x3F800001 := by decide +kernel
theorem test_fp_nan : after (.fpSub 0 0 (word 2 1 2 1 3 0)) (holding 0x7F800000 0x7F800000) 2 2 = some 0x7FC00000 := by decide +kernel
theorem test_fp_min_number : after (.fpMin 0 0 (word 2 4 2 1 3 0)) (holding 0x7FC00000 0x3F800000) 2 2 = some 0x3F800000 := by decide +kernel

/-- The example of chapter 1: active number 191 is physical pane 200, whose nearest spare is 330. Chapter 16: the nearest of 57 is 161. -/
theorem test_panes : shippedPhys 191 = 200 ∧ State.reset.spareFor 200 = some 330 ∧ State.reset.spareFor 57 = some 161 := by decide +kernel

/-- The examples of chapter 3: five cohorts, and six at VREG 10 and SPLIT 9, whose header's bytes 8 to 14 are given. -/
theorem test_occupancy : occupancy 4 (widthOf 2) 12 96 8 = 5 ∧ occupancy 4 (widthOf 2) 10 96 9 = 6 := by decide

theorem test_kernel_header :
    let h := ofBytes (bytesOf 1048576 8 ++ [0x8A, 0x04, 0x60, 0x00, 0x69, 0x00, 0x00])
    fld h 64 6 = 10 ∧ fld h 70 2 = 2 ∧ fld h 72 5 = 4 ∧ fld h 80 10 = 96 ∧ fld h 96 4 = 9 ∧ fld h 100 6 = 6 := by decide +kernel

/-- The two words of the example of chapter 4. -/
theorem test_mma_words :
    let y := mxOf 0x004040001288000A 0x000002A10000A68F 0 0 0 0x00800200
    isWord 0xA [0] 0x004040001288000A = true ∧ y.op = 0 ∧ y.acc = 8 ∧ y.grp = 2 ∧ y.opn = true ∧ y.ta = false ∧ y.fmt = 1
      ∧ y.m = 64 ∧ y.n = 64 ∧ y.k = 256 ∧ y.am = 0 ∧ y.ldA = 512 ∧ y.ldB = 128 ∧ y.tileList = [8, 9, 10, 11]
      ∧ fld 0x000002A10000A68F 4 6 = 40 ∧ fld 0x000002A10000A68F 10 6 = 41 ∧ fld 0x000002A10000A68F 36 6 = 42
      ∧ (mxOf 0x004040001688000A 0x000002A10000A68F 0 0 0 0).ta = true := by decide +kernel

/-- The example of chapter 6: 64,000 at SCALE −10 overflows with 7.25, is halved to 32,000, and becomes 35,712 at SCALE −9. -/
theorem test_a16_replay :
    let x := { mxOf 0xA 0 0 0 0 0 with fmt := 0, am := 1, m := 1, n := 1, k := 1 }
    let feed : Feed := { a := [[(0x4740, false)]], b := [[(0x3C00, false)]] }
    let p := ({} : Pane).setAcc (x.accAt 0 0) 2 0x7BD0
    let a := StepRun.go x false [] 0 [(0, feed)] 4 { p, scale := -10, left := 4, full := false }
    a.p.accBytes (x.accAt 0 0) 2 = 0x785C ∧ a.scale = -9 ∧ a.replays = 1 ∧ a.left = 3 ∧ a.sats = 0 ∧ a.out = [(0, [])] := by decide +kernel

/-- FIPS 197: the S-box at 0x53, and a column of MixColumns. -/
theorem test_cipher :
    subByte 0x53 = 0xED ∧ (mixColumns ([0xDB, 0x13, 0x53, 0x45] ++ List.replicate 12 0)).take 4 = [0x8E, 0x4D, 0xA1, 0xBC] := by decide +kernel

/-- FIPS 197, appendix C.3: AES-256 of 00112233…FF under the key 000102…1F. -/
theorem test_cipher_block :
    encryptBlock (roundKeys ((List.range 32).map (fun i => BitVec.ofNat 8 i))) ((List.range 16).map (fun i => BitVec.ofNat 8 (17 * i))) =
      [0x8E, 0xA2, 0xB7, 0xCA, 0x51, 0x67, 0x45, 0xBF, 0xEA, 0xFC, 0x49, 0x90, 0x4B, 0x49, 0x60, 0x89] := by decide +kernel

/-- The pairs of chapter 6, and that of chapter 10 on both sides of its random bits. -/
theorem test_split_pairs :
    formPair (fp32.decode 0x40490FDB) .rne = (0x4049, 4059) ∧ formPair (fp32.decode 0x3F80C000) .rne = (0x3F81, -16384)
    ∧ formPair (.fin false 4278211897 (-36)) (.sr 3735551) = (0x3D7F, 86) ∧ formPair (.fin false 4278211897 (-36)) (.sr 3735552) = (0x3D7F, 85) := by
  decide +kernel

/-- The example of chapter 9: 1.0, 2^-24, 2^-24 and −1.0 in the order of SEQ. -/
theorem test_ordered_sum :
    [0x3F80, 0x3380, 0x3380, 0xBF80].foldl (fun t c => sumElement t (contributionVal 1 c)) 0 = 0 := by decide +kernel

/-- The AdamW element of chapter 10, to nearest: the pair (0x3D7F, 85), M1 0x38C0, M2 0x3190. -/
theorem test_adamw :
    let d := 2 ^ 64 * 512 + 2 ^ 96 * 4 + 2 ^ 112 * 2 + 2 ^ 160 * 0x39800000 + 2 ^ 192 * 0x3F600000 + 2 ^ 224 * 0x3F7E0000 + 2 ^ 256 * 0x35800000
    ((optimOf d 0 0 10 0x3F800000 1).update 0 { h := 0x3D80, l := 0, m1 := 0, m2 := 0 } 0x3F400000).1 =
      { h := 0x3D7F, l := 85, m1 := 0x38C0, m2 := 0x3190 } := by decide +kernel

/-- The interval of chapter 18: 2,458 µs and 43,200 s give 14,573 ms. -/
theorem test_snapshot_interval : intervalMs 2458 43200 = 14573 := by decide +kernel

/-- The address bytes of chapter 15, and the write of the chip number 37 that they carry. -/
theorem test_write_chip_number :
    let s : State := ready 0 { world group0 with parts := [] }
    ownAddress (msg 0x4020 0 [0x25, 0]) = [0x20, 0x40, 0, 0, 0, 0, 0, 0, 0, 0, 0, 0]
    ∧ (match exec (.write (msg 0x4020 0 [0x25, 0])) s with
       | .next t => t.odGet 0 0x4020 0 == 37 && t.odGet 0 0x1101 0 == 1
       | _ => false) = true := by decide +kernel

/-- R38: with no command waiting, a nanosecond passes. -/
theorem test_tick :
    (match step State.reset with
     | .next t => t.now == 1
     | _ => false) = true := by decide +kernel

end Sys2Proof.Machine.Test
end

section
/-! SUPPORT. What the delivery of an event and a DEV event leave of the module (R348, R349). -/

namespace Sys2Proof.Machine

/-- An event for one session changes the sessions, the count of dropped events in the dictionary, and what is sent. -/
theorem Device.deliverEvent_rest (s : Device) (id body : Nat) :
    deliverEvent s id body = { s with transom := { s.transom with sessions := (deliverEvent s id body).transom.sessions },
                                      od := (deliverEvent s id body).od, sent := (deliverEvent s id body).sent } := by
  unfold deliverEvent
  (repeat' split) <;> rfl

/-- The same holds of an event for several sessions. -/
theorem Device.foldl_deliverEvent_rest (l : List (Nat × Session)) (body : Nat) (s : Device) :
    let t := l.foldl (fun t kv => deliverEvent t kv.1 body) s
    t = { s with transom := { s.transom with sessions := t.transom.sessions }, od := t.od, sent := t.sent } :=
  foldl_keeps (fun t : Device => t = { s with transom := { s.transom with sessions := t.transom.sessions }, od := t.od, sent := t.sent })
    _ l s rfl (fun t kv h => by rw [Device.deliverEvent_rest, h])

variable (s : Device) (code sev body : Nat) (params : List (Nat × Nat))

@[simp] theorem Device.logDev_power : (s.logDev sev body).power = s.power := by unfold Device.logDev; dsimp only
@[simp] theorem Device.logDev_panes : (s.logDev sev body).panes = s.panes := by unfold Device.logDev; dsimp only
@[simp] theorem Device.logDev_mem : (s.logDev sev body).mem = s.mem := by unfold Device.logDev; dsimp only

/-- Beside its entry in the log and at ALERT_N, a DEV event changes the sessions, the count of dropped events, and what is sent. -/
theorem Device.raiseDev_rest :
    s.raiseDev code sev params =
      let u := s.logDev sev (eventBody code sev 0xFF s.now params)
      let t := s.raiseDev code sev params
      { u with transom := { u.transom with sessions := t.transom.sessions }, od := t.od, sent := t.sent } :=
  Device.foldl_deliverEvent_rest _ _ _

@[simp] theorem Device.raiseDev_power : (s.raiseDev code sev params).power = s.power := by rw [Device.raiseDev_rest]; simp
@[simp] theorem Device.raiseDev_panes : (s.raiseDev code sev params).panes = s.panes := by rw [Device.raiseDev_rest]; simp
@[simp] theorem Device.raiseDev_mem : (s.raiseDev code sev params).mem = s.mem := by rw [Device.raiseDev_rest]; simp
@[simp] theorem Device.raiseDev_log : (s.raiseDev code sev params).transom.log =
    (s.logDev sev (eventBody code sev 0xFF s.now params)).transom.log := by rw [Device.raiseDev_rest]

/-- The newest entry of OD 0x8000 is never the one that the log gives up. -/
theorem Device.mem_log_logDev : body ∈ (s.logDev sev body).transom.log := by
  have hroom : s.transom.log.length + 1 - 1024 ≤ s.transom.log.length := by omega
  unfold Device.logDev
  dsimp only
  rw [List.drop_append_of_le_length hroom]
  exact List.mem_append_right _ List.mem_cons_self

/-- A DEV event stands in OD 0x8000 once it has been raised. -/
theorem Device.eventBody_mem_log_raiseDev :
    eventBody code sev 0xFF s.now params ∈ (s.raiseDev code sev params).transom.log := by
  rw [Device.raiseDev_log]
  exact Device.mem_log_logDev ..

end Sys2Proof.Machine
end

section
/-! SUPPORT. The entries of the rate monitors and their minima (R29), the three ends of a window of a monitor (R30, log entries 79 and
163), and the refresh of a unit's view of the lintel (R37). -/

namespace Sys2Proof.Machine

/-! ## The entries of OD 0x2040 (R29) -/

/-- OD 0x2040 reads the reported rates and nothing else of the module. -/
theorem Device.rateEntry_congr {s t : Device} (h : t.power.rates = s.power.rates) (sub : Nat) : t.rateEntry sub = s.rateEntry sub := by
  unfold Device.rateEntry Device.lowestRate
  rw [h]

/-- Sub-indices 0x01 to 0x10 are the monitors' own entries (Table 02-1). -/
theorem Device.rateEntry_monitor (s : Device) {monitor : Nat} (h : monitor < 16) :
    s.rateEntry (monitor + 1) = SMap.get s.power.rates monitor 0 := by
  unfold Device.rateEntry
  split
  · omega
  · omega
  · omega
  · rfl

theorem Device.lowestRate_eq_min? (s : Device) (monitors : List Nat) :
    s.lowestRate monitors = (monitors.filterMap (SMap.find s.power.rates)).min?.getD 0 := by
  unfold Device.lowestRate
  cases monitors.filterMap (SMap.find s.power.rates) with
  | nil => rfl
  | cons r rest =>
    rw [List.min?_cons']
    simp only [List.head?_cons, Option.map_some, Option.getD_some, List.foldl_cons]
    rw [show Nat.min r r = r from Nat.min_self r]

/-- The lowest rate is at most the rate of each monitor that has reported. -/
theorem Device.lowestRate_le (s : Device) {monitors : List Nat} {k r : Nat} (hk : k ∈ monitors)
    (hr : SMap.find s.power.rates k = some r) : s.lowestRate monitors ≤ r := by
  rw [Device.lowestRate_eq_min?]
  exact List.min?_getD_le_of_mem (List.mem_filterMap.2 ⟨k, hk, hr⟩)

/-- Once a monitor has reported, the lowest rate is one that a monitor has reported. -/
theorem Device.lowestRate_reported (s : Device) {monitors : List Nat} {k r : Nat} (hk : k ∈ monitors)
    (hr : SMap.find s.power.rates k = some r) : ∃ j ∈ monitors, SMap.find s.power.rates j = some (s.lowestRate monitors) := by
  obtain ⟨low, hlow⟩ := Option.isSome_iff_exists.1 (List.isSome_min?_of_mem (List.mem_filterMap.2 ⟨k, hk, hr⟩))
  rw [Device.lowestRate_eq_min?, hlow]
  exact List.mem_filterMap.1 (List.min?_mem hlow)

/-! ## A window of a monitor (R29, R30) -/

/-- The module with a monitor's rate reported. -/
def Device.reported (s : Device) (monitor khz : Nat) : Device :=
  { s with power := { s.power with rates := SMap.put s.power.rates monitor khz } }

/-- The windows since the device minimum fell below the threshold of RATE_LOW, the window of now among them. -/
def Device.lowRun (s : Device) : Nat := s.now / 10000 - s.power.rateSince.getD (s.now / 10000) + 1

/-- The window of now is the one at which RATE_LOW is raised: the tenth of an excursion, or a later one. -/
def Device.raisesLow (s : Device) : Bool := decide (10 ≤ s.lowRun) && !s.power.rateLow

/-- The module with the window of now counted among those below the threshold. -/
def Device.countedLow (s : Device) : Device :=
  { s with power := { s.power with rateSince := some (s.power.rateSince.getD (s.now / 10000)), rateRun := s.lowRun,
                                   rateLow := s.power.rateLow || s.raisesLow } }

/-- The module with no window below the threshold, and no excursion. -/
def Device.clearedLow (s : Device) : Device :=
  { s with power := { s.power with rateSince := none, rateRun := 0, rateLow := false } }

/-- RATE_LOW is raised with the lowest-numbered monitor that reads the device minimum. -/
def Device.raiseRateLow (s : Device) : Device := s.raiseDev 0x2001 1 [(s.slowest, 1), (s.rateEntry 0x13, 4)]

/-- The module after a window of a monitor: its rate reported, and the device minimum judged. -/
def Device.windowed (s : Device) (monitor khz : Nat) : Device :=
  let t := s.reported monitor khz
  if t.odGet 0 0x2041 0 ≤ t.rateEntry 0x13 then t.clearedLow
  else if t.raisesLow then t.countedLow.raiseRateLow else t.countedLow

theorem exec_rateMonitorWindow {monitor khz : Nat} (s : State) (hm : monitor < 16) (hk : khz < 2 ^ 32) :
    exec (.rateMonitorWindow monitor khz) s = .next { s with toDevice := s.windowed monitor khz } := by
  have hkhz : min khz (2 ^ 32 - 1) = khz := by omega
  show execRateMonitorWindow monitor khz s = _
  refine onDevice_next ?_
  rw [if_neg (by omega), hkhz, Device.windowed, apply_ite Host.Outcome.next]
  rfl

section Window

variable (s : Device) (monitor khz : Nat)

theorem Device.windowed_above (h : s.odGet 0 0x2041 0 ≤ (s.reported monitor khz).rateEntry 0x13) :
    s.windowed monitor khz = (s.reported monitor khz).clearedLow := if_pos h

theorem Device.windowed_below (h : (s.reported monitor khz).rateEntry 0x13 < s.odGet 0 0x2041 0) :
    s.windowed monitor khz = if s.raisesLow then (s.reported monitor khz).countedLow.raiseRateLow
      else (s.reported monitor khz).countedLow := if_neg (Nat.not_le.2 h)

/-- A window changes the monitor's rate, what RATE_LOW goes by, and what its event changes. -/
theorem Device.windowed_frame :
    (s.windowed monitor khz).mem = s.mem ∧ (s.windowed monitor khz).panes = s.panes
      ∧ (s.windowed monitor khz).power.rates = SMap.put s.power.rates monitor khz := by
  unfold Device.windowed
  dsimp only
  split
  · exact ⟨rfl, rfl, rfl⟩
  · split
    · simp only [Device.raiseRateLow, Device.raiseDev_mem, Device.raiseDev_panes, Device.raiseDev_power]
      exact ⟨rfl, rfl, rfl⟩
    · exact ⟨rfl, rfl, rfl⟩

/-- The judgement and its event leave the rates as they were reported. -/
theorem Device.windowed_rateEntry (sub : Nat) :
    (s.windowed monitor khz).rateEntry sub = (s.reported monitor khz).rateEntry sub :=
  Device.rateEntry_congr (s.windowed_frame monitor khz).2.2 sub

/-- A device minimum at the threshold or above ends the excursion. -/
theorem Device.windowed_of_threshold_le (h : s.odGet 0 0x2041 0 ≤ (s.windowed monitor khz).rateEntry 0x13) :
    (s.windowed monitor khz).power.rateSince = none ∧ (s.windowed monitor khz).power.rateLow = false
      ∧ (s.windowed monitor khz).transom = s.transom := by
  rw [Device.windowed_rateEntry] at h
  rw [Device.windowed_above s monitor khz h]
  exact ⟨rfl, rfl, rfl⟩

/-- A device minimum below the threshold counts the window of now. -/
theorem Device.windowed_counts (h : (s.windowed monitor khz).rateEntry 0x13 < s.odGet 0 0x2041 0) :
    (s.windowed monitor khz).power.rateSince = some (s.power.rateSince.getD (s.now / 10000))
      ∧ (s.windowed monitor khz).power.rateRun = s.lowRun := by
  rw [Device.windowed_rateEntry] at h
  rw [Device.windowed_below s monitor khz h]
  split
  · rw [Device.raiseRateLow, Device.raiseDev_power]
    exact ⟨rfl, rfl⟩
  · exact ⟨rfl, rfl⟩

/-- A window of a short run, or of an excursion whose event has been raised, raises nothing. -/
theorem Device.windowed_quiet (h : (s.windowed monitor khz).rateEntry 0x13 < s.odGet 0 0x2041 0)
    (hquiet : s.lowRun < 10 ∨ s.power.rateLow = true) :
    (s.windowed monitor khz).transom = s.transom ∧ (s.windowed monitor khz).power.rateLow = s.power.rateLow := by
  have hraise : s.raisesLow = false := by
    rcases hquiet with hshort | hraised
    · simp [Device.raisesLow, Nat.not_le.2 hshort]
    · simp [Device.raisesLow, hraised]
  rw [Device.windowed_rateEntry] at h
  rw [Device.windowed_below s monitor khz h, hraise]
  refine ⟨rfl, ?_⟩
  show (s.power.rateLow || s.raisesLow) = s.power.rateLow
  rw [hraise, Bool.or_false]

/-- The tenth window of an excursion raises RATE_LOW with a monitor and the device minimum. -/
theorem Device.windowed_raises (h : (s.windowed monitor khz).rateEntry 0x13 < s.odGet 0 0x2041 0)
    (hrun : 10 ≤ s.lowRun) (hfirst : s.power.rateLow = false) :
    (s.windowed monitor khz).power.rateLow = true
      ∧ ∃ m, eventBody 0x2001 1 0xFF s.now [(m, 1), ((s.windowed monitor khz).rateEntry 0x13, 4)]
          ∈ (s.windowed monitor khz).transom.log := by
  have hraise : s.raisesLow = true := by simp [Device.raisesLow, hrun, hfirst]
  rw [Device.windowed_rateEntry] at h ⊢
  rw [Device.windowed_below s monitor khz h, if_pos hraise, Device.raiseRateLow]
  refine ⟨?_, (s.reported monitor khz).countedLow.slowest, Device.eventBody_mem_log_raiseDev ..⟩
  rw [Device.raiseDev_power]
  show (s.power.rateLow || s.raisesLow) = true
  rw [hraise, Bool.or_true]

end Window

/-! ## The rates after a report -/

section Report

variable {s t : Device} {monitor khz : Nat} (hrates : t.power.rates = SMap.put s.power.rates monitor khz)

include hrates

theorem Device.rateEntry_of_report (hm : monitor < 16) : t.rateEntry (monitor + 1) = khz := by
  rw [Device.rateEntry_monitor t hm, hrates, SMap.get_put_same]

theorem Device.rateEntry_of_report_other {k : Nat} (hk : k < 16) (h : k ≠ monitor) :
    t.rateEntry (k + 1) = s.rateEntry (k + 1) := by
  rw [Device.rateEntry_monitor t hk, Device.rateEntry_monitor s hk, hrates, SMap.get_put_other _ _ _ h]

/-- After a report, the device minimum is a rate that a monitor has reported. -/
theorem Device.minimum_of_report (hm : monitor < 16) : ∃ k, k < 16 ∧ SMap.find t.power.rates k = some (t.rateEntry 0x13) := by
  have hfind : SMap.find t.power.rates monitor = some khz := by rw [hrates, SMap.find_put_same]
  obtain ⟨k, hk, hlow⟩ := t.lowestRate_reported (List.mem_range.2 hm) hfind
  exact ⟨k, List.mem_range.1 hk, hlow⟩

end Report

/-! ## A unit's view of the lintel (R37) -/

/-- The module with a unit's view of the lintel refreshed. -/
def Device.refreshed (s : Device) (unit : Nat) : Device :=
  { s with lintel := { s.lintel with views := SMap.put s.lintel.views unit (Nat.max (s.view unit) (s.now - viewLag unit)) } }

theorem exec_lintelViewRefresh {unit : Nat} (s : State) (h : unit ≤ 340) :
    exec (.lintelViewRefresh unit) s = .next { s with toDevice := s.refreshed unit } := by
  show execLintelViewRefresh unit s = _
  exact onDevice_next (if_neg (Nat.not_lt.2 h))

theorem viewLag_le (unit : Nat) : viewLag unit ≤ 24 := Nat.lt_succ_iff.1 (Nat.mod_lt _ (by decide))

theorem Device.view_refreshed (s : Device) (unit : Nat) :
    (s.refreshed unit).view unit = max (s.view unit) (s.now - viewLag unit) := SMap.get_put_same ..

theorem Device.view_refreshed_other (s : Device) {unit k : Nat} (h : k ≠ unit) : (s.refreshed unit).view k = s.view k :=
  SMap.get_put_other _ _ _ h

/-- A view that has not run ahead of the primary lies between its lag and the primary once refreshed. -/
theorem Device.view_refreshed_bounds (s : Device) {unit : Nat} (h : s.view unit ≤ s.now) :
    (s.refreshed unit).view unit ≤ s.now ∧ s.now ≤ (s.refreshed unit).view unit + 24 := by
  have hlag := viewLag_le unit
  rw [Device.view_refreshed]
  omega

/-! ## The statement -/

/-- Settles O29: a window's clauses follow from the reported rates and from which side of the threshold the device minimum falls on, a
view's from the greater of its old value and the lagged primary. -/
theorem monitorsAndViews : Obligations.MonitorsAndViews := by
  unfold Obligations.MonitorsAndViews
  constructor
  · intro monitor khz s hm hk
    obtain ⟨hmem, hpanes, hrates⟩ := s.windowed_frame monitor khz
    refine ⟨_, exec_rateMonitorWindow s hm hk, rfl, hmem, hpanes, Device.rateEntry_of_report hrates hm,
      fun k hk16 hne => Device.rateEntry_of_report_other hrates hk16 hne, ?_⟩
    refine ⟨fun k r hk16 hr => Device.lowestRate_le _ (List.mem_range.2 hk16) hr, Device.minimum_of_report hrates hm,
      s.windowed_of_threshold_le monitor khz, fun hlow => ?_⟩
    obtain ⟨hsince, hrun⟩ := s.windowed_counts monitor khz hlow
    exact ⟨hsince, hrun, s.windowed_quiet monitor khz hlow, s.windowed_raises monitor khz hlow⟩
  · intro unit s hunit
    refine ⟨_, exec_lintelViewRefresh s hunit, rfl, ?_, s.view_refreshed_bounds, fun k hk => s.view_refreshed_other hk, rfl⟩
    exact Nat.le_trans (Nat.le_max_left _ _) (Nat.le_of_eq (s.view_refreshed unit).symm)

end Sys2Proof.Machine
end

section
/-! SUPPORT. What a packet that leaves its unit changes and where it is then (R209, R301, R303), the answer of a request (R296), and what a row
does with a packet that has arrived (R231). -/

namespace Sys2Proof.Machine

/-! ## A list cut into pieces -/

theorem ceilDiv_pos {n d : Nat} (hn : 0 < n) (hd : 0 < d) : 0 < ceilDiv n d := Nat.div_pos (by omega) hd

theorem pieces_ne_nil {α : Type} {n fuel : Nat} {l : List α} (hf : 0 < fuel) (hl : l ≠ []) : pieces n fuel l ≠ [] := by
  obtain ⟨k, rfl⟩ := Nat.exists_eq_add_of_lt hf
  have hempty : l.isEmpty = false := by simpa using hl
  simp [pieces, hempty]

/-- A packet takes at least one block. -/
theorem packetBlocks_ne_nil (p : Packet) : packetBlocks p ≠ [] := by
  have hslots : 0 < slotsOfPacket p := by unfold slotsOfPacket; omega
  have hcells : 0 < ceilDiv (slotsOfPacket p) 4 := ceilDiv_pos hslots (by decide)
  have hbytes : padTo (128 * ceilDiv (slotsOfPacket p) 4) 0 (packetSlots p).flatten ≠ [] := by
    intro h
    have hlen := congrArg List.length h
    simp only [padTo, List.length_append, List.length_replicate, List.length_nil] at hlen
    omega
  simpa [packetBlocks] using
    pieces_ne_nil (n := 4) (ceilDiv_pos hcells (by decide)) (by simpa using pieces_ne_nil (n := 128) hcells hbytes)

/-! ## A packet leaves by a door -/

/-- A packet that leaves a door changes the doors and what has been sent. -/
theorem Device.sendPacket_rest (s : Device) (door : Nat) (p : Packet) :
    s.sendPacket door p = { s with fabric := { s.fabric with doors := (s.sendPacket door p).fabric.doors },
                                   sent := (s.sendPacket door p).sent } :=
  foldl_keeps (fun t : Device => t = { s with fabric := { s.fabric with doors := t.fabric.doors }, sent := t.sent })
    _ _ s rfl (fun t bi h => by
      rw [h]
      rfl)

/-- What has been sent stays sent. -/
theorem Device.mem_sent_sendPacket {s : Device} {e : Emission} (door : Nat) (p : Packet) (h : e ∈ s.sent) :
    e ∈ (s.sendPacket door p).sent :=
  foldl_keeps (fun t : Device => e ∈ t.sent) _ _ s h (fun _ _ ht => List.mem_append_left _ ht)

/-- A packet that leaves a door is on its way: the last of its blocks carries it. -/
theorem Device.onItsWay_sendPacket (s : Device) (door : Nat) (p : Packet) : OnItsWay (s.sendPacket door p) p := by
  obtain ⟨rest, last, hblocks⟩ : ∃ rest last, packetBlocks p = rest ++ [last] :=
    ⟨_, _, (List.dropLast_concat_getLast (packetBlocks_ne_nil p)).symm⟩
  refine .inr (.inr ?_)
  unfold Device.sendPacket
  simp only [hblocks, List.zipIdx_append, List.foldl_append, List.zipIdx_cons, List.zipIdx_nil, List.foldl_cons,
    List.foldl_nil, List.length_append, List.length_singleton, Nat.zero_add, ↓reduceIte]
  exact ⟨_, _, _, _, _, List.mem_append_right _ (List.mem_singleton.2 rfl), List.mem_singleton.2 rfl,
    List.mem_append_right _ (List.mem_singleton.2 rfl)⟩

/-- The departure of a waiting packet changes the fabric, the counts of OD 0x6150 and what has been sent. -/
theorem Device.depart_rest (s : Device) (w : Nat × Packet) (door part : Nat) :
    s.depart w door part =
      { s with fabric := (s.depart w door part).fabric, use := (s.depart w door part).use, sent := (s.depart w door part).sent } := by
  unfold Device.depart
  dsimp only
  rw [Device.sendPacket_rest]
  split <;> rfl

theorem Device.depart_waiting (s : Device) (w : Nat × Packet) (door part : Nat) :
    (s.depart w door part).fabric.waiting = s.fabric.waiting.erase w ∧ (s.depart w door part).fabric.arrived = s.fabric.arrived := by
  unfold Device.depart
  dsimp only
  rw [Device.sendPacket_rest]
  split <;> exact ⟨rfl, rfl⟩

/-- A departure keeps every packet on its way: the one that departs leaves in blocks, and the others stay as they are. -/
theorem Device.onItsWay_depart {s : Device} {p : Packet} (w : Nat × Packet) (door part : Nat) (h : OnItsWay s p) :
    OnItsWay (s.depart w door part) p := by
  obtain ⟨hwaiting, harrived⟩ := s.depart_waiting w door part
  rcases h with harr | ⟨n, hwait⟩ | ⟨d, b, back, nak, crc, hsent, hb⟩
  · exact .inl (harrived ▸ harr)
  · by_cases hw : (n, p) = w
    · subst hw
      exact Device.onItsWay_sendPacket ..
    · exact .inr (.inl ⟨n, hwaiting ▸ (List.mem_erase_of_ne hw).2 hwait⟩)
  · refine .inr (.inr ⟨d, b, back, nak, crc, Device.mem_sent_sendPacket _ _ ?_, hb⟩)
    dsimp only
    split <;> exact hsent

theorem Device.drainWaiting_rest (fuel : Nat) (s : Device) :
    s.drainWaiting fuel =
      { s with fabric := (s.drainWaiting fuel).fabric, use := (s.drainWaiting fuel).use, sent := (s.drainWaiting fuel).sent } := by
  induction fuel generalizing s with
  | zero => rfl
  | succ fuel ih =>
    unfold Device.drainWaiting
    split
    · rfl
    · rw [ih, Device.depart_rest]

theorem Device.onItsWay_drainWaiting (fuel : Nat) {s : Device} {p : Packet} (h : OnItsWay s p) :
    OnItsWay (s.drainWaiting fuel) p := by
  induction fuel generalizing s with
  | zero => exact h
  | succ fuel ih =>
    unfold Device.drainWaiting
    split
    · exact h
    · exact ih (Device.onItsWay_depart _ _ _ h)

/-! ## A packet leaves its unit -/

variable (s : Device)

/-- A packet that leaves its unit changes the fabric, the counts of OD 0x6150 and what has been sent. -/
theorem Device.post_rest (p : Packet) :
    s.post p = { s with fabric := (s.post p).fabric, use := (s.post p).use, sent := (s.post p).sent } := by
  unfold Device.post Device.flushWaiting
  split
  · rfl
  · rw [Device.drainWaiting_rest]

/-- A packet is on its way once it has left its unit (R209). -/
theorem Device.onItsWay_post (p : Packet) : OnItsWay (s.post p) p := by
  unfold Device.post Device.flushWaiting
  split
  · exact .inl (List.mem_append_right _ (List.mem_singleton.2 rfl))
  · exact Device.onItsWay_drainWaiting _ (.inr (.inl ⟨s.now, List.mem_append_right _ (List.mem_singleton.2 rfl)⟩))

/-! ## A request's response -/

variable (p : Packet) (type status : Nat) (data : List Byte) (poison : List Nat)

@[simp] theorem Device.respond_mem : (s.respond p type status data poison).mem = s.mem := by
  rw [Device.respond, Device.post_rest]

/-- A response answers its request (R296). -/
theorem Device.answered_respond : Answered (s.respond p type status data poison) p type status data := by
  unfold Device.respond
  exact ⟨{ type, vc := 1, dst := p.src, src := s.chip, job := p.job, tid := p.tid, dlen := ceilDiv data.length 32,
           sz := p.sz, status, space := p.space, taddr := p.taddr, data, poison },
         rfl, rfl, rfl, rfl, rfl, rfl, rfl, s.onItsWay_post _⟩

/-! ## A packet that has arrived -/

/-- What returns a door's freed slots changes the doors and what has been sent (R301). -/
theorem Device.returnCredits_rest (door : Nat) :
    s.returnCredits door = { s with fabric := { s.fabric with doors := (s.returnCredits door).fabric.doors },
                                    sent := (s.returnCredits door).sent } := by
  unfold Device.returnCredits
  dsimp only
  split
  · rw [Device.sendPacket_rest]
    rfl
  · rfl

/-- The same holds of what frees a packet's slots. -/
theorem Device.freeSlots_rest (door : Nat) :
    s.freeSlots door p = { s with fabric := { s.fabric with doors := (s.freeSlots door p).fabric.doors },
                                  sent := (s.freeSlots door p).sent } := by
  unfold Device.freeSlots
  rw [Device.returnCredits_rest]
  rfl

/-- Taking a packet changes the arrivals, the doors and what has been sent. -/
theorem Device.takeArrival_rest :
    s.takeArrival p = { s with fabric := { s.fabric with arrived := s.fabric.arrived.erase p, doors := (s.takeArrival p).fabric.doors },
                               sent := (s.takeArrival p).sent } := by
  unfold Device.takeArrival
  dsimp only
  split
  · rw [Device.freeSlots_rest]
  · rfl

variable {s p type}

/-- A packet that has arrived and that nothing holds is acted on (R231). -/
theorem packetRow_of_arrives (h : Arrives s type p) (body : Device → Packet → Device) :
    packetRow type body p s = .next (body (s.takeArrival p) p) := by
  obtain ⟨harr, rfl, haccepts, hovertakes, hstack, hheld, hedge⟩ := h
  have hpane : ¬ (((p.type ≤ 5 ∧ p.space = 1) ∧ p.taddr / 2 ^ 24 < 320) ∧ s.edgeHeld (p.taddr / 2 ^ 24) = true) := by
    rintro ⟨⟨⟨htype, hspace⟩, hpane⟩, hedged⟩
    rw [hedge htype hspace hpane] at hedged
    cases hedged
  simp only [packetRow, List.contains_eq_mem, harr, hovertakes, hstack, hheld, haccepts, decide_true, Bool.not_true, Bool.or_self,
    Bool.false_eq_true, bne_self_eq_false, Bool.and_eq_true, decide_eq_true_eq, beq_iff_eq, ↓reduceIte, if_neg hpane]

end Sys2Proof.Machine
end

section
/-! SUPPORT. What a count of the dictionary and a PART event write, and what they leave of the module (R348). -/

namespace Sys2Proof.Machine

variable (s : Device)

/-! ## Counts of the dictionary -/

/-- A count of the dictionary leaves every entry of another key. -/
theorem Device.odGet_odCount_other {part index sub row part' index' sub' row' : Nat} (n : Nat)
    (h : odKey part index sub row ≠ odKey part' index' sub' row') :
    (s.odCount part' index' sub' row' n).odGet part index sub row = s.odGet part index sub row :=
  SMap.get_keep_other _ _ _ _ h

/-- A count raises its own entry, up to its width. -/
theorem Device.odGet_odCount (part index sub row n : Nat) :
    (s.odCount part index sub row n).odGet part index sub row = min (s.odGet part index sub row + n) (2 ^ 64 - 1) :=
  Device.odGet_odSet ..

@[simp] theorem Device.part_odCount (part index sub row n k : Nat) : (s.odCount part index sub row n).part k = s.part k := rfl

/-! ## A PART event (R348) -/

/-- The newest of a log's rows is never one that the log gives up. -/
theorem mem_append_drop {α : Type} (l : List α) (a : α) {n : Nat} (hn : 0 < n) : a ∈ (l ++ [a]).drop (l.length + 1 - n) := by
  rw [List.drop_append_of_le_length (by omega)]
  exact List.mem_append_right _ List.mem_cons_self

section Event

variable (part code sev : Nat) (params : List (Nat × Nat))

/-- Beside its entry in the partition's log, a PART event changes the sessions, the count of dropped events, and what is sent. -/
theorem Device.raisePart_rest :
    s.raisePart part code sev params =
      let u := s.logPart part (eventBody code sev part s.now params)
      let t := s.raisePart part code sev params
      { u with transom := { u.transom with sessions := t.transom.sessions }, od := t.od, sent := t.sent } :=
  Device.foldl_deliverEvent_rest _ _ _

@[simp] theorem Device.raisePart_panes : (s.raisePart part code sev params).panes = s.panes := by
  rw [Device.raisePart_rest]
  rfl
@[simp] theorem Device.raisePart_lintel : (s.raisePart part code sev params).lintel = s.lintel := by
  rw [Device.raisePart_rest]
  rfl

/-- A PART event stands in the partition's OD 0x8001 once it has been raised. -/
theorem Device.eventBody_mem_events_raisePart :
    eventBody code sev part s.now params ∈ ((s.raisePart part code sev params).part part).events := by
  rw [Device.raisePart_rest]
  show _ ∈ ((s.logPart part _).part part).events
  rw [Device.logPart, Device.part_modPart]
  dsimp only
  exact mem_append_drop _ _ (Nat.succ_pos 255)

variable {part code sev params}

/-- The delivery of an event changes no entry of the dictionary but the count of dropped events, OD 0x8002. -/
theorem Device.odGet_deliverEvent {index sub row : Nat} (id body : Nat) (h : odKey part index sub row ≠ odKey 0 0x8002 0 0) :
    (deliverEvent s id body).odGet part index sub row = s.odGet part index sub row := by
  unfold deliverEvent
  split
  · rfl
  · split
    · rfl
    · split
      · rfl
      · exact Device.odGet_odCount_other _ 1 h

theorem Device.odGet_raisePart {p index sub row : Nat} (h : odKey p index sub row ≠ odKey 0 0x8002 0 0) :
    (s.raisePart part code sev params).odGet p index sub row = s.odGet p index sub row :=
  foldl_keeps (fun t : Device => t.odGet p index sub row = s.odGet p index sub row) _ _ _ rfl
    (fun t kv ht => (Device.odGet_deliverEvent t kv.1 _ h).trans ht)

end Event

end Sys2Proof.Machine
end

section
/-! SUPPORT. Late replies (R230): the row of the late log, and what a reply to an operation that has timed out leaves. -/

namespace Sys2Proof.Machine

/-! ## The row of the late log (Table 15-14) -/

section Row

variable {o : RemOp} (hkind : o.kind < 256) (now : Nat)

include hkind in
theorem lateRow_div (haddr : o.faddr < 2 ^ 64) : lateRow o now / 2 ^ 128 = now := by
  unfold lateRow stLate
  omega

include hkind in
theorem lateRow_status (haddr : o.faddr < 2 ^ 64) : fld (lateRow o now) 72 8 = stLate := by
  unfold fld lateRow stLate
  omega

theorem lateRow_address (haddr : o.faddr < 2 ^ 64) : fld (lateRow o now) 0 64 = o.faddr := by
  unfold fld lateRow stLate
  omega

end Row

/-! ## What a late reply does (R230) -/

/-- What R230 asks of a late reply to an operation: nothing is written, and the reply is counted and logged. -/
def LateFor (o : RemOp) (s t : Device) : Prop :=
  t.mem = s.mem ∧ t.panes = s.panes ∧ (∀ d, t.op? d = s.op? d)
    ∧ t.odGet o.part 0x6130 3 = min (s.odGet o.part 0x6130 3 + 1) (2 ^ 64 - 1)
    ∧ ∃ row ∈ (t.part o.part).late, fld row 72 8 = stLate ∧ fld row 0 64 = o.faddr ∧ row / 2 ^ 128 = s.now

section Late

variable {s : Device} {p : Packet} {o : RemOp} (hexpired : SMap.find s.fabric.expired p.tid = some o)
  (haddr : o.faddr < 2 ^ 64) (hkind : o.kind < 256)

include hexpired haddr hkind

theorem Device.lateReply_lateFor : LateFor o s (s.lateReply p) := by
  simp only [Device.lateReply, hexpired]
  refine ⟨rfl, rfl, fun _ => rfl, Device.odGet_odCount .., lateRow o s.now, ?_, lateRow_status hkind _ haddr,
    lateRow_address _ haddr, lateRow_div hkind _ haddr⟩
  rw [Device.part_odCount, Device.part_modPart]
  exact mem_append_drop _ _ (Nat.succ_pos 63)

variable (hdone : s.op? p.tid = none)

include hdone

/-- A reply of any type is late when its operation has completed with TIMEOUT. -/
theorem Device.takeArrival_onOp_late (k : RemOp → Device) : LateFor o s ((s.takeArrival p).onOp p k) := by
  have hop : (s.takeArrival p).op? p.tid = none := by
    rw [Device.takeArrival_rest]
    exact hdone
  have hlate : LateFor o (s.takeArrival p) ((s.takeArrival p).lateReply p) := by
    refine Device.lateReply_lateFor ?_ haddr hkind
    rw [Device.takeArrival_rest]
    exact hexpired
  unfold Device.onOp
  rw [hop]
  rw [Device.takeArrival_rest] at hlate ⊢
  exact hlate

end Late

/-- A row of a reply's type makes what its body leaves of the packet taken. -/
theorem makes_onDevice {i : Instr} {s : State} {f : Device → Host.Outcome Device Fault Refusal} {d : Device} {P : Device → Prop}
    (hexec : exec i s = onDevice s f) (hf : f s.toDevice = .next d) (hP : P d) : Makes i s P :=
  ⟨{ s with toDevice := d }, by rw [hexec, onDevice_next hf], rfl, hP⟩

/-- Settles O25: each of the four reply types runs `onOp`, and without its operation in flight that is `lateReply`. -/
theorem lateReplies : Obligations.LateReplies := by
  unfold Obligations.LateReplies
  intro p s o hdone hexpired haddr hkind
  have hlate (k : RemOp → Device) : LateFor o s.toDevice ((s.takeArrival p).onOp p k) :=
    Device.takeArrival_onOp_late hexpired haddr hkind hdone k
  exact ⟨fun h => makes_onDevice rfl (packetRow_of_arrives h _) (hlate _), fun h => makes_onDevice rfl (packetRow_of_arrives h _) (hlate _),
    fun h => makes_onDevice rfl (packetRow_of_arrives h _) (hlate _), fun h => makes_onDevice rfl (packetRow_of_arrives h _) (hlate _)⟩

end Sys2Proof.Machine
end

section
/-! SUPPORT. Reading back a store of bytes, what a placement rests on (R155), and the write of a good sector of a pool of one copy (R162, R163). -/

namespace Sys2Proof.Machine

/-! ## A store of bytes, read back -/

/-- A run of writes to keys of their own: each key holds what its write put there. -/
theorem SMap.get_foldl_keep_zipIdx {α : Type} [DecidableEq α] (l : List α) (key : Nat → Nat) (d : α) (n : Nat) (m : SMap α)
    (hkey : ∀ i j, key i = key j → i = j) (i : Nat) (hi : i < l.length) :
    SMap.get ((l.zipIdx n).foldl (fun m bi => SMap.keep m (key bi.2) bi.1 d) m) (key (n + i)) d = l[i] := by
  induction l generalizing n i m with
  | nil => simp at hi
  | cons b rest ih =>
    rw [List.zipIdx_cons, List.foldl_cons]
    cases i with
    | zero =>
      rw [SMap.get_foldl_keep_other _ (fun bi : α × Nat => key bi.2) Prod.fst]
      · exact SMap.get_keep_same ..
      · intro bi hbi heq
        have hle := List.le_snd_of_mem_zipIdx hbi
        have := hkey _ _ heq
        omega
    | succ k =>
      have hk : k < rest.length := Nat.lt_of_succ_lt_succ hi
      have hnext : n + (k + 1) = n + 1 + k := by omega
      rw [hnext, ih (n + 1) _ k hk]
      rfl

section Bytes

variable (s : Device) (part pool copy off : Nat) (data : List Byte)

/-- A byte of a store reads as it was stored. -/
theorem Device.byteAt_putBytes {i : Nat} (hi : i < data.length) :
    (s.putBytes part pool copy off data).byteAt part pool copy (off + i) = data[i] := by
  have h := SMap.get_foldl_keep_zipIdx data (fun i => memKey part pool copy (off + i)) 0 0 s.mem.bytes
    (fun i j hij => by unfold memKey at hij; omega) i hi
  rwa [Nat.zero_add] at h

/-- Part of a store reads as it was stored. -/
theorem Device.bytesAt_putBytes {d n : Nat} (h : d + n ≤ data.length) :
    (s.putBytes part pool copy off data).bytesAt part pool copy (off + d) n = (data.drop d).take n := by
  refine List.ext_getElem ?_ fun i h1 h2 => ?_
  · simp [Device.bytesAt]
    omega
  · have hi : d + i < data.length := by
      simp only [List.length_take, List.length_drop] at h2
      omega
    simp only [Device.bytesAt, List.getElem_map, List.getElem_range, List.getElem_take, List.getElem_drop, Nat.add_assoc]
    exact s.byteAt_putBytes part pool copy off data hi

/-- Bytes beside a store of the same copy read as before. -/
theorem Device.bytesAt_putBytes_other {o n : Nat} (h : o + n ≤ off ∨ off + data.length ≤ o) :
    (s.putBytes part pool copy off data).bytesAt part pool copy o n = s.bytesAt part pool copy o n := by
  refine List.map_congr_left fun i hi => ?_
  have hi : i < n := List.mem_range.1 hi
  refine Device.putBytes_other ?_
  unfold memKey
  omega

/-- Bytes of a read are the read of those bytes. -/
theorem Device.drop_take_bytesAt {d n len : Nat} (h : d + n ≤ len) :
    ((s.bytesAt part pool copy off len).drop d).take n = s.bytesAt part pool copy (off + d) n := by
  refine List.ext_getElem ?_ fun i h1 h2 => ?_
  · simp [Device.bytesAt]
    omega
  · simp [Device.bytesAt, Nat.add_assoc]

end Bytes

/-! ## What a placement rests on -/

/-- The stacks, the pools and the placement keys are the same, so that every byte lies where it lay. -/
structure Device.SamePlaces (s t : Device) : Prop where
  stackAt : t.stackAt = s.stackAt
  pools (k : Nat) : (t.part k).pools = (s.part k).pools
  placeKey (k : Nat) : (t.part k).placeKey = (s.part k).placeKey

namespace Device.SamePlaces

variable {s t u : Device}

theorem refl (s : Device) : s.SamePlaces s := ⟨rfl, fun _ => rfl, fun _ => rfl⟩

theorem trans (a : s.SamePlaces t) (b : t.SamePlaces u) : s.SamePlaces u :=
  ⟨b.stackAt.trans a.stackAt, fun k => (b.pools k).trans (a.pools k), fun k => (b.placeKey k).trans (a.placeKey k)⟩

/-- A change of one partition that leaves its pools and its placement key. -/
theorem setPart (s : Device) {k : Nat} {x : Partition} (hpools : x.pools = (s.part k).pools) (hkey : x.placeKey = (s.part k).placeKey) :
    s.SamePlaces (s.setPart k x) := by
  refine ⟨rfl, fun j => ?_, fun j => ?_⟩
  all_goals
    by_cases hj : j = k
    · subst hj
      rw [Device.part_setPart]
      assumption
    · rw [Device.part_setPart_other _ _ hj]

theorem pool? (h : s.SamePlaces t) (part pool : Nat) : t.pool? part pool = s.pool? part pool := by
  unfold Device.pool?
  rw [h.pools]

theorem copies (h : s.SamePlaces t) (part pool : Nat) : t.copies part pool = s.copies part pool := by
  unfold Device.copies
  rw [h.pool?]

theorem place (h : s.SamePlaces t) (part pool copy off : Nat) : t.place part pool copy off = s.place part pool copy off := by
  unfold Device.place
  rw [h.pool?]
  cases s.pool? part pool with
  | none => rfl
  | some p =>
    unfold Partition.place
    rw [h.placeKey]

theorem deadAt (h : s.SamePlaces t) (part pool copy off : Nat) : t.deadAt part pool copy off = s.deadAt part pool copy off := by
  unfold Device.deadAt Device.channelOf Device.stack
  rw [h.place, h.stackAt]

end Device.SamePlaces

/-! ## A write of a good sector of a pool of one copy -/

/-- Nothing differs that a placement, a held piece or a timer rests on. -/
structure Device.Steady (s t : Device) : Prop where
  places : s.SamePlaces t
  lintel : t.lintel = s.lintel
  held : t.mem.held = s.mem.held

namespace Device.Steady

variable {s t u : Device}

theorem refl (s : Device) : s.Steady s := ⟨.refl s, rfl, rfl⟩

theorem trans (a : s.Steady t) (b : t.Steady u) : s.Steady u :=
  ⟨a.places.trans b.places, b.lintel.trans a.lintel, b.held.trans a.held⟩

theorem of_beside (h : s.Beside t) : s.Steady t := by
  rw [h.1]
  exact ⟨⟨rfl, fun _ => rfl, fun _ => rfl⟩, rfl, rfl⟩

/-- A change of other parts of the module than these. -/
theorem of_eq (hparts : t.parts = s.parts) (hstack : t.stackAt = s.stackAt) (hlintel : t.lintel = s.lintel)
    (hheld : t.mem.held = s.mem.held) : s.Steady t := by
  refine ⟨⟨hstack, fun k => ?_, fun k => ?_⟩, hlintel, hheld⟩
  all_goals
    unfold Device.part
    rw [hparts]

theorem setPart {k : Nat} {x : Partition} (hpools : x.pools = (s.part k).pools) (hkey : x.placeKey = (s.part k).placeKey) :
    s.Steady (s.setPart k x) := ⟨.setPart s hpools hkey, rfl, rfl⟩

theorem odCount {part index sub row n : Nat} (h : s.Steady t) : s.Steady (t.odCount part index sub row n) :=
  h.trans (.of_eq rfl rfl rfl rfl)

theorem serve {part row bytes waited : Nat} (h : s.Steady t) : s.Steady (t.serve part row bytes waited) :=
  h.trans (.of_eq rfl rfl rfl rfl)

theorem emit {e : Emission} (h : s.Steady t) : s.Steady (t.emit e) := h.trans (.of_eq rfl rfl rfl rfl)

end Device.Steady

section Write

variable (s : Device) (part pool off : Nat)

theorem Device.firstTouch_steady : s.Steady (s.firstTouch part pool off) := by
  unfold Device.firstTouch
  dsimp only
  split
  · split
    · exact .serve (.odCount (.setPart rfl rfl))
    · exact .emit (.serve (.serve (.odCount (.setPart rfl rfl))))
  · exact .refl s

theorem Device.clearLost_steady (len : Nat) : s.Steady (s.clearLost part pool off len) := by
  unfold Device.clearLost
  dsimp only
  split
  · exact .refl s
  · exact .setPart rfl rfl

/-- A write of one sector has stored its bytes, and a reader finds the rest of memory as it was. -/
structure Device.Stored (s t : Device) (part pool off : Nat) (data : List Byte) : Prop where
  steady : s.Steady t
  memory : (s.putBytes part pool 0 off data).mem.Same t.mem

variable {s}

/-- A good mark that is made again is the same to a reader. -/
theorem MemSt.same_mark {m : MemSt} {key : Nat} (h : m.marked key = false) : m.Same (m.mark key false) := by
  refine ⟨by unfold MemSt.mark; split <;> rfl, fun hwf => ?_⟩
  rw [Memory.wf_iff] at hwf
  obtain ⟨hbytes, hpoison, hbuffer⟩ := hwf
  have hmarked (k : Nat) : (m.mark key false).marked k = m.marked k := by
    by_cases hk : k = key
    · subst hk
      rw [MemSt.marked_mark, h]
    · exact MemSt.marked_mark_other m false hk
  have hagrees (k : Nat) (hk : m.agrees k) : (m.mark key false).agrees k := by
    unfold MemSt.mark MemSt.agrees at *
    split
    · by_cases he : k = key
      · subst he
        simp
      · simpa only [SMap.find_put_other _ _ he] using hk
    · next hnone =>
      rw [Option.not_isSome_iff_eq_none] at hnone
      by_cases he : k = key
      · subst he
        simp [hnone]
      · simpa only [SMap.get_keep_other _ _ _ _ he] using hk
  refine ⟨(Memory.wf_iff _).2 ?_, fun k hk => ⟨hagrees k hk, hmarked k⟩⟩
  unfold MemSt.mark
  split
  · exact ⟨hbytes, hpoison, SMap.put_rising _ _ _ hbuffer⟩
  · exact ⟨hbytes, SMap.keep_wf m.poison key false false hpoison, hbuffer⟩

theorem Device.poisonAt_eq_false {copy : Nat} :
    s.poisonAt part pool copy off = false ↔ s.mem.marked (sectorKey part pool copy off) = false ∧ s.deadAt part pool copy off = false := by
  unfold Device.poisonAt
  rw [Bool.or_eq_false_iff]

variable {part pool off} {data : List Byte}

/-- A write to a good copy of a sector stores its bytes with status OK (R162). -/
theorem Device.writeCopy_stored (hgood : s.poisonAt part pool 0 off = false) :
    (s.writeCopy part pool 0 off data).2 = stOk ∧ s.Stored (s.writeCopy part pool 0 off data).1 part pool off data := by
  obtain ⟨hmark, hlive⟩ := (Device.poisonAt_eq_false part pool off).1 hgood
  unfold Device.writeCopy
  rw [hlive, hgood, if_neg Bool.false_ne_true]
  have hput : s.Stored (s.putBytes part pool 0 off data) part pool off data := ⟨.of_eq rfl rfl rfl rfl, .refl _⟩
  split
  · refine ⟨rfl, hput.steady.trans (.of_eq rfl rfl rfl ?_), MemSt.same_mark hmark⟩
    unfold Device.setPoison MemSt.mark
    dsimp only
    split <;> rfl
  · exact ⟨rfl, hput⟩

/-- A write of a good sector of a pool of one copy stores its bytes at its home copy (R162, R163). -/
theorem Device.writeSector_stored (hcopy : s.copies part pool = [0]) (halign : off % 32 = 0)
    (hgood : s.poisonAt part pool 0 off = false) (view user : Nat) :
    s.Stored (s.writeSector part pool off data view user).1 part pool off data := by
  have hbase : off / 32 * 32 = off := by omega
  have hsteady : s.Steady ((s.firstTouch part pool off).clearLost part pool off data.length) :=
    (Device.firstTouch_steady ..).trans (Device.clearLost_steady ..)
  have hmem : ((s.firstTouch part pool off).clearLost part pool off data.length).mem = s.mem := by simp
  unfold Device.writeSector
  generalize (s.firstTouch part pool off).clearLost part pool off data.length = u at hsteady hmem ⊢
  have hgood' : u.poisonAt part pool 0 off = false := by
    unfold Device.poisonAt at hgood ⊢
    rw [hmem, hsteady.places.deadAt]
    exact hgood
  obtain ⟨hok, hstored⟩ := Device.writeCopy_stored (data := data) hgood'
  dsimp only
  rw [hbase, hgood', if_neg Bool.false_ne_true]
  generalize u.writeCopy part pool 0 off data = r at hok hstored ⊢
  rw [hok, if_neg (by decide)]
  have htouch := Device.touch_beside r.1 user view (sectorKey part pool 0 off) true
  generalize r.1.touch user view (sectorKey part pool 0 off) true = v at htouch ⊢
  have hv : u.Steady v := hstored.steady.trans (.of_beside htouch)
  have hcopy' : v.copies part pool = [0] := (hv.places.copies part pool).trans ((hsteady.places.copies part pool).trans hcopy)
  have hforward (w : Option (List (Nat × Byte))) :
      v.forward user view part pool off w = { v with mem := { v.mem with nextReq := v.mem.nextReq + 1 } } := by
    refine if_pos ?_
    show (v.copies part pool).length = 1
    rw [hcopy']
    rfl
  have hput : (u.putBytes part pool 0 off data).mem = (s.putBytes part pool 0 off data).mem := by
    unfold Device.putBytes
    rw [hmem]
  rw [hforward]
  exact ⟨hsteady.trans (hv.trans (.of_eq rfl rfl rfl rfl)),
    (hput ▸ hstored.memory.trans htouch.2).trans ⟨rfl, fun hwf => ⟨hwf, fun _ hk => ⟨hk, rfl⟩⟩⟩⟩

end Write

end Sys2Proof.Machine
end

section
/-! SUPPORT. The sums of an ordered accumulate-put (R222, R224): a binary32 sum fits its word, the words of a sector, the sectors of a piece, what
follows the write (R218), and the advance of NEXT. -/

namespace Sys2Proof.Machine

/-! ## A binary32 sum fits its word -/

theorem fp32_signed_lt (neg : Bool) {mag : Nat} (h : mag < 2 ^ 31) : fp32.signed neg mag < 2 ^ 32 := by
  have hbits : fp32.eb + fp32.mb = 31 := rfl
  unfold Fmt.signed
  rw [hbits]
  split <;> omega

theorem fp32_limit_lt : fp32.limit < 2 ^ 31 := by decide

theorem overflowed_fp32_lt (rm : Rm) (neg : Bool) : overflowed fp32 rm neg < 2 ^ 32 := by
  have hieee : fp32.sp = .ieee := rfl
  have hmag (b : Bool) : (if b then fp32.limit else fp32.limit - 1) < 2 ^ 31 := by
    have hlimit := fp32_limit_lt
    split <;> omega
  unfold overflowed
  rw [hieee]
  exact fp32_signed_lt neg (hmag _)

/-- A rounded magnitude is a zero, an overflow, or a magnitude below the format's limit. -/
theorem roundFin_cases (f : Fmt) (rm : Rm) (neg : Bool) (m : Nat) (e : Int) (sticky : Bool) :
    (roundFin f rm neg m e sticky).1 = f.signed neg 0 ∨ (roundFin f rm neg m e sticky).1 = overflowed f rm neg
      ∨ ∃ mag, mag < f.limit ∧ (roundFin f rm neg m e sticky).1 = f.signed neg mag := by
  unfold roundFin
  split
  · exact .inl rfl
  · dsimp only
    split
    · exact .inr (.inl rfl)
    · next hmag => exact .inr (.inr ⟨_, Nat.lt_of_not_le hmag, rfl⟩)

theorem roundFin_fp32_lt (rm : Rm) (neg : Bool) (m : Nat) (e : Int) (sticky : Bool) : (roundFin fp32 rm neg m e sticky).1 < 2 ^ 32 := by
  rcases roundFin_cases fp32 rm neg m e sticky with h | h | ⟨mag, hmag, h⟩ <;> rw [h]
  · exact fp32_signed_lt neg (Nat.two_pow_pos 31)
  · exact overflowed_fp32_lt rm neg
  · exact fp32_signed_lt neg (Nat.lt_trans hmag fp32_limit_lt)

/-- A value rounded to binary32 is a word of 32 bits. -/
theorem roundVal_fp32_lt (rm : Rm) (v : Val) : (roundVal fp32 rm v).1 < 2 ^ 32 := by
  cases v with
  | nan =>
    have hnan : fp32.qnan < 2 ^ 32 := by decide
    exact hnan
  | inf neg => exact fp32_signed_lt neg fp32_limit_lt
  | fin neg m e => exact roundFin_fp32_lt rm neg m e false

/-- The bytes of a sum element spell it (R224). -/
theorem ofBytes_sumElement (t : Nat) (c : Val) : ofBytes (bytesOf (sumElement t c) 4) = sumElement t c := by
  rw [ofBytes_bytesOf]
  exact Nat.mod_eq_of_lt (roundVal_fp32_lt _ _)

/-! ## Words of four bytes in a row -/

/-- The bytes of word i of a row of words. -/
theorem drop_take_flatMap_range (f : Nat → List Byte) (n : Nat) (hf : ∀ i, (f i).length = 4) {i : Nat} (hi : i < n) :
    (((List.range n).flatMap f).drop (4 * i)).take 4 = f i := by
  induction n generalizing f i with
  | zero => omega
  | succ n ih =>
    rw [List.range_succ_eq_map, List.flatMap_cons, List.flatMap_map]
    cases i with
    | zero =>
      rw [Nat.mul_zero, List.drop_zero, ← hf 0, List.take_left]
    | succ k =>
      have hdrop : 4 * (k + 1) = (f 0).length + 4 * k := by
        rw [hf]
        omega
      rw [hdrop, ← List.drop_drop, List.drop_left]
      exact ih (fun i => f (i + 1)) (fun i => hf (i + 1)) (Nat.lt_of_succ_lt_succ hi)

theorem length_flatMap_range (f : Nat → List Byte) (n : Nat) (hf : ∀ i, (f i).length = 4) : ((List.range n).flatMap f).length = 4 * n := by
  induction n with
  | zero => rfl
  | succ n ih => rw [List.range_succ, List.flatMap_append, List.length_append, ih, List.flatMap_singleton, hf, Nat.mul_succ]

/-! ## The elements of a piece in its turn (R222, R224) -/

/-- The sum of an element of a piece and what its target holds. -/
def Device.sumOf (s : Device) (q : Piece) (i : Nat) : Nat :=
  let e := contributionBytes q.elt
  sumElement (ofBytes (s.bytesAt q.part q.pool 0 (q.off + 4 * i) 4)) (contributionVal q.elt (ofBytes ((q.data.drop (e * i)).take e)))

/-- The target of a piece lies in a pool of one copy and holds no poison, and its sill's buffer agrees with its stack. -/
structure Device.GoodUnder (s : Device) (q : Piece) : Prop where
  copies : s.copies q.part q.pool = [0]
  wf : Memory.wf s.mem = true
  good (i : Nat) : i < pieceBytes q →
    s.poisonAt q.part q.pool 0 (q.off + i) = false ∧ s.mem.agrees (sectorKey q.part q.pool 0 (q.off + i))

/-- The elements of a piece below an offset have been summed, and those from it on are as they were. -/
structure Device.Summed (s u : Device) (q : Piece) (a : Nat) : Prop where
  steady : s.Steady u
  good : u.GoodUnder q
  words (i : Nat) : 4 * i < pieceBytes q → u.bytesAt q.part q.pool 0 (q.off + 4 * i) 4 =
    if 4 * i < a then bytesOf (s.sumOf q i) 4 else s.bytesAt q.part q.pool 0 (q.off + 4 * i) 4

theorem Device.bytesAt_congr {s t : Device} (h : t.mem.bytes = s.mem.bytes) (part pool copy off len : Nat) :
    t.bytesAt part pool copy off len = s.bytesAt part pool copy off len := by
  unfold Device.bytesAt Device.byteAt
  rw [h]

/-- A stored sector leaves the target of a piece good. -/
theorem Device.Stored.goodUnder {s t : Device} {q : Piece} {off : Nat} {data : List Byte} (hs : s.GoodUnder q)
    (h : s.Stored t q.part q.pool off data) : t.GoodUnder q := by
  obtain ⟨hwf, hmarks⟩ := h.memory.2 (Device.putBytes_wf hs.wf)
  refine ⟨(h.steady.places.copies _ _).trans hs.copies, hwf, fun i hi => ?_⟩
  obtain ⟨hgood, hagree⟩ := hs.good i hi
  obtain ⟨hagree', hmarked⟩ := hmarks _ hagree
  refine ⟨?_, hagree'⟩
  unfold Device.poisonAt at hgood ⊢
  rw [hmarked, h.steady.places.deadAt]
  exact hgood

/-- A sill reads good bytes at the home copy. -/
theorem Device.readHome_good {s : Device} {part pool off : Nat} (h : s.poisonAt part pool 0 off = false) (len : Nat) :
    s.readHome part pool off len = some (s.bytesAt part pool 0 off len) := by
  unfold Device.readHome
  rw [h]
  rfl

section Piece

variable {s u : Device} {q : Piece} {a m : Nat}

/-- The bytes of the sums of the elements of a sector. -/
def Device.sumBytes (u : Device) (q : Piece) (a m : Nat) : List Byte :=
  (List.range (m / 4)).flatMap (fun i => bytesOf (u.sumOf q (a / 4 + i)) 4)

variable (hbad : q.bad = [])

include hbad in
/-- A good sector of a piece outside every shard is written with its sums. -/
theorem Device.applySector_sum (hgood : u.poisonAt q.part q.pool 0 (q.off + a) = false) (ha : a % 4 = 0) (user view k : Nat) :
    (u.applySector q user view false k (a, m)).1 = (u.writeSector q.part q.pool (q.off + a) (u.sumBytes q a m) view user).1 := by
  have hold (i : Nat) (hi : i < m / 4) :
      ((u.bytesAt q.part q.pool 0 (q.off + a) m).drop (4 * i)).take 4 = u.bytesAt q.part q.pool 0 (q.off + 4 * (a / 4 + i)) 4 := by
    have hoff : q.off + a + 4 * i = q.off + 4 * (a / 4 + i) := by omega
    rw [Device.drop_take_bytesAt _ _ _ _ _ (by omega), hoff]
  have hdata : ((List.range (m / 4)).map (fun i =>
      let t := ofBytes (((u.bytesAt q.part q.pool 0 (q.off + a) m).drop (4 * i)).take 4)
      let c := contributionVal q.elt (ofBytes ((q.data.drop (contributionBytes q.elt * (a / 4 + i))).take (contributionBytes q.elt)))
      if false = true then gradElement t c else sumElement t c)).flatMap (fun w => bytesOf w 4) = u.sumBytes q a m := by
    rw [List.flatMap_map, Device.sumBytes, List.flatMap_def, List.flatMap_def]
    refine congrArg List.flatten (List.map_congr_left fun i hi => ?_)
    rw [hold i (List.mem_range.1 hi)]
    rfl
  unfold Device.applySector
  simp only [hbad, List.contains_nil, Bool.false_eq_true, ↓reduceIte, Device.readHome_good hgood]
  simp only [Bool.false_eq_true, ↓reduceIte] at hdata
  rw [hdata]

/-- What a sector of a piece makes of the elements: those of the sector are summed too. -/
theorem Device.Summed.writeSector (h : s.Summed u q a) (halign : q.off % 32 = 0) (ha : a % 32 = 0) (hm : m % 4 = 0) (hpos : 0 < m)
    (hlen : a + m ≤ pieceBytes q) (view user : Nat) :
    s.Summed (u.writeSector q.part q.pool (q.off + a) (u.sumBytes q a m) view user).1 q (a + m) := by
  obtain ⟨hgood, -⟩ := h.good.good a (by omega)
  have hstored := Device.writeSector_stored (data := u.sumBytes q a m) h.good.copies (by omega) hgood view user
  have hlength : (u.sumBytes q a m).length = m := by
    rw [Device.sumBytes, length_flatMap_range _ _ (fun _ => bytesOf_length ..)]
    omega
  refine ⟨h.steady.trans hstored.steady, hstored.goodUnder h.good, fun i hi => ?_⟩
  rw [Device.bytesAt_congr hstored.memory.1]
  have hword := h.words i hi
  by_cases hin : a ≤ 4 * i ∧ 4 * i < a + m
  · have hsum : u.sumOf q i = s.sumOf q i := by
      rw [if_neg (by omega)] at hword
      unfold Device.sumOf
      rw [hword]
    have hoff : q.off + 4 * i = q.off + a + 4 * (i - a / 4) := by omega
    have hindex : a / 4 + (i - a / 4) = i := by omega
    rw [if_pos hin.2, hoff, Device.bytesAt_putBytes _ _ _ _ _ _ (by omega), Device.sumBytes,
      drop_take_flatMap_range _ _ (fun _ => bytesOf_length ..) (by omega), hindex, hsum]
  · rw [Device.bytesAt_putBytes_other _ _ _ _ _ _ (by omega), hword]
    by_cases hlow : 4 * i < a
    · rw [if_pos hlow, if_pos (by omega)]
    · rw [if_neg hlow, if_neg (by omega)]

/-- One part of a piece: the module, whether poison was met, and whether an element became non-finite. -/
def Piece.applyPart (q : Piece) (shard : Bool) (acc : Device × Bool × Bool) (oi : (Nat × Nat) × Nat) : Device × Bool × Bool :=
  let u := acc.1.applySector q q.user q.view shard oi.2 oi.1
  (u.1, acc.2.1 || u.2.1, acc.2.2 || u.2.2)

include hbad in
/-- The parts of a piece from a sector on sum its elements from there on. -/
theorem Device.Summed.foldl_applyPart (halign : q.off % 32 = 0) (fuel : Nat) {a len : Nat} (k : Nat) {acc : Device × Bool × Bool}
    (h : s.Summed acc.1 q a) (ha : len = 0 ∨ a % 32 = 0) (hlen : a + len = pieceBytes q) (hfuel : len ≤ 32 * fuel) :
    s.Summed ((((cutBy 32 (q.off + a) fuel len).map (fun on => (on.1 - q.off, on.2))).zipIdx k).foldl (q.applyPart false) acc).1
      q (pieceBytes q) := by
  induction fuel generalizing a len k acc with
  | zero =>
    have hall : a = pieceBytes q := by omega
    exact hall ▸ h
  | succ fuel ih =>
    unfold cutBy
    by_cases h0 : len = 0
    · rw [if_pos h0]
      have hall : a = pieceBytes q := by omega
      exact hall ▸ h
    · have ha : a % 32 = 0 := ha.resolve_left h0
      have hsector : min len (32 - (q.off + a) % 32) = min len 32 := by
        have hoff : (q.off + a) % 32 = 0 := by omega
        rw [hoff]
      have hwords : pieceBytes q % 4 = 0 := Nat.mul_mod_right 4 _
      obtain ⟨hgood, -⟩ := h.good.good a (by omega)
      rw [if_neg h0]
      dsimp only
      rw [hsector, List.map_cons, List.zipIdx_cons, List.foldl_cons, Nat.add_assoc q.off, Nat.add_sub_cancel_left]
      refine ih (k + 1) ?_ (by omega) (by omega) (by omega)
      have hstep : (q.applyPart false acc ((a, min len 32), k)).1 =
          (acc.1.writeSector q.part q.pool (q.off + a) (acc.1.sumBytes q a (min len 32)) q.view q.user).1 :=
        Device.applySector_sum hbad hgood (by omega) ..
      rw [hstep]
      exact h.writeSector halign ha (by omega) (by omega) (by omega) ..

include hbad in
/-- The parts of a piece of good target sum its elements. -/
theorem Device.GoodUnder.summed (hgood : s.GoodUnder q) (halign : q.off % 32 = 0) :
    s.Summed (((dataParts q.off (pieceBytes q)).zipIdx).foldl (q.applyPart false) (s, false, false)).1 q (pieceBytes q) := by
  have hstart : s.Summed s q 0 := ⟨.refl s, hgood, fun i _ => (if_neg (Nat.not_lt_zero _)).symm⟩
  exact hstart.foldl_applyPart hbad halign (pieceBytes q / 32 + 2) 0 (acc := (s, false, false)) (.inr rfl) (Nat.zero_add _) (by omega)

end Piece

/-! ## An increment of a counter in local store -/

/-- Memory and the time are the same. -/
def Device.MemoryKept (s t : Device) : Prop := t.mem = s.mem ∧ t.lintel = s.lintel

section Increment

variable (s : Device) (part : Nat)

theorem Device.counterLost_keeps (key addr status : Nat) : s.MemoryKept (s.counterLost part key addr status) := by
  unfold Device.counterLost
  dsimp only
  split
  · exact ⟨rfl, rfl⟩
  · exact ⟨Device.raisePart_mem, Device.raisePart_lintel ..⟩

theorem Device.loseIncrement_keeps (c : CtrLoc) (status : Nat) : s.MemoryKept (s.loseIncrement part c status) :=
  Device.counterLost_keeps ..

variable {s part} in
/-- A counter in local store is rewritten in its pane. -/
theorem Device.rewriteCounter_local {t : Device} {c : CtrLoc} {f : Nat → Nat} (hlocal : c.memory = false)
    (h : s.rewriteCounter part c f = .ok t) : s.MemoryKept t := by
  unfold Device.rewriteCounter at h
  rw [hlocal, if_neg Bool.false_ne_true] at h
  dsimp only at h
  split at h
  · cases h
  · split at h
    · cases h
    · cases h
      exact ⟨rfl, rfl⟩

theorem Device.increment_local {c : CtrLoc} (hlocal : c.memory = false) (value status : Nat) :
    s.MemoryKept (s.increment part c value status) := by
  unfold Device.increment
  split
  · next h => exact Device.rewriteCounter_local hlocal h
  · exact Device.loseIncrement_keeps ..

/-- An arrival increment of a counter in local store leaves memory, whether it is made or lost (R218, R466). -/
theorem Device.arrivalIncrement_local {rctr : Nat} (hlocal : fld rctr 48 4 = 1) (value status : Nat) :
    s.MemoryKept (s.arrivalIncrement part rctr value status) := by
  unfold Device.arrivalIncrement
  rw [hlocal]
  dsimp only
  split
  · exact Device.loseIncrement_keeps ..
  · rw [if_neg Nat.one_ne_zero, if_pos rfl]
    split
    · exact Device.increment_local s part rfl ..
    · exact Device.loseIncrement_keeps ..

/-- What follows the write of a piece, whose counter is in local store, leaves the bytes of memory, the held pieces and the time. -/
theorem Device.whenWritten_arrival_local {rctr : Nat} (hlocal : fld rctr 48 4 = 1) (ids : List Nat) (status : Nat) :
    let t := s.whenWritten ids (.arrival part rctr status)
    t.mem.bytes = s.mem.bytes ∧ t.mem.held = s.mem.held ∧ t.lintel = s.lintel := by
  unfold Device.whenWritten
  dsimp only
  split
  · obtain ⟨hmem, hlintel⟩ := Device.arrivalIncrement_local s part hlocal 1 status
    exact ⟨congrArg MemSt.bytes hmem, congrArg MemSt.held hmem, hlintel⟩
  · exact ⟨rfl, rfl, rfl⟩

theorem Device.logMem_keeps (chip owner pool off len : Nat) :
    let t := s.logMem part chip owner pool off len
    t.mem.bytes = s.mem.bytes ∧ t.mem.held = s.mem.held ∧ t.lintel = s.lintel := by
  unfold Device.logMem
  dsimp only
  split <;> exact ⟨rfl, rfl, rfl⟩

end Increment

/-! ## A piece in its turn -/

/-- The stall timer of a range runs from now while the range holds pieces (R226). -/
theorem Device.find_restartStall (s : Device) (range : Nat) :
    SMap.find (s.restartStall range).mem.stall range = if s.heldIn range = [] then none else some s.now := by
  unfold Device.restartStall
  dsimp only
  by_cases hempty : s.heldIn range = []
  · rw [if_pos (List.isEmpty_iff.2 hempty), if_pos hempty, SMap.find_del_same]
  · rw [if_neg (fun h => hempty (List.isEmpty_iff.1 h)), if_neg hempty, SMap.find_put_same]

section Turn

variable {s : Device} {q : Piece} (hbad : q.bad = []) (hshard : s.pieceShard q = none) (hlocal : fld q.rctr 48 4 = 1)
  (hgood : s.GoodUnder q) (halign : q.off % 32 = 0)

include hbad hshard hlocal hgood halign

/-- A piece outside every shard is applied: each of its elements is summed, in one rounding each (R222, R224). -/
theorem Device.applyPiece_sums :
    (∀ i, 4 * i < pieceBytes q → (s.applyPiece q).bytesAt q.part q.pool 0 (q.off + 4 * i) 4 = bytesOf (s.sumOf q i) 4)
      ∧ (s.applyPiece q).mem.held = s.mem.held ∧ (s.applyPiece q).lintel = s.lintel := by
  have happly : s.applyPiece q =
      let r := ((dataParts q.off (pieceBytes q)).zipIdx).foldl (q.applyPart false) (s, false, false)
      let t := r.1.logMem q.user q.src q.part q.pool q.off (pieceBytes q)
      t.whenWritten (t.newForwards s) (.arrival q.user q.rctr (if r.2.1 then stPoison else stOk)) := by
    unfold Device.applyPiece
    rw [hshard]
    rfl
  obtain ⟨hsteady, -, hwords⟩ := hgood.summed hbad halign
  rw [happly]
  generalize ((dataParts q.off (pieceBytes q)).zipIdx).foldl (q.applyPart false) (s, false, false) = r at hsteady hwords ⊢
  dsimp only
  obtain ⟨hbytes, hheld, hlintel⟩ := Device.logMem_keeps r.1 q.user q.src q.part q.pool q.off (pieceBytes q)
  generalize r.1.logMem q.user q.src q.part q.pool q.off (pieceBytes q) = t at hbytes hheld hlintel ⊢
  obtain ⟨hbytes', hheld', hlintel'⟩ :=
    Device.whenWritten_arrival_local t q.user hlocal (t.newForwards s) (if r.2.1 then stPoison else stOk)
  refine ⟨fun i hi => ?_, hheld'.trans (hheld.trans hsteady.held), hlintel'.trans (hlintel.trans hsteady.lintel)⟩
  rw [Device.bytesAt_congr (hbytes'.trans hbytes), hwords i hi, if_pos hi]

variable (hnone : ∀ h ∈ s.mem.held, h.range = q.range → h.seq ≠ (s.nextOf q.range + 1) % 2 ^ 32)

include hnone

/-- A piece in its turn is applied and NEXT advances; where no held piece is the next, the stall timer starts again or stops
(R222, R226). -/
theorem Device.applyInOrder_one (fuel : Nat) :
    s.applyInOrder q (fuel + 1) = ((s.applyPiece q).setNext q.range (s.nextOf q.range + 1)).restartStall q.range := by
  obtain ⟨-, hheld, -⟩ := Device.applyPiece_sums hbad hshard hlocal hgood halign
  have hnext : ((s.applyPiece q).setNext q.range (s.nextOf q.range + 1)).nextOf q.range = (s.nextOf q.range + 1) % 2 ^ 32 :=
    SMap.get_keep_same ..
  have hfind : ((s.applyPiece q).setNext q.range (s.nextOf q.range + 1)).mem.held.find? (fun h => h.range == q.range
      && h.seq == ((s.applyPiece q).setNext q.range (s.nextOf q.range + 1)).nextOf q.range) = none := by
    have hkept : ((s.applyPiece q).setNext q.range (s.nextOf q.range + 1)).mem.held = s.mem.held := hheld
    rw [hnext, hkept]
    refine List.find?_eq_none.2 fun h hh => ?_
    simpa using hnone h hh
  unfold Device.applyInOrder
  dsimp only
  rw [hfind]

/-- A piece in its turn, with no held piece next behind it: its elements are summed, NEXT is the next number, and the stall timer
runs from now while the range holds pieces. -/
theorem Device.applyInOrder_one_result (fuel : Nat) :
    let t := s.applyInOrder q (fuel + 1)
    t.nextOf q.range = (s.nextOf q.range + 1) % 2 ^ 32
      ∧ (∀ i, 4 * i < pieceBytes q → ofBytes (t.bytesAt q.part q.pool 0 (q.off + 4 * i) 4) = s.sumOf q i)
      ∧ SMap.find t.mem.stall q.range = (if s.heldIn q.range = [] then none else some s.now) := by
  dsimp only
  rw [Device.applyInOrder_one hbad hshard hlocal hgood halign hnone fuel]
  obtain ⟨hwords, hheld, hlintel⟩ := Device.applyPiece_sums hbad hshard hlocal hgood halign
  generalize s.applyPiece q = u at hwords hheld hlintel ⊢
  have hin : (u.setNext q.range (s.nextOf q.range + 1)).heldIn q.range = s.heldIn q.range :=
    congrArg (List.filter (fun h : Piece => h.range == q.range)) hheld
  have hnow : (u.setNext q.range (s.nextOf q.range + 1)).now = s.now := congrArg LintelSt.now hlintel
  refine ⟨SMap.get_keep_same .., fun i hi => ?_, ?_⟩
  · have hbytes : ((u.setNext q.range (s.nextOf q.range + 1)).restartStall q.range).mem.bytes = u.mem.bytes := rfl
    rw [Device.bytesAt_congr hbytes, hwords i hi]
    exact ofBytes_sumElement ..
  · rw [Device.find_restartStall, hin, hnow]

end Turn

end Sys2Proof.Machine
end

section
/-! SUPPORT. Stalled ranges (R226): the expiry of a range's timer, and a piece of one segment that is held or applied in its turn. -/

namespace Sys2Proof.Machine

/-! ## The expiry of a stall timer (R226) -/

/-- The sill without the held pieces of a range and its timer. -/
def Device.dropRange (s : Device) (key : Nat) : Device :=
  { s with mem := { s.mem with held := s.mem.held.filter (·.range != key), stall := SMap.del s.mem.stall key } }

/-- A range has reached the collective watchdog: its pieces are dropped and counted, and ORDER_STALL is raised. -/
def Device.orderStalled (s : Device) (part pool range : Nat) : Device :=
  let key := rangeKey part pool (range * 32768)
  ((s.dropRange key).odCount part 0x6130 6 0 (s.heldIn key).length).raisePart part 0x6002 2
    [((s.part part).vaOf part pool (range * 32768), 8), (s.nextOf key, 4)]

section Stall

variable {s : State} {part pool range t0 : Nat}
  (hstall : SMap.find s.mem.stall (rangeKey part pool (range * 32768)) = some t0)

include hstall

/-- A timer that has not expired is left alone. -/
theorem exec_orderStall_early (h : s.now < t0 + 1000 * s.odGet part 0x6112 0) : Gives (.orderStall part pool range) s s.toDevice := by
  show execOrderStall part pool range s = _
  refine onDevice_next ?_
  dsimp only
  rw [hstall]
  exact if_pos h

theorem exec_orderStall_due (h : t0 + 1000 * s.odGet part 0x6112 0 ≤ s.now) :
    exec (.orderStall part pool range) s = .next { s with toDevice := s.orderStalled part pool range } := by
  show execOrderStall part pool range s = _
  refine onDevice_next ?_
  dsimp only
  rw [hstall]
  exact if_neg (Nat.not_lt.2 h)

end Stall

section Dropped

variable (s : Device) (part pool range : Nat)

/-- The pieces dropped are counted in OD 0x6130.06. -/
theorem Device.orderStalled_count :
    (s.orderStalled part pool range).odGet part 0x6130 6 =
      min (s.odGet part 0x6130 6 + (s.heldIn (rangeKey part pool (range * 32768))).length) (2 ^ 64 - 1) := by
  have hkey : odKey part 0x6130 6 0 ≠ odKey 0 0x8002 0 0 := by unfold odKey; omega
  exact (Device.odGet_raisePart _ hkey).trans (Device.odGet_odCount ..)

/-- A stalled range's held pieces are discarded and counted, its timer stops, ORDER_STALL names its address and NEXT, and nothing
else of memory and no pane changes. -/
theorem Device.orderStalled_result :
    let key := rangeKey part pool (range * 32768)
    let t := s.orderStalled part pool range
    t.mem.bytes = s.mem.bytes ∧ t.mem.order = s.mem.order ∧ t.panes = s.panes
      ∧ t.mem.held = s.mem.held.filter (fun h => h.range != key) ∧ SMap.find t.mem.stall key = none
      ∧ t.odGet part 0x6130 6 = min (s.odGet part 0x6130 6 + (s.heldIn key).length) (2 ^ 64 - 1)
      ∧ eventBody 0x6002 2 part s.now [((s.part part).vaOf part pool (range * 32768), 8), (s.nextOf key, 4)] ∈ (t.part part).events := by
  have hmem : (s.orderStalled part pool range).mem = (s.dropRange (rangeKey part pool (range * 32768))).mem := Device.raisePart_mem
  dsimp only
  rw [hmem]
  exact ⟨rfl, rfl, Device.raisePart_panes .., rfl, SMap.find_del_same .., s.orderStalled_count part pool range,
    Device.eventBody_mem_events_raisePart ..⟩

end Dropped

/-! ## A piece of one segment at its sill (R221, R222) -/

/-- The piece that a packet of one segment makes at its target. -/
def pieceOf (p : Packet) (part : Nat) (q : Target) : Piece :=
  { part := q.owner, pool := q.pool, range := rangeKey q.owner q.pool q.off, seq := p.arg, off := q.off, elt := p.elt, data := p.data,
    bad := [], rctr := p.rctr, src := p.src, user := part, view := q.map.view }

/-- A last segment numbered 0 is a whole piece. -/
theorem wholePiece_single {p : Packet} (h : p.status = 64) : wholePiece [p] = some [p] := by
  have hlast : bit p.status 6 = true := by rw [h]; rfl
  have hindex : p.status % 64 = 0 := by rw [h]
  have hfind : [p].find? (fun g => bit g.status 6) = some p := List.find?_cons_of_pos hlast
  unfold wholePiece
  rw [hfind]
  simp only [hindex, Nat.zero_add, List.range_one, List.filterMap_cons, List.find?_cons, BEq.rfl, List.filterMap_nil,
    List.length_singleton, ↓reduceIte]

section Single

variable {s : Device} {p : Packet} {part : Nat} {q : Target} (hpart : s.jobPart? p.job = some part)
  (hsegs : s.pieceSegments p = []) (hstatus : p.status = 64) (hspace : p.space = 0) (hpoison : p.poison = [])
  (hreach : s.reach part p.src 0 p.taddr (4 * (p.data.length / contributionBytes p.elt)) .accumulate = .ok (.mem q))
  (hkind : q.map.kind = 0)

include hpart hsegs hstatus hspace hpoison hreach hkind

/-- A segment that is a whole piece passes the checks of its target and is taken (Table 09-2). -/
theorem Device.accputPacket_single : s.accputPacket p = s.takePiece p part (pieceOf p part q) := by
  have hcheck : s.checkPiece part [p] p = s.takePiece p part (pieceOf p part q) := by
    unfold Device.checkPiece
    simp only [List.flatMap_cons, List.flatMap_nil, List.append_nil, hspace, bne_self_eq_false, Bool.false_eq_true, ↓reduceIte,
      hreach, hkind, hpoison, List.foldl_cons, List.foldl_nil, List.map_nil]
    rfl
  have hkeep : s.mem.segs.filter (fun g => !([] : List Packet).contains g) = s.mem.segs := by simp
  unfold Device.accputPacket Device.inJob
  rw [hpart]
  dsimp only
  rw [hsegs, List.filter_nil, List.nil_append, wholePiece_single hstatus]
  dsimp only
  rw [hkeep]
  exact hcheck

end Single

/-! ## A piece is held, or applied in its turn -/

section Take

variable (s : Device) (p : Packet) (part : Nat) (q : Piece)

/-- Noting what an operation writes changes the operations. -/
theorem Device.noteWritten_rest : s.noteWritten p q = { s with fabric := (s.noteWritten p q).fabric } := by
  unfold Device.noteWritten
  split <;> rfl

variable {s q}

/-- A piece ahead of its turn for which the staging region has room is held: it is answered OK, and starts the stall timer of a range
that held none (R222, R226). -/
theorem Device.takePiece_held (hahead : 0 < (q.seq + 2 ^ 32 - s.nextOf q.range) % 2 ^ 32)
    (hwindow : (q.seq + 2 ^ 32 - s.nextOf q.range) % 2 ^ 32 < 2 ^ 31) (htwin : s.twinHeld q = false) (hroom : s.hasRoom q = true) :
    Answered (s.takePiece p part q) p 8 stOk []
      ∧ SMap.find (s.takePiece p part q).mem.stall q.range =
          (if s.heldIn q.range = [] then some s.now else SMap.find s.mem.stall q.range) := by
  unfold Device.takePiece
  dsimp only
  rw [if_neg (Nat.pos_iff_ne_zero.1 hahead), htwin, Bool.or_false, if_neg (by simpa using hwindow), if_pos hroom]
  refine ⟨Device.answered_respond .., ?_⟩
  rw [Device.respond_mem, Device.noteWritten_rest]
  dsimp only
  by_cases hempty : s.heldIn q.range = []
  · rw [if_pos (List.isEmpty_iff.2 hempty), if_pos hempty, SMap.find_put_same]
  · rw [if_neg (fun h => hempty (List.isEmpty_iff.1 h)), if_neg hempty]

/-- A piece in its turn with no held piece next behind it: its elements are summed, NEXT is the next number, and the stall timer
runs from now while the range holds pieces (R222, R224, R226). -/
theorem Device.takePiece_inTurn (hturn : (q.seq + 2 ^ 32 - s.nextOf q.range) % 2 ^ 32 = 0) (hbad : q.bad = [])
    (hshard : s.pieceShard q = none) (hlocal : fld q.rctr 48 4 = 1) (hgood : s.GoodUnder q) (halign : q.off % 32 = 0)
    (hnone : ∀ h ∈ s.mem.held, h.range = q.range → h.seq ≠ (s.nextOf q.range + 1) % 2 ^ 32) :
    let t := s.takePiece p part q
    t.nextOf q.range = (s.nextOf q.range + 1) % 2 ^ 32
      ∧ (∀ i, 4 * i < pieceBytes q → ofBytes (t.bytesAt q.part q.pool 0 (q.off + 4 * i) 4) = s.sumOf q i)
      ∧ SMap.find t.mem.stall q.range = (if s.heldIn q.range = [] then none else some s.now) := by
  have hnote : (s.noteWritten p q).GoodUnder q := by
    rw [Device.noteWritten_rest]
    exact ⟨hgood.copies, hgood.wf, hgood.good⟩
  have hresult := Device.applyInOrder_one_result (s := s.noteWritten p q) hbad (by rw [Device.noteWritten_rest]; exact hshard)
    hlocal hnote halign (by rw [Device.noteWritten_rest]; exact hnone) s.mem.held.length
  have htake : s.takePiece p part q = ((s.noteWritten p q).applyInOrder q (s.mem.held.length + 1)).respond p 8 stOk := if_pos hturn
  rw [htake]
  generalize (s.noteWritten p q).applyInOrder q (s.mem.held.length + 1) = u at hresult ⊢
  rw [Device.noteWritten_rest] at hresult
  obtain ⟨hnextOf, hsums, hstall⟩ := hresult
  have hmem : (u.respond p 8 stOk).mem = u.mem := Device.respond_mem ..
  refine ⟨?_, fun i hi => ?_, hmem ▸ hstall⟩
  · unfold Device.nextOf
    rw [hmem]
    exact hnextOf
  · rw [Device.bytesAt_congr (congrArg MemSt.bytes hmem)]
    exact hsums i hi

end Take

/-- A whole piece in a packet that has arrived is taken by its sill. -/
theorem exec_accputPacket_single {s : State} {p : Packet} {part : Nat} {q : Target} (harrives : Arrives s.toDevice 4 p)
    (hpart : s.jobPart? p.job = some part) (hsegs : s.pieceSegments p = []) (hstatus : p.status = 64) (hspace : p.space = 0)
    (hpoison : p.poison = [])
    (hreach : s.reach part p.src 0 p.taddr (4 * (p.data.length / contributionBytes p.elt)) .accumulate = .ok (.mem q))
    (hkind : q.map.kind = 0) :
    exec (.accputPacket p) s = .next { s with toDevice := (s.takeArrival p).takePiece p part (pieceOf p part q) } := by
  have htaken : (s.takeArrival p).accputPacket p = (s.takeArrival p).takePiece p part (pieceOf p part q) := by
    rw [Device.takeArrival_rest]
    exact Device.accputPacket_single hpart hsegs hstatus hspace hpoison hreach hkind
  show execAccputPacket p s = _
  refine onDevice_next ?_
  rw [packetRow_of_arrives harrives, htaken]

/-- A piece outside every shard, or with no held piece of its number, is no second contribution (R258). -/
theorem Device.twinHeld_eq_false {s : Device} {q : Piece} (h : s.pieceShard q = none ∨ ∀ k ∈ s.heldIn q.range, k.seq ≠ q.seq) :
    s.twinHeld q = false := by
  unfold Device.twinHeld
  rcases h with hshard | hothers
  · rw [hshard]
    rfl
  · have hany : (s.heldIn q.range).any (fun k => k.seq == q.seq) = false :=
      List.any_eq_false.2 fun k hk heq => hothers k hk (beq_iff_eq.1 heq)
    rw [hany, Bool.and_false]

/-! ## The statement -/

/-- Settles O22: a held piece and one in its turn go through `takePiece`, which sets the timer in the one branch and restarts or stops it
in the other; the expiry is one step. -/
theorem stalledRanges : Obligations.StalledRanges := by
  unfold Obligations.StalledRanges
  constructor
  · intro p s part q harrives hpart hsegs hstatus hspace hpoison hlocal hseq
    dsimp only
    intro hreach hkind hnext
    have hexec := exec_accputPacket_single harrives hpart hsegs hstatus hspace hpoison hreach hkind
    obtain ⟨f, e, htaken⟩ : ∃ f e, s.takeArrival p = { s.toDevice with fabric := f, sent := e } := ⟨_, _, Device.takeArrival_rest ..⟩
    rw [htaken] at hexec
    constructor
    · intro hahead hwindow htwin hroom
      obtain ⟨hanswer, hstall⟩ := Device.takePiece_held (s := { s.toDevice with fabric := f, sent := e }) (q := pieceOf p part q) p part
        hahead hwindow (Device.twinHeld_eq_false htwin) (decide_eq_true hroom)
      exact ⟨_, hexec, rfl, hanswer, hstall⟩
    · intro hturn hcopies halign hlimit hshard hothers hwf hgood
      obtain ⟨hnextOf, hsums, hstall⟩ := Device.takePiece_inTurn (s := { s.toDevice with fabric := f, sent := e }) (q := pieceOf p part q)
        p part hturn rfl hshard hlocal ⟨hcopies, hwf, hgood⟩ halign hothers
      have hbytes : pieceBytes (pieceOf p part q) = 4 * (p.data.length / contributionBytes p.elt) := rfl
      exact ⟨_, hexec, rfl, hnextOf, fun i hi => hsums i (by omega), hstall⟩
  · intro part pool range t0 s hstall
    exact ⟨exec_orderStall_early hstall, fun hdue => ⟨_, exec_orderStall_due hstall hdue, rfl, s.orderStalled_result part pool range⟩⟩

end Sys2Proof.Machine
end

section
/-! SUPPORT. An action that completes at once (R335): what its write finds once it is accepted (R342, R346), what its body starts from, and
what its completion leaves. -/

namespace Sys2Proof.Machine

/-! ## Its acceptance (R342, R346) -/

/-- A session that has taken a request, whose response is still to come. -/
def Session.taking (x : Session) (now seq : Nat) : Session := { x with lastMsg := now, lastSeq := seq, kept := none, busy := some seq }

/-- The module that has taken a request of a session. -/
def Device.taking (s : Device) (m : TMsg) (x : Session) : Device :=
  (s.setSession m.session { x with lastMsg := s.now }).setSession m.session (x.taking s.now m.seq)

/-- The module as the body of an action finds it: the write is accepted, and its action holds its sequence. -/
def Device.acts (s : Device) (m : TMsg) (x : Session) (e : Entry) : Device :=
  let u := s.taking m x
  { u with transom := { u.transom with queued := u.transom.queued.filter (· != (x.part, m))
                                       acting := SMap.put u.transom.acting (sequenceOf e x.part) (x.part, m) } }

section Acts

variable {s : Device} {m : TMsg} {x : Session} {e : Entry}

theorem Device.request_accepted {type : Nat} (h : Accepted s type m x) (k : Device → Session → Device) :
    s.request type m k = k (s.taking m x) (x.taking s.now m.seq) := by
  obtain ⟨hsession, hcarries, hheader, hrsv, hbusy, hseq⟩ := h
  have hidle : x.busy.isSome = false := by rw [hbusy]; rfl
  have hnew : m.seq ≠ x.lastSeq := by omega
  unfold Device.request
  rw [hsession]
  simp only [hcarries, hheader, hrsv, hidle, hnew, Bool.not_true, Bool.false_eq_true, ↓reduceIte, bne_self_eq_false, if_pos hseq]
  rfl

/-- The entry of a request within reach is the one that its index and sub-index name. -/
theorem Device.odEntry_of_entryFor {write : Bool} (h : s.entryFor x m write = .ok e) : odEntry m.index m.sub = some e := by
  unfold Device.entryFor at h
  split at h
  · cases h
  · cases hentry : odEntry m.index m.sub with
    | none =>
      rw [hentry] at h
      dsimp only at h
      (repeat' split at h) <;> cases h
    | some e' =>
      rw [hentry] at h
      dsimp only at h
      (repeat' split at h) <;> cases h
      rfl

/-- A write that its checks pass starts its action, which finds its sequence free (R332, R335, R340). -/
theorem Device.writeAction_acts (h : Acts s m x e) (k : ActionBody) :
    (s.taking m x).writeAction (x.taking s.now m.seq) m k = (s.taking m x).runAction e x.part m k := by
  obtain ⟨-, hentry, htype, hbool, hfenced, hfree, hwaiting, hmanaged, -⟩ := h
  have hentry' : (s.taking m x).entryFor (x.taking s.now m.seq) m true = .ok e := hentry
  have htype' : (!typeOk e m.value || (e.type == .bool && ofBytes m.value != 1)) = false := by simpa [htype] using hbool
  have hfenced' : (s.taking m x).writeFenced (x.taking s.now m.seq).part e = false := hfenced
  have hfree' : SMap.find (s.taking m x).transom.acting (sequenceOf e (x.taking s.now m.seq).part) = none := hfree
  have hwaiting' : (s.taking m x).waitingIn (sequenceOf e (x.taking s.now m.seq).part) = [] := hwaiting
  have hmanaged' : (e.index == 0x6010 && (s.taking m x).queueManages (x.taking s.now m.seq).part) = false := by
    simp only [Bool.and_eq_false_imp, beq_iff_eq]
    exact hmanaged
  unfold Device.writeAction Device.startAction
  simp only [hentry', htype', hfenced', hfree', hwaiting', hmanaged', Bool.false_eq_true, ↓reduceIte, Option.isNone_none, List.head?_nil,
    Bool.true_or, Bool.and_self, Bool.not_false]
  rfl

/-- The row of an action whose write its checks pass runs the action's body, and completes the action with the body's status. -/
theorem actionRow_atOnce {index : Nat} {mine : TMsg → Bool} {k : Device → Nat → TMsg → Device × Nat} (h : Acts s m x e)
    (hindex : m.index = index) (hmine : mine m = true) :
    actionRow index mine m s (atOnce k) =
      .next ((k (s.acts m x e) x.part m).1.finishAction x.part m (k (s.acts m x e) x.part m).2) := by
  have hnew : s.transom.queued.find? (fun pm => pm.2 == m) = none := by
    obtain ⟨-, -, -, -, -, -, -, -, hqueued⟩ := h
    simpa using hqueued
  unfold actionRow
  rw [hnew, Device.request_accepted h.1, Device.writeAction_acts h]
  simp only [hindex, hmine, bne_self_eq_false, Bool.not_true, Bool.or_self, Bool.false_eq_true, ↓reduceIte]
  rfl

end Acts

/-! ## Its completion (R335, R344) -/

theorem SMap.find_isSome_of_mem {α : Type} {m : SMap α} {j : Nat} {v : α} (h : (j, v) ∈ m) : (SMap.find m j).isSome = true := by
  induction m with
  | nil => cases h
  | cons a rest ih =>
    obtain ⟨k, w⟩ := a
    simp only [SMap.find]
    split
    · rfl
    · rename_i hk
      rcases List.mem_cons.1 h with h | h
      · exact absurd (congrArg Prod.fst h) hk
      · exact ih h

section Completion

variable (s : Device) (part : Nat) (m : TMsg) (status : Nat)

/-- An answer changes the sessions and what is sent. -/
theorem Device.reply_rest (type more : Nat) (body : List Byte) :
    let t := s.reply m type status more body
    t = { s with transom := { s.transom with sessions := t.transom.sessions }, sent := t.sent } := by
  unfold Device.reply
  split <;> rfl

/-- The completion of an action changes the actions that run, the statuses kept, the sessions, and what is sent. -/
theorem Device.finishAction_rest :
    let t := s.finishAction part m status
    t = { s with transom := { s.transom with acting := t.transom.acting, devStatus := t.transom.devStatus, sessions := t.transom.sessions }
                 parts := t.parts, sent := t.sent } := by
  unfold Device.finishAction Device.setLastStatus Device.answer Device.reply
  (repeat' (first | split | dsimp only)) <;> rfl

@[simp] theorem Device.finishAction_power : (s.finishAction part m status).power = s.power := by rw [Device.finishAction_rest]
@[simp] theorem Device.finishAction_boot : (s.finishAction part m status).boot = s.boot := by rw [Device.finishAction_rest]
@[simp] theorem Device.finishAction_alerts : (s.finishAction part m status).transom.alerts = s.transom.alerts := by
  rw [Device.finishAction_rest]

/-- An action that runs leaves its sequence free once it completes. -/
theorem SMap.find_acting_finished {acting : SMap (Nat × TMsg)} {seq : Nat} (hfree : SMap.find acting seq = none) :
    SMap.find ((SMap.put acting seq (part, m)).filter (fun kv => !(kv.1 == seq && kv.2.2 == m))) seq = none := by
  cases hfind : SMap.find ((SMap.put acting seq (part, m)).filter (fun kv => !(kv.1 == seq && kv.2.2 == m))) seq with
  | none => rfl
  | some v =>
    obtain ⟨hmem, hother⟩ := List.mem_filter.1 (SMap.find_mem _ _ _ hfind)
    rcases SMap.mem_put _ _ _ _ hmem with heq | hmem
    · cases heq
      simp at hother
    · simpa [hfree] using SMap.find_isSome_of_mem hmem

section Status

variable (e : Entry)

theorem Device.lastStatus_setLastStatus : (s.setLastStatus part e status).lastStatus part e = status := by
  unfold Device.lastStatus Device.setLastStatus
  split <;> simp

@[simp] theorem Device.setLastStatus_sessions : (s.setLastStatus part e status).transom.sessions = s.transom.sessions := by
  unfold Device.setLastStatus
  split <;> rfl

@[simp] theorem Device.setLastStatus_acting : (s.setLastStatus part e status).transom.acting = s.transom.acting := by
  unfold Device.setLastStatus
  split <;> rfl

@[simp] theorem Device.answer_lastStatus (type k : Nat) : (s.answer m type k).lastStatus part e = s.lastStatus part e := by
  unfold Device.answer
  rw [Device.reply_rest]
  rfl

@[simp] theorem Device.answer_acting (type k : Nat) : (s.answer m type k).transom.acting = s.transom.acting := by
  unfold Device.answer
  rw [Device.reply_rest]

end Status

end Completion

section Done

variable {s d : Device} {m : TMsg} {x : Session} {e : Entry}

/-- A response leaves for its session, and the session keeps it and takes its next request. -/
theorem Device.responds_reply {y : Session} (type status more : Nat) (body : List Byte) (hsession : d.session? m.session = some y)
    (hiface : y.iface = x.iface) (hseq : y.lastSeq = m.seq) : Responds (d.reply m type status more body) x m type status more body := by
  unfold Responds Device.reply
  rw [hsession, ← hiface]
  dsimp only
  exact ⟨List.mem_append_right _ List.mem_cons_self, _, SMap.find_put_same .., hseq, rfl, rfl⟩

/-- An action that its sequence holds is done once it completes. -/
theorem Device.actionDone_finishAction (h : Acts s m x e) (status : Nat) (hsessions : d.transom.sessions = (s.acts m x e).transom.sessions)
    (hacting : d.transom.acting = (s.acts m x e).transom.acting) : ActionDone (d.finishAction x.part m status) x m e status := by
  obtain ⟨-, hentry, -, -, -, hfree, -⟩ := h
  have hsession : d.session? m.session = some (x.taking s.now m.seq) := by
    unfold Device.session?
    rw [hsessions]
    exact SMap.find_put_same ..
  unfold Device.finishAction
  rw [Device.odEntry_of_entryFor hentry]
  refine ⟨Device.responds_reply (y := x.taking s.now m.seq) 4 status 0 _ ?_ rfl rfl, ?_, ?_⟩
  · unfold Device.session? at hsession ⊢
    rw [Device.setLastStatus_sessions]
    exact hsession
  · rw [Device.answer_lastStatus, Device.lastStatus_setLastStatus]
  · rw [Device.answer_acting, Device.setLastStatus_acting, hacting]
    exact SMap.find_acting_finished _ _ hfree

/-- The command of an action that completes at once, from what its body makes of the module that acts. -/
theorem actionGives_atOnce {i : Instr} {s : State} {index status : Nat} {mine : TMsg → Bool} {k : Device → Nat → TMsg → Device × Nat}
    {P : Device → Prop} (hexec : exec i s = onDevice s (fun s => actionRow index mine m s (atOnce k))) (h : Acts s.toDevice m x e)
    (hindex : m.index = index) (hmine : mine m = true) (hbody : k (s.acts m x e) x.part m = (d, status))
    (hsessions : d.transom.sessions = (s.acts m x e).transom.sessions)
    (hacting : d.transom.acting = (s.acts m x e).transom.acting) (hP : P (d.finishAction x.part m status)) :
    ActionGives i s m x e status P := by
  have hrow := actionRow_atOnce (k := k) h hindex hmine
  rw [hbody] at hrow
  exact ⟨_, hexec.trans (onDevice_next hrow), rfl, Device.actionDone_finishAction h status hsessions hacting, hP⟩

end Done

end Sys2Proof.Machine
end

section
/-! SUPPORT. ALERT_N and OD 0x8052 (R455). -/

namespace Sys2Proof.Machine

/-! ## The conditions of OD 0x8052 -/

/-- Three flags at bits 0 to 2 of a number. -/
theorem bit_flags : ∀ a b c : Bool,
    let n := a.toNat + 2 * b.toNat + 4 * c.toNat
    bit n 0 = a ∧ bit n 1 = b ∧ bit n 2 = c ∧ ((n != 0) = (a || b || c)) := by decide

/-- Either sash is tripped, or the module is shuttered by heat. -/
def Device.hot (s : Device) : Bool := s.power.sash0.tripped || s.power.sash1.tripped || s.power.thermalShutter

theorem Device.hot_iff (s : Device) :
    s.hot = true ↔ s.power.sash0.tripped = true ∨ s.power.sash1.tripped = true ∨ s.power.thermalShutter = true := by
  simp [Device.hot, or_assoc]

/-- OD 0x8052 holds the three conditions, and is not zero while one of them holds. -/
theorem Device.alertBits_flags (s : Device) :
    bit s.alertBits 0 = s.transom.alerts ∧ bit s.alertBits 1 = s.hot ∧ bit s.alertBits 2 = (s.boot.state == 4)
      ∧ ((s.alertBits != 0) = (s.transom.alerts || s.hot || s.boot.state == 4)) := bit_flags ..

theorem Device.odRead_alertState (s : Device) (part : Nat) {e : Entry} (h : odEntry 0x8052 0 = some e) : s.odRead part e 0 = s.alertBits := by
  cases h
  rfl

/-! ## ALERT_N -/

theorem Device.alertLow_iff (s : Device) (hpower : s.boot.pwrgd = true) (hreset : s.boot.resetLow = false) :
    s.alertLow = true ↔ s.transom.alerts = true ∨ s.hot = true ∨ s.boot.state = 4 := by
  obtain ⟨-, -, -, hnonzero⟩ := s.alertBits_flags
  unfold Device.alertLow
  simp [hnonzero, hpower, hreset, or_assoc]

theorem Device.alertLow_released (s : Device) (h : s.boot.pwrgd = false ∨ s.boot.resetLow = true) : s.alertLow = false := by
  unfold Device.alertLow
  rcases h with h | h <;> simp [h]

/-! ## A DEV event, and the write of OD 0x8051 -/

theorem Device.raiseDev_alerts (s : Device) (code sev : Nat) (params : List (Nat × Nat)) :
    (s.raiseDev code sev params).transom.alerts = (s.transom.alerts || decide (s.odGet 0 0x8050 0 ≤ sev)) := by
  rw [Device.raiseDev_rest]
  rfl

theorem alertClear_gives {s : State} {m : TMsg} {x : Session} {e : Entry} (h : Acts s.toDevice m x e) (hindex : m.index = 0x8051) :
    ActionGives (.alertClear m) s m x e stOk (fun t => t.transom.alerts = false ∧ t.power = s.power ∧ t.boot = s.boot) :=
  actionGives_atOnce rfl h hindex rfl rfl rfl rfl
    ⟨Device.finishAction_alerts .., Device.finishAction_power .., Device.finishAction_boot ..⟩

/-! ## The statement -/

/-- Settles O34: the line and OD 0x8052 are read off the flags of `alertBits`; a DEV event sets the first flag from its threshold on, and
the action of OD 0x8051 clears that flag alone. -/
theorem alertLine : Obligations.AlertLine := by
  unfold Obligations.AlertLine
  refine ⟨fun s hpower hreset => ?_, Device.alertLow_released, Device.raiseDev_alerts, fun _ _ _ _ => alertClear_gives,
    fun s part e hentry => ?_⟩
  · rw [s.alertLow_iff hpower hreset, s.hot_iff, or_assoc, or_assoc]
  · obtain ⟨hevent, hhot, hfault, -⟩ := s.alertBits_flags
    rw [s.odRead_alertState part hentry, hevent, hhot, hfault, s.hot_iff, beq_iff_eq]
    exact ⟨rfl, Iff.rfl, Iff.rfl⟩

end Sys2Proof.Machine
end
